-- ==== Sys2Proof/Word.lean ====
section
/-! DEFINITION. The words of the part: bytes, channel and node numbers, eight-fold records, profile bins. -/

namespace Sys2Proof

/-- A byte of the trunk port. -/
abbrev Byte := BitVec 8

/-- A channel, 0..7 (00 Conventions, Numbering). -/
abbrev Chan := Fin 8

/-- A drive node address less 1: index `a` stands for address `a + 1`, 1..8 (00 Conventions, Numbering). -/
abbrev Node := Fin 8

/-- Eight like things, one per channel, per node address, or per bit position of a byte. -/
structure Oct (α : Type) where
  a0 : α
  a1 : α
  a2 : α
  a3 : α
  a4 : α
  a5 : α
  a6 : α
  a7 : α
deriving DecidableEq, Repr

/-- The item of index `i`. -/
def Oct.get {α : Type} (o : Oct α) : Fin 8 → α
  | 0 => o.a0
  | 1 => o.a1
  | 2 => o.a2
  | 3 => o.a3
  | 4 => o.a4
  | 5 => o.a5
  | 6 => o.a6
  | 7 => o.a7

/-- The record with the item of index `i` replaced. -/
def Oct.set {α : Type} (o : Oct α) (i : Fin 8) (x : α) : Oct α :=
  match i with
  | 0 => { o with a0 := x }
  | 1 => { o with a1 := x }
  | 2 => { o with a2 := x }
  | 3 => { o with a3 := x }
  | 4 => { o with a4 := x }
  | 5 => { o with a5 := x }
  | 6 => { o with a6 := x }
  | 7 => { o with a7 := x }

/-- The record of the eight values of a function. -/
def Oct.ofFn {α : Type} (f : Fin 8 → α) : Oct α :=
  { a0 := f 0, a1 := f 1, a2 := f 2, a3 := f 3, a4 := f 4, a5 := f 5, a6 := f 6, a7 := f 7 }

/-- Eight times the same item. -/
def Oct.const {α : Type} (x : α) : Oct α := Oct.ofFn (fun _ => x)

/-- Each item replaced by its image. -/
def Oct.map {α β : Type} (f : α → β) (o : Oct α) : Oct β := Oct.ofFn (fun i => f (o.get i))

/-- The eight items in index order. -/
def Oct.toList {α : Type} (o : Oct α) : List α :=
  [o.a0, o.a1, o.a2, o.a3, o.a4, o.a5, o.a6, o.a7]

/-- The eight indexes in ascending order: the channels, or the node addresses less 1. -/
def octIndexes : List (Fin 8) := [0, 1, 2, 3, 4, 5, 6, 7]

/-- 64 like things, one per bin of a profile, as eight rows of eight (03 R63). -/
abbrev Bins (α : Type) := Oct (Oct α)

/-- The item of bin `b`; bins are numbered 0..63 from the closed end. -/
def Bins.get {α : Type} (o : Bins α) (b : Fin 64) : α :=
  (Oct.get o ⟨b.val / 8, by omega⟩).get ⟨b.val % 8, by omega⟩

/-- The 64 items of a function of the bin. -/
def Bins.ofFn {α : Type} (f : Fin 64 → α) : Bins α :=
  Oct.ofFn fun i => Oct.ofFn fun j => f ⟨8 * i.val + j.val, by omega⟩

/-- The bins with the item of bin `b` replaced. -/
def Bins.set {α : Type} (o : Bins α) (b : Fin 64) (x : α) : Bins α :=
  Oct.set o ⟨b.val / 8, by omega⟩ ((Oct.get o ⟨b.val / 8, by omega⟩).set ⟨b.val % 8, by omega⟩ x)

/-- 64 times the same item. -/
def Bins.const {α : Type} (x : α) : Bins α := Oct.const (Oct.const x)

/-- The 64 items from bin 0 to bin 63. -/
def Bins.toList {α : Type} (o : Bins α) : List α := (Oct.toList o).flatMap Oct.toList

/-- `v` clamped to `lo..hi` (00 Conventions, Arithmetic). -/
def clamp (lo hi v : Int) : Int := if v < lo then lo else if hi < v then hi else v

end Sys2Proof
end

