-- ==== Sys2Proof/Config.lean ====
section
/-! DEFINITION. What the part fixes for good, and the free values: what the spec leaves open, about which nothing can be proved. -/

namespace Sys2Proof

/-- Half-milliseconds in one millisecond: the model's unit of time is 0.5 ms, the unit of BRANCH_PERIOD (07 R142).
DESIGN CHOICE, log 2. -/
def Config.ticksPerMs : Nat := 2

/-- Half-milliseconds in one unit of the part clock, 10 ms (00 Conventions, Units). -/
def Config.ticksPerClock : Nat := 20

/-- The node settle, switch settle and bus-off times, 20 ms each (08 R167, R169, R171), in 0.5 ms units. -/
def Config.settleTicks : Nat := 40

/-- The check-step timer, 10 ms (10 R189), in 0.5 ms units. -/
def Config.checkTicks : Nat := 20

/-- VBAT below this is a low sample, in mV (08 R165). -/
def Config.vbatLow : Nat := 6000

/-- VBAT at or above this is a high sample, in mV (08 R165). -/
def Config.vbatHigh : Nat := 7000

/-- The flat limit under CONFIG_FAULT, in 10 mA (02 R55). -/
def Config.fallbackLimit : Nat := 800

/-- The end of the fallback SEAL zone, in counts (02 R55, 03 R69). -/
def Config.fallbackSeal : Int := 16

/-- How many answers the answer list holds (09 R174). -/
def Config.answerSlots : Nat := 4

/-- FREE VALUE (log 3): which of the events that fall due in one tick is taken first. The spec gives the outcome
of each order (01 R19, 04 R106, 06 R138) and names none of them; argument: a fresh index, and the number of choices. -/
opaque Config.dueFirst : Nat → Nat → Nat

/-- FREE VALUE (log 4): whether the order fields of a CYCLE frame are taken before the side command it completes
(09 R175: they "stand in no order to the side channel"); argument: a fresh index. -/
opaque Config.ordersBeforeSide : Nat → Bool

/-- FREE VALUE (log 20): which kind of closure a KIND code above 2 acts as; only a storage fault leaves such a code, and no
rule names one (10 R184); argument: the code. -/
opaque Config.unnamedKind : Nat → Nat

/-- FREE VALUE (log 20): which side a SIDE code above 1 acts as (10 R184); argument: the code. -/
opaque Config.unnamedSide : Nat → Nat

/-- FREE VALUE (log 20): which kind of zone a zone record's kind code above 2 acts as (11 R191); argument: the code. -/
opaque Config.unnamedZoneKind : Nat → Nat

/-- FREE VALUE (log 20): the peak ratio candidate where a storage fault has left TRIP_LEVEL 0, a division by 0 (02 R60);
argument: the accumulator. -/
opaque Config.peakAtLevelZero : Nat → Nat

/-- FREE VALUE (log 5): which of several clashing channels LOCK-IN check 4 reports (10 R187); argument: the
channels that carry the NODE_ADDR of a lower channel. -/
opaque Config.clashReported : List Chan → Nat

end Sys2Proof
end

