-- ==== Sys2Proof/Machine/Blocks.lean ====
section
/-! DEFINITION. The records the blocks of the part hold, as plain data: names, settings, and one structure per block
(00 Block overview). Which value each item may take is in Machine/Ranges.lean, its value at reset in Machine/State.lean. -/

namespace Sys2Proof

/-! ### Names -/

/-- Channel states, in the order that codes them 0..6 (01 R2, 11 R190). -/
inductive ChanState where
  | absent | inhibited | idle | waiting | opening | closing | reversing
deriving DecidableEq, Repr

/-- The direction of an entry, a motion or an order. -/
inductive Dir where
  | toOpen | toClosed
deriving DecidableEq, Repr

/-- The origin of a motion or an entry (01 R2). -/
inductive Origin where
  | held | latched
deriving DecidableEq, Repr

/-- The source of an order and the class of a motion or entry, coded 0..2 (01 R18, 11 R190). -/
inductive Source where
  | user | rain | global
deriving DecidableEq, Repr

/-- Order kinds, coded 0..6 (11 R190). -/
inductive OrderKind where
  | none | stop | openHeld | closeHeld | openExpress | closeExpress | preset
deriving DecidableEq, Repr

/-- An order field: kind, source, preset index (01 R18). -/
structure Order where
  kind : OrderKind
  source : Source
  preset : Fin 4
deriving DecidableEq, Repr

/-- The ten refusal reasons, in the order of the checks of 01 R20. -/
inductive RefusalReason where
  | notReady | absent | inhibited | reversing | fallback | notCommissioned | unreferenced | escalated | lockout
  | degraded
deriving DecidableEq, Repr

/-- The part-wide operating phase, coded 0..2 (11 R190). -/
inductive Phase where
  | starting | setup | run
deriving DecidableEq, Repr

/-- The kind of a closure, coded 0..2 (10 R184). -/
inductive Kind where
  | window | slider | roof
deriving DecidableEq, Repr

/-- The side of a SLIDER, coded 0, 1 (10 R184). -/
inductive Side where
  | left | right
deriving DecidableEq, Repr

/-- Zone kinds, coded 0..2 (11 R191). -/
inductive ZoneKind where
  | protect | relaxed | seal
deriving DecidableEq, Repr

/-- Trip causes, coded 1..3 in a trip record; 0 is NONE (11 R191). -/
inductive TripCause where
  | accum | hard | stall
deriving DecidableEq, Repr

/-- Why a teach failed, coded 0..5 (03 R84, 11 R191). -/
inductive TeachReason where
  | trip | order | inhibited | blind | drift | short
deriving DecidableEq, Repr

/-- The teach state, coded 0..3 (03 R80). -/
inductive TeachState where
  | none | running | done
  | failed (why : TeachReason)
deriving DecidableEq, Repr

/-- The last reset cause, in the order of 08 R164. -/
inductive ResetCause where
  | powerOn | resetLine | supplyLow | resetPart
deriving DecidableEq, Repr

/-- The state of a node record (08 R168). -/
inductive RecordState where
  | enrolled | lost | mismatch
deriving DecidableEq, Repr

/-- The enrollment state (08 R168). -/
inductive EnrollState where
  | busOff | settle | offering | idle
deriving DecidableEq, Repr

/-- Status codes of an answer, coded 0..6 (11 R190). -/
inductive Status where
  | ok | unknownCommand | wrongPhase | badArgument | busy | checkFailed | notApplicable
deriving DecidableEq, Repr

/-- The way a management command reaches the part (09 R179, R180). -/
inductive Path where
  | command | side
deriving DecidableEq, Repr

/-! ### Settings (10 R184) -/

/-- The per-channel settings, ids 00h..17h in this order. -/
inductive ChanSetting where
  | kind | side | nodeAddr | travel | marginBase | roadFactor | cold1Margin | cold2Margin | windFactor | escalStep
  | tripLevel | decay | hardLimit | blanking | reverseDist | escalWindow | bandLow | bandHigh | driftTol | edgeMax
  | preset0 | preset1 | preset2 | preset3
deriving DecidableEq, Repr

/-- The global settings, ids 20h..3Eh in this order. -/
inductive GlobSetting where
  | slots | stagger | loadStep | queueTimeout | holdTimeout | trunkLoss | branchPeriod | dipStep | dipLevel
  | maskLength | maskBudget | uvLevel0 | uvLevel2 | gradeWindow | q1 | q2 | q3 | q4 | q5 | q6 | q7 | gradeHyst
  | degradedGrade | lostCount | blindCount | learnRough | learnMask | cold1Temp | cold2Temp | expectedNodes
  | windOnset
deriving DecidableEq, Repr

/-- The values of the per-channel settings of one channel. `kind` and `side` hold the codes of 10 R184. -/
structure ChanSettings where
  kind : Nat
  side : Nat
  nodeAddr : Nat
  travel : Nat
  marginBase : Nat
  roadFactor : Nat
  cold1Margin : Nat
  cold2Margin : Nat
  windFactor : Nat
  escalStep : Nat
  tripLevel : Nat
  decay : Nat
  hardLimit : Nat
  blanking : Nat
  reverseDist : Nat
  escalWindow : Nat
  bandLow : Nat
  bandHigh : Nat
  driftTol : Nat
  edgeMax : Nat
  preset0 : Nat
  preset1 : Nat
  preset2 : Nat
  preset3 : Nat
deriving DecidableEq, Repr

/-- The values of the global settings. -/
structure GlobSettings where
  slots : Nat
  stagger : Nat
  loadStep : Nat
  queueTimeout : Nat
  holdTimeout : Nat
  trunkLoss : Nat
  branchPeriod : Nat
  dipStep : Nat
  dipLevel : Nat
  maskLength : Nat
  maskBudget : Nat
  uvLevel0 : Nat
  uvLevel2 : Nat
  gradeWindow : Nat
  q1 : Nat
  q2 : Nat
  q3 : Nat
  q4 : Nat
  q5 : Nat
  q6 : Nat
  q7 : Nat
  gradeHyst : Nat
  degradedGrade : Nat
  lostCount : Nat
  blindCount : Nat
  learnRough : Nat
  learnMask : Nat
  cold1Temp : Int
  cold2Temp : Int
  expectedNodes : Nat
  windOnset : Nat
deriving DecidableEq, Repr

/-- A zone record (03 R67); `kind` holds the code of 11 R191. -/
structure Zone where
  start : Int
  stop : Int
  kind : Nat
  adjust : Int
deriving DecidableEq, Repr

/-- The settings image: settings, zone lists and baseline profiles (10.1). -/
structure Image where
  chan : Oct ChanSettings
  zones : Oct (List Zone)
  baseline : Oct (Bins Nat)
  glob : GlobSettings
deriving DecidableEq, Repr

/-! ### Channel controller (01 R2, R3) -/

/-- The items of a motion record, and of a queue entry beside its times (01 R2). -/
structure Motion where
  dir : Dir
  origin : Origin
  cls : Source
  target : Option Int
deriving DecidableEq, Repr

/-- The latched conditions of a channel (01 R27). -/
structure Latched where
  blindStop : Bool
  drift : Bool
  profileRepaired : Bool
  orderRefused : Bool
  startTimeout : Bool
deriving DecidableEq, Repr

/-- The inhibit causes of a channel (01 R5). -/
structure Causes where
  nodeLost : Bool
  nodeFault : Bool
  undervolt : Bool
deriving DecidableEq, Repr

/-- The channel record (01 R3). `hold` is the hold timer: stopped, or the instant of its expiry. -/
structure ChannelRecord where
  st : ChanState
  referenced : Bool
  pos : Int
  base : Option (BitVec 12)
  motion : Option Motion
  hold : Option Nat
  lastOrder : Order
  refusal : Option RefusalReason
  latched : Latched
  causes : Causes
deriving DecidableEq, Repr

/-! ### Pinch engine (02 R30, R58) -/

/-- A trip record (02 R58); cause none is NONE. -/
structure TripRecord where
  cause : Option TripCause
  pos : Int
  bin : Nat
  f : Nat
  r : Nat
  t : Nat
  a : Nat
  level : Nat
  speed : Nat
  stamp : Nat
deriving DecidableEq, Repr

/-- The engine context of a channel (02 R30). -/
structure EngineContext where
  f16 : Nat
  first : Bool
  acc : Nat
  blank : Nat
  peak : Nat
  trip : TripRecord
  tripFlag : Bool
deriving DecidableEq, Repr

/-! ### Profile store (03 R63); the baseline and the zone list are in the settings image -/

/-- The stroke marks (03 R73). -/
structure StrokeMarks where
  openedInRun : Bool
  escZero : Bool
  teachStroke : Bool
deriving DecidableEq, Repr

/-- The volatile part of the profile context of a channel (03 R63). -/
structure ProfileContext where
  working : Bins Nat
  stroke : Bins (Option Nat)
  visited : Nat
  marks : StrokeMarks
  teach : TeachState
  teachVisited : Nat
deriving DecidableEq, Repr

/-! ### Reversal unit (04 R88) -/

/-- The reversal context of a channel; `window` is the escalation window timer. -/
structure ReversalContext where
  target : Option Int
  level : Nat
  window : Option Nat
deriving DecidableEq, Repr

/-! ### Supply monitor (06 R121) -/

/-- The supply context of a channel. -/
structure SupplyContext where
  undervolt : Bool
  lowRun : Nat
  highRun : Nat
  mask : Nat
  prev : Option Nat
  strokeMask : Nat
deriving DecidableEq, Repr

/-- Everything the part holds per channel, beside the settings image. `readCopy` is the trunk port's read copy of
the trip record (09 R183). -/
structure ChannelUnit where
  ctl : ChannelRecord
  eng : EngineContext
  prof : ProfileContext
  rev : ReversalContext
  sup : SupplyContext
  readCopy : TripRecord
deriving DecidableEq, Repr

/-! ### Context unit (05 R107) -/

/-- The context record and its freshness mark. -/
structure ContextUnit where
  speed : Nat
  rough : Nat
  temp : Int
  crank : Bool
  movingL : Bool
  movingR : Bool
  fresh : Bool
deriving DecidableEq, Repr

/-! ### Slot arbiter (06 R127, R129, R132) -/

/-- An entry of the start queue; the place in the list is its age. -/
structure Entry where
  channel : Chan
  motion : Motion
  join : Nat
  expiry : Nat
deriving DecidableEq, Repr

/-- The motion slots held, the start queue (oldest first) and the stagger count. -/
structure SlotArbiter where
  slots : Oct Bool
  queue : List Entry
  stagger : Nat
deriving DecidableEq, Repr

/-! ### Branch port (07 R142, R145, R148) -/

/-- The node context of an address (07 R148). -/
structure NodeContext where
  keep : Option (BitVec 2)
  since : Nat
  badRun : Nat
  winPos : Nat
  winBad : Nat
  grade : Nat
  worst : Nat
deriving DecidableEq, Repr

/-- The branch port: cycle timer, bus power switch, the drive word of the running cycle (none before the first
cycle start), the place in the cycle, node contexts. `place` is how many of the cycle's nine slots 1..8 and 0 have ended, in
that order: 9 when all have, as before the first cycle (07 R143). -/
structure BranchPort where
  timer : Option Nat
  busPower : Bool
  driveWord : Option (BitVec 32)
  place : Nat
  nodes : Oct NodeContext
deriving DecidableEq, Repr

/-! ### Enrollment unit (08 R168) -/

/-- A node record; `mark` is the mismatch mark of a LOST record (08 R172). -/
structure NodeRecord where
  cls : BitVec 8
  tag : BitVec 24
  rated : BitVec 12
  st : RecordState
  mark : Bool
deriving DecidableEq, Repr

/-- What slot 0 of the running cycle is judged for: nothing (assign 0, or set aside), the offer of an enrollment
run (08 R169), or a rejoin of an address (08 R172). -/
inductive Slot0Use where
  | unused
  | offer
  | rejoin (a : Node)
deriving DecidableEq, Repr

/-- The enrollment unit. `settle` is the settle or bus-off time while it runs; `reading` is the address whose
reply slot the unit reads in this cycle (08 R169, R172), `followUp` the one it will read in the next. An address is one
of the 8 that exist, after a storage fault too (log 20). -/
structure EnrollmentUnit where
  table : Oct (Option NodeRecord)
  st : EnrollState
  offer : Node
  miss : Nat
  schedule : Oct Bool
  rejoinCount : Nat
  settle : Option Nat
  slot0 : Slot0Use
  reading : Option Node
  followUp : Option Node
  mismatch : Bool
  fromCold : Bool
deriving DecidableEq, Repr

/-! ### Trunk port (09) -/

/-- The receiver (09 R173); BODY holds the kind, the length and the bytes after the length byte, oldest first. -/
inductive Receiver where
  | hunt
  | kind
  | length (kind : Byte)
  | body (kind len : Byte) (got : List Byte)
deriving DecidableEq, Repr

/-- A side field: marker and fragment (09 R180, R181). -/
structure SideField where
  marker : Byte
  fragment : BitVec 16
deriving DecidableEq, Repr

/-- An answer to a command: code echo, status, 48 data bits (11 R191). -/
structure Reply where
  code : Byte
  status : Status
  data : BitVec 48
deriving DecidableEq, Repr

/-- What a REPORT carries beside its side field: part status and channel entries (09 R176, 11 R190). -/
structure ReportBody where
  part : BitVec 16
  entries : Oct (BitVec 32)
deriving DecidableEq, Repr

/-- The content of an answer; a REPORT has no body before its sending begins (09 R174, R176). -/
inductive AnswerBody where
  | response (r : Reply)
  | report (side : SideField) (body : Option ReportBody)
deriving DecidableEq, Repr

/-- An answer of the answer list; `resets` marks the one whose sending triggers a warm reset (08 R166). -/
structure Answer where
  body : AnswerBody
  resets : Bool
deriving DecidableEq, Repr

/-- The side collector: IDLE, or COLLECTING with the fragments taken so far (09 R180). -/
inductive Collector where
  | idle
  | collecting (got : List (BitVec 16))
deriving DecidableEq, Repr

/-- A pending side response and the number of the fragment it carries next (09 R181). -/
structure PendingResponse where
  reply : Reply
  next : Nat
deriving DecidableEq, Repr

/-- The trunk port. `resetArmed`: a side RESET PART has been taken and the REPORT of its frame has still to join
the answer list (08 R166). -/
structure TrunkPort where
  rx : Receiver
  answers : List Answer
  lossTimer : Option Nat
  collector : Collector
  response : Option PendingResponse
  wasLost : Bool
  sideAbort : Bool
  resetArmed : Bool
deriving DecidableEq, Repr

/-! ### Settings unit (10) -/

/-- The nonvolatile settings store (10 R186); `torn`: the last write did not complete and verify. -/
structure Store where
  written : Bool
  torn : Bool
  image : Image
  check : BitVec 16
  mark : Bool
deriving DecidableEq, Repr

/-- A store write in flight (10 R187, R188). -/
inductive StoreWrite where
  | lockIn (image : Image) (check : BitVec 16)
  | reopen
deriving DecidableEq, Repr

/-- The settings unit. STORE_BUSY is set exactly while `write` is a write in flight. -/
structure SettingsUnit where
  image : Image
  store : Store
  phase : Phase
  chosen : Phase
  locked : Option (BitVec 16)
  write : Option StoreWrite
  storeInvalid : Bool
  storeFail : Bool
  configFault : Bool
  scanPos : Nat
  scanCrc : BitVec 16
  lastPass : Option (BitVec 16)
  checkTimer : Option Nat
deriving DecidableEq, Repr

/-! ### Resets (08 R164, R165) -/

/-- The reset sources: whether a cold reset is held, the level of RESET_N, the supply monitor of the part and its
counts, the last reset cause. -/
structure ResetUnit where
  active : Bool
  lineLow : Bool
  supplyHold : Bool
  lowCount : Nat
  highCount : Nat
  cause : ResetCause
deriving DecidableEq, Repr

end Sys2Proof
end

