-- ==== Sys2Proof/Syntax.lean ====
section
/-! DEFINITION. The commands of the part: one constructor of `Instr` per row of spec/opcode_table.json, and the operands they carry. -/

namespace Sys2Proof

/-- The 16 payload bytes of a CYCLE frame (11 R190). -/
structure CyclePayload where
  speed : Byte
  temp : Byte
  rough : Byte
  flags : Byte
  orders : Oct Byte
  marker : Byte
  fragment : BitVec 16
  zero : Byte
deriving DecidableEq, Repr

/-- The payload of a COMMAND frame: 8 bytes (code, then 56 argument bits), or 19 bytes in the layout of LOAD
BASELINE: code, channel, first bin, eight 16-bit values (11 R191). The receiver lets no other length through
(09 R173). -/
inductive CommandPayload where
  | short (bytes : Oct Byte)
  | long (code channel first : Byte) (values : Oct (BitVec 16))
deriving DecidableEq, Repr

/-- What a reply slot carried: no frame start, or the bits of a frame in the order received (07 R149, R154). -/
inductive SlotContent where
  | silent
  | frame (bits : List Bool)
deriving DecidableEq, Repr

/-- Why the receiver discards a frame (09 R173); it makes no difference to the outcome. -/
inductive DiscardReason where
  | unknownKind | wrongLength | badCrc | framingError
deriving DecidableEq, Repr

/-- A value the part holds, with the value a storage fault puts in its place (10 R189, log 20): a setting, a
zone list or a bin of the working image, or any other record of any block. Items that have named values and no stored code
here (phases, states, reasons) take the named values alone: the model's choice, log 20. -/
inductive StoragePlace where
  | chanSetting (c : Chan) (id : ChanSetting) (v : Int)
  | globSetting (id : GlobSetting) (v : Int)
  | zones (c : Chan) (zs : List Zone)
  | baselineBin (c : Chan) (b : Fin 64) (v : Nat)
  | workingBin (c : Chan) (b : Fin 64) (v : Nat)
  | channel (c : Chan) (r : ChannelRecord)
  | engine (c : Chan) (r : EngineContext)
  | profile (c : Chan) (r : ProfileContext)
  | reversal (c : Chan) (r : ReversalContext)
  | supply (c : Chan) (r : SupplyContext)
  | readCopy (c : Chan) (r : TripRecord)
  | context (r : ContextUnit)
  | arbiter (r : SlotArbiter)
  | branchNode (a : Node) (r : NodeContext)
  | branchBus (timer : Option Nat) (busPower : Bool) (driveWord : Option (BitVec 32)) (place : Nat)
  | enrollment (r : EnrollmentUnit)
  | trunk (r : TrunkPort)
  | settings (r : SettingsUnit)
  | resets (r : ResetUnit)
  | clock (now : Nat)
deriving DecidableEq, Repr

/-- The commands of the part: one constructor per row of spec/opcode_table.json, in the table's order. -/
inductive Instr where
  /-- POWER_ON (08 R164) -/
  | powerOn
  /-- RESET_LINE (08 R164): RESET_N goes low (`low` true) or returns high. -/
  | resetLine (low : Bool)
  /-- COLD_START (08 R167) -/
  | coldStart
  /-- SUPPLY_SAMPLE (08 R165): a sample of VBAT, in mV. -/
  | supplySample (vbat : Nat)
  /-- GOOD_CYCLE_FRAME (09 R175) -/
  | goodCycleFrame (p : CyclePayload)
  /-- FRAME_DISCARDED (09 R173) -/
  | frameDiscarded (why : DiscardReason)
  /-- INTER_BYTE_GAP (09 R173): the byte that ends the gap. -/
  | interByteGap (b : Byte)
  /-- REPORT_ASSEMBLY (09 R176) -/
  | reportAssembly
  /-- ANSWER_SENT (09 R174) -/
  | answerSent
  /-- READ_CHANNEL_STATUS (09 R182) -/
  | readChannelStatus (path : Path) (channel : Byte)
  /-- READ_TRIP_RECORD_PART_1 (09 R183) -/
  | readTripRecordPart1 (path : Path) (channel : Byte)
  /-- READ_TRIP_RECORD_PART_2 (09 R183) -/
  | readTripRecordPart2 (path : Path) (channel : Byte)
  /-- READ_PEAK_RATIO (02 R61) -/
  | readPeakRatio (path : Path) (channel : Byte)
  /-- READ_LINK_GRADE (07 R160) -/
  | readLinkGrade (path : Path) (channel : Byte)
  /-- READ_NODE_IDENTITY (08 R168): the address argument. -/
  | readNodeIdentity (path : Path) (address : Byte)
  /-- READ_SETTING_VALUE (09 R182) -/
  | readSettingValue (path : Path) (channel id : Byte)
  /-- READ_BASELINE_BIN (03 R87) -/
  | readBaselineBin (path : Path) (channel bin : Byte)
  /-- READ_WORKING_BIN (03 R87) -/
  | readWorkingBin (path : Path) (channel bin : Byte)
  /-- READ_ZONE_RECORD (03 R72) -/
  | readZoneRecord (path : Path) (channel index : Byte)
  /-- READ_REFUSAL_REASON (01 R27) -/
  | readRefusalReason (path : Path) (channel : Byte)
  /-- READ_TEACH_RESULT (03 R86) -/
  | readTeachResult (path : Path) (channel : Byte)
  /-- READ_PART_STATUS (09 R182) -/
  | readPartStatus (path : Path)
  /-- READ_CHECK_VALUE (10 R189) -/
  | readCheckValue (path : Path)
  /-- RESTORE_POSITION (01 R28): position signed. -/
  | restorePosition (path : Path) (channel : Byte) (position : BitVec 16)
  /-- RESET_PART (08 R166) -/
  | resetPart (path : Path)
  /-- REOPEN (10 R188) -/
  | reopen (path : Path)
  /-- WRITE_SETTING (10 R185): value signed. -/
  | writeSetting (path : Path) (channel id : Byte) (value : BitVec 16)
  /-- LOAD_BASELINE (03 R78): values signed. -/
  | loadBaseline (path : Path) (channel first : Byte) (values : Oct (BitVec 16))
  /-- SET_ZONE (03 R70): start, end and adjust signed. -/
  | setZone (path : Path) (channel index : Byte) (start stop : BitVec 13) (kind : BitVec 4) (adjust : BitVec 8)
  /-- CLEAR_ZONES (03 R71) -/
  | clearZones (path : Path) (channel : Byte)
  /-- TEACH (03 R79) -/
  | teach (path : Path) (channel : Byte)
  /-- LOCK_IN (10 R187) -/
  | lockIn (path : Path)
  /-- ENROLL (08 R171) -/
  | enroll (path : Path)
  /-- LOCK_IN_STORE_WRITE_COMPLETE (10 R187): whether the write verifies. -/
  | lockInStoreWriteComplete (verified : Bool)
  /-- REOPEN_STORE_WRITE_COMPLETE (10 R188): whether the write verifies. -/
  | reopenStoreWriteComplete (verified : Bool)
  /-- CHECK_STEP (10 R189) -/
  | checkStep
  /-- STORAGE_FAULT (10 R189) -/
  | storageFault (place : StoragePlace)
  /-- HOLD_TIMER_EXPIRY (01 R19) -/
  | holdTimerExpiry (c : Chan)
  /-- QUEUE_TIMEOUT (06 R137) -/
  | queueTimeout (c : Chan)
  /-- TRUNK_LOSS (09 R178) -/
  | trunkLoss
  /-- ESCALATION_WINDOW_EXPIRY (04 R99) -/
  | escalationWindowExpiry (c : Chan)
  /-- BRANCH_CYCLE_START (07 R144) -/
  | branchCycleStart
  /-- NODE_SETTLE_EXPIRY (08 R169) -/
  | nodeSettleExpiry
  /-- BUS_OFF_EXPIRY (08 R171) -/
  | busOffExpiry
  /-- REJOIN_ATTEMPT (08 R172) -/
  | rejoinAttempt
  /-- REPLY_SLOT_END (07 R149): the end of reply slot `a + 1`. -/
  | replySlotEnd (a : Node) (content : SlotContent)
  /-- SLOT_0_END (07 R154) -/
  | slot0End (content : SlotContent)
  /-- GOOD_COMMAND_FRAME (09 R179) -/
  | goodCommandFrame (p : CommandPayload)
deriving DecidableEq, Repr

end Sys2Proof
end

