-- ==== Sys2Proof/Machine/SettingsTable.lean ====
section
/-! DEFINITION. The settings tables of 10 R184: ids, ranges, factory defaults, and the read and the clamped write of a setting by its id. -/

namespace Sys2Proof

/-- The KIND a code in 0..2 names (10 R184); the last one for any other number. -/
def Kind.named : Nat → Kind
  | 0 => .window
  | 1 => .slider
  | _ => .roof

/-- The SIDE a code in 0..1 names (10 R184); the last one for any other number. -/
def Side.named : Nat → Side
  | 0 => .left
  | _ => .right

/-- The kind of closure the stored KIND acts as; for a code that no rule names, which only a storage fault leaves, a free
value (log 20). -/
def ChanSettings.closure (s : ChanSettings) : Kind :=
  Kind.named (if s.kind ≤ 2 then s.kind else Config.unnamedKind s.kind)

/-- The side the stored SIDE acts as; for a code that no rule names, a free value (log 20). -/
def ChanSettings.onSide (s : ChanSettings) : Side :=
  Side.named (if s.side ≤ 1 then s.side else Config.unnamedSide s.side)

/-- The per-channel settings in id order, 00h..17h. -/
def ChanSetting.all : List ChanSetting :=
  [.kind, .side, .nodeAddr, .travel, .marginBase, .roadFactor, .cold1Margin, .cold2Margin,
   .windFactor, .escalStep, .tripLevel, .decay, .hardLimit, .blanking, .reverseDist, .escalWindow,
   .bandLow, .bandHigh, .driftTol, .edgeMax, .preset0, .preset1, .preset2, .preset3]

/-- The global settings in id order, 20h..3Eh. -/
def GlobSetting.all : List GlobSetting :=
  [.slots, .stagger, .loadStep, .queueTimeout, .holdTimeout, .trunkLoss, .branchPeriod, .dipStep,
   .dipLevel, .maskLength, .maskBudget, .uvLevel0, .uvLevel2, .gradeWindow, .q1, .q2, .q3, .q4, .q5, .q6,
   .q7, .gradeHyst, .degradedGrade, .lostCount, .blindCount, .learnRough, .learnMask, .cold1Temp,
   .cold2Temp, .expectedNodes, .windOnset]

/-- The per-channel setting of an id, if the id is one of 00h..17h. -/
def ChanSetting.ofId (id : Nat) : Option ChanSetting := ChanSetting.all[id]?

/-- The global setting of an id, if the id is one of 20h..3Eh. -/
def GlobSetting.ofId (id : Nat) : Option GlobSetting :=
  if id < 32 then none else GlobSetting.all[id - 32]?

/-- The range of a per-channel setting (10 R184). -/
def ChanSetting.range : ChanSetting → Int × Int
  | .kind => (0, 2)
  | .side => (0, 1)
  | .nodeAddr => (0, 8)
  | .travel => (64, 4032)
  | .marginBase => (0, 255)
  | .roadFactor => (0, 15)
  | .cold1Margin => (0, 255)
  | .cold2Margin => (0, 255)
  | .windFactor => (0, 15)
  | .escalStep => (0, 63)
  | .tripLevel => (16, 4095)
  | .decay => (0, 63)
  | .hardLimit => (100, 4095)
  | .blanking => (0, 31)
  | .reverseDist => (16, 4095)
  | .escalWindow => (1, 60)
  | .bandLow => (0, 255)
  | .bandHigh => (0, 255)
  | .driftTol => (0, 63)
  | .edgeMax => (1, 63)
  | .preset0 => (0, 4095)
  | .preset1 => (0, 4095)
  | .preset2 => (0, 4095)
  | .preset3 => (0, 4095)

/-- The range of a global setting (10 R184). -/
def GlobSetting.range : GlobSetting → Int × Int
  | .slots => (1, 8)
  | .stagger => (1, 16)
  | .loadStep => (0, 31)
  | .queueTimeout => (1, 255)
  | .holdTimeout => (10, 255)
  | .trunkLoss => (10, 250)
  | .branchPeriod => (3, 16)
  | .dipStep => (1, 50)
  | .dipLevel => (60, 140)
  | .maskLength => (1, 31)
  | .maskBudget => (0, 255)
  | .uvLevel0 => (50, 120)
  | .uvLevel2 => (55, 130)
  | .gradeWindow => (0, 3)
  | .q1 => (0, 511)
  | .q2 => (0, 511)
  | .q3 => (0, 511)
  | .q4 => (0, 511)
  | .q5 => (0, 511)
  | .q6 => (0, 511)
  | .q7 => (0, 511)
  | .gradeHyst => (0, 15)
  | .degradedGrade => (0, 6)
  | .lostCount => (4, 63)
  | .blindCount => (1, 7)
  | .learnRough => (0, 15)
  | .learnMask => (0, 63)
  | .cold1Temp => (-40, 40)
  | .cold2Temp => (-40, 40)
  | .expectedNodes => (0, 8)
  | .windOnset => (0, 255)

/-- The stored value of a per-channel setting. -/
def ChanSettings.read (s : ChanSettings) : ChanSetting → Int
  | .kind => s.kind
  | .side => s.side
  | .nodeAddr => s.nodeAddr
  | .travel => s.travel
  | .marginBase => s.marginBase
  | .roadFactor => s.roadFactor
  | .cold1Margin => s.cold1Margin
  | .cold2Margin => s.cold2Margin
  | .windFactor => s.windFactor
  | .escalStep => s.escalStep
  | .tripLevel => s.tripLevel
  | .decay => s.decay
  | .hardLimit => s.hardLimit
  | .blanking => s.blanking
  | .reverseDist => s.reverseDist
  | .escalWindow => s.escalWindow
  | .bandLow => s.bandLow
  | .bandHigh => s.bandHigh
  | .driftTol => s.driftTol
  | .edgeMax => s.edgeMax
  | .preset0 => s.preset0
  | .preset1 => s.preset1
  | .preset2 => s.preset2
  | .preset3 => s.preset3

/-- The stored value of a global setting. -/
def GlobSettings.read (s : GlobSettings) : GlobSetting → Int
  | .slots => s.slots
  | .stagger => s.stagger
  | .loadStep => s.loadStep
  | .queueTimeout => s.queueTimeout
  | .holdTimeout => s.holdTimeout
  | .trunkLoss => s.trunkLoss
  | .branchPeriod => s.branchPeriod
  | .dipStep => s.dipStep
  | .dipLevel => s.dipLevel
  | .maskLength => s.maskLength
  | .maskBudget => s.maskBudget
  | .uvLevel0 => s.uvLevel0
  | .uvLevel2 => s.uvLevel2
  | .gradeWindow => s.gradeWindow
  | .q1 => s.q1
  | .q2 => s.q2
  | .q3 => s.q3
  | .q4 => s.q4
  | .q5 => s.q5
  | .q6 => s.q6
  | .q7 => s.q7
  | .gradeHyst => s.gradeHyst
  | .degradedGrade => s.degradedGrade
  | .lostCount => s.lostCount
  | .blindCount => s.blindCount
  | .learnRough => s.learnRough
  | .learnMask => s.learnMask
  | .cold1Temp => s.cold1Temp
  | .cold2Temp => s.cold2Temp
  | .expectedNodes => s.expectedNodes
  | .windOnset => s.windOnset

/-- A number put into a per-channel setting as it stands; `ChanSettings.write` clamps it first. -/
def ChanSettings.put (s : ChanSettings) (id : ChanSetting) (v : Int) : ChanSettings :=
  match id with
  | .kind => { s with kind := v.toNat }
  | .side => { s with side := v.toNat }
  | .nodeAddr => { s with nodeAddr := v.toNat }
  | .travel => { s with travel := v.toNat }
  | .marginBase => { s with marginBase := v.toNat }
  | .roadFactor => { s with roadFactor := v.toNat }
  | .cold1Margin => { s with cold1Margin := v.toNat }
  | .cold2Margin => { s with cold2Margin := v.toNat }
  | .windFactor => { s with windFactor := v.toNat }
  | .escalStep => { s with escalStep := v.toNat }
  | .tripLevel => { s with tripLevel := v.toNat }
  | .decay => { s with decay := v.toNat }
  | .hardLimit => { s with hardLimit := v.toNat }
  | .blanking => { s with blanking := v.toNat }
  | .reverseDist => { s with reverseDist := v.toNat }
  | .escalWindow => { s with escalWindow := v.toNat }
  | .bandLow => { s with bandLow := v.toNat }
  | .bandHigh => { s with bandHigh := v.toNat }
  | .driftTol => { s with driftTol := v.toNat }
  | .edgeMax => { s with edgeMax := v.toNat }
  | .preset0 => { s with preset0 := v.toNat }
  | .preset1 => { s with preset1 := v.toNat }
  | .preset2 => { s with preset2 := v.toNat }
  | .preset3 => { s with preset3 := v.toNat }

/-- A number put into a global setting as it stands; `GlobSettings.write` clamps it first. -/
def GlobSettings.put (s : GlobSettings) (id : GlobSetting) (v : Int) : GlobSettings :=
  match id with
  | .slots => { s with slots := v.toNat }
  | .stagger => { s with stagger := v.toNat }
  | .loadStep => { s with loadStep := v.toNat }
  | .queueTimeout => { s with queueTimeout := v.toNat }
  | .holdTimeout => { s with holdTimeout := v.toNat }
  | .trunkLoss => { s with trunkLoss := v.toNat }
  | .branchPeriod => { s with branchPeriod := v.toNat }
  | .dipStep => { s with dipStep := v.toNat }
  | .dipLevel => { s with dipLevel := v.toNat }
  | .maskLength => { s with maskLength := v.toNat }
  | .maskBudget => { s with maskBudget := v.toNat }
  | .uvLevel0 => { s with uvLevel0 := v.toNat }
  | .uvLevel2 => { s with uvLevel2 := v.toNat }
  | .gradeWindow => { s with gradeWindow := v.toNat }
  | .q1 => { s with q1 := v.toNat }
  | .q2 => { s with q2 := v.toNat }
  | .q3 => { s with q3 := v.toNat }
  | .q4 => { s with q4 := v.toNat }
  | .q5 => { s with q5 := v.toNat }
  | .q6 => { s with q6 := v.toNat }
  | .q7 => { s with q7 := v.toNat }
  | .gradeHyst => { s with gradeHyst := v.toNat }
  | .degradedGrade => { s with degradedGrade := v.toNat }
  | .lostCount => { s with lostCount := v.toNat }
  | .blindCount => { s with blindCount := v.toNat }
  | .learnRough => { s with learnRough := v.toNat }
  | .learnMask => { s with learnMask := v.toNat }
  | .cold1Temp => { s with cold1Temp := v }
  | .cold2Temp => { s with cold2Temp := v }
  | .expectedNodes => { s with expectedNodes := v.toNat }
  | .windOnset => { s with windOnset := v.toNat }

/-- A write of a per-channel setting: the value clamped to the setting's range, "an enumerated setting is clamped as its
number" (10 R185). -/
def ChanSettings.write (s : ChanSettings) (id : ChanSetting) (v : Int) : ChanSettings :=
  s.put id (clamp id.range.1 id.range.2 v)

/-- A write of a global setting: the value clamped to the setting's range (10 R185). -/
def GlobSettings.write (s : GlobSettings) (id : GlobSetting) (v : Int) : GlobSettings :=
  s.put id (clamp id.range.1 id.range.2 v)

/-- The PRESET_n setting of a preset index. -/
def ChanSettings.presetOf (s : ChanSettings) : Fin 4 → Nat
  | 0 => s.preset0
  | 1 => s.preset1
  | 2 => s.preset2
  | 3 => s.preset3

/-- The threshold Qg of a grade g in 1..7 (07 R159); 0 for any other number. -/
def GlobSettings.q (s : GlobSettings) : Nat → Nat
  | 1 => s.q1
  | 2 => s.q2
  | 3 => s.q3
  | 4 => s.q4
  | 5 => s.q5
  | 6 => s.q6
  | 7 => s.q7
  | _ => 0

/-- The factory defaults of a channel (10 R184). -/
def ChanSettings.factory (c : Chan) : ChanSettings :=
  { kind := 0, side := 0, nodeAddr := c.val + 1, travel := 1024, marginBase := 40, roadFactor := 4,
    cold1Margin := 15, cold2Margin := 40, windFactor := 0, escalStep := 20, tripLevel := 48, decay := 4,
    hardLimit := 800, blanking := 12, reverseDist := 200, escalWindow := 10, bandLow := 40, bandHigh := 60,
    driftTol := 12, edgeMax := 8, preset0 := 0, preset1 := 0, preset2 := 0, preset3 := 0 }

/-- The factory defaults of the global settings (10 R184). -/
def GlobSettings.factory : GlobSettings :=
  { slots := 4, stagger := 5, loadStep := 3, queueTimeout := 60, holdTimeout := 40, trunkLoss := 50,
    branchPeriod := 4, dipStep := 8, dipLevel := 100, maskLength := 6, maskBudget := 40, uvLevel0 := 80,
    uvLevel2 := 90, gradeWindow := 2, q1 := 50, q2 := 25, q3 := 12, q4 := 6, q5 := 3, q6 := 1, q7 := 0,
    gradeHyst := 1, degradedGrade := 3, lostCount := 16, blindCount := 2, learnRough := 4, learnMask := 8,
    cold1Temp := 0, cold2Temp := -20, expectedNodes := 8, windOnset := 30 }

/-- The factory default zone list: SEAL from -255 to 8 counts with adjust 0 (03 R63). -/
def Zone.factoryList : List Zone := [{ start := -255, stop := 8, kind := 2, adjust := 0 }]

/-- The factory default image (10 R186). -/
def Image.factory : Image :=
  { chan := Oct.ofFn ChanSettings.factory, zones := Oct.const Zone.factoryList,
    baseline := Oct.const (Bins.const 0), glob := GlobSettings.factory }

end Sys2Proof
end

