-- ==== Sys2Proof/Machine/Ranges.lean ====
section
/-! DEFINITION. The values each place of the part can hold, as the state tables of the rules give them
(01 R3, 02 R30, 03 R63, 04 R88, 05 R107, 06 R121, R129, R132, 07 R143, R148, 08 R168, 09, 10), which every command but a
storage fault keeps, as an invariant states; and what a storage fault can leave in each place (log 20). -/

namespace Sys2Proof

/-- `lo ≤ v ≤ hi`. -/
def within (lo hi v : Int) : Bool := decide (lo ≤ v) && decide (v ≤ hi)

/-- A counted value is at most `hi`. -/
def upTo (hi v : Nat) : Bool := decide (v ≤ hi)

/-- An item that may be absent is absent or holds a good value. -/
def absentOr {α : Type} (p : α → Bool) : Option α → Bool
  | none => true
  | some x => p x

/-- Every one of the eight items is good. -/
def Oct.allGood {α : Type} (p : α → Bool) (o : Oct α) : Bool := o.toList.all p

/-- Every one of the 64 items is good. -/
def Bins.allGood {α : Type} (p : α → Bool) (o : Bins α) : Bool := Oct.allGood (Oct.allGood p) o

/-- Every per-channel setting stands in its range (10 R184). -/
def ChanSettings.inRange (s : ChanSettings) : Bool :=
  ChanSetting.all.all fun id => within id.range.1 id.range.2 (s.read id)

/-- Every global setting stands in its range (10 R184). -/
def GlobSettings.inRange (s : GlobSettings) : Bool :=
  GlobSetting.all.all fun id => within id.range.1 id.range.2 (s.read id)

/-- A zone record (03 R67). -/
def Zone.inRange (z : Zone) : Bool :=
  within (-255) 4095 z.start && within (-255) 4095 z.stop && decide (z.start ≤ z.stop) && upTo 2 z.kind &&
  within (-128) 127 z.adjust

/-- A zone list holds 0 to 6 records (03 R67). -/
def zonesInRange (zs : List Zone) : Bool := upTo 6 zs.length && zs.all Zone.inRange

/-- The settings image. -/
def Image.inRange (i : Image) : Bool :=
  i.chan.allGood ChanSettings.inRange && i.zones.allGood zonesInRange &&
  i.baseline.allGood (Bins.allGood (upTo 4095)) && i.glob.inRange

/-- A motion record: a preset target lies in 0..4095 (06 R129; L and PRESET_n are at most 4095). -/
def Motion.inRange (m : Motion) : Bool := absentOr (within 0 4095) m.target

/-- The channel record (01 R3). -/
def ChannelRecord.inRange (r : ChannelRecord) : Bool :=
  within (-255) 4095 r.pos && absentOr Motion.inRange r.motion

/-- A trip record (02 R58). -/
def TripRecord.inRange (r : TripRecord) : Bool :=
  within (-255) 4095 r.pos && upTo 63 r.bin && upTo 4095 r.f && upTo 4095 r.r && upTo 1023 r.t &&
  upTo 4095 r.a && upTo 3 r.level && upTo 255 r.speed && upTo 65535 r.stamp

/-- The engine context (02 R30). -/
def EngineContext.inRange (e : EngineContext) : Bool :=
  upTo 65520 e.f16 && upTo 4095 e.acc && upTo 31 e.blank && upTo 255 e.peak && e.trip.inRange

/-- The volatile profile context (03 R63). -/
def ProfileContext.inRange (p : ProfileContext) : Bool :=
  p.working.allGood (upTo 4095) && p.stroke.allGood (absentOr (upTo 4095)) && upTo 64 p.visited &&
  upTo 64 p.teachVisited

/-- The reversal context (04 R88). -/
def ReversalContext.inRange (r : ReversalContext) : Bool :=
  absentOr (within (-255) 4095) r.target && upTo 3 r.level

/-- The supply context (06 R121). -/
def SupplyContext.inRange (s : SupplyContext) : Bool :=
  upTo 4 s.lowRun && upTo 4 s.highRun && upTo 31 s.mask && absentOr (upTo 255) s.prev && upTo 1023 s.strokeMask

/-- All a channel holds beside the image. -/
def ChannelUnit.inRange (u : ChannelUnit) : Bool :=
  u.ctl.inRange && u.eng.inRange && u.prof.inRange && u.rev.inRange && u.sup.inRange && u.readCopy.inRange

/-- The context record (05 R107). -/
def ContextUnit.inRange (c : ContextUnit) : Bool :=
  upTo 255 c.speed && upTo 15 c.rough && within (-40) 87 c.temp

/-- The slot arbiter: up to 8 entries, stagger count 0..16 (06 R129, R132). -/
def SlotArbiter.inRange (a : SlotArbiter) : Bool :=
  upTo 8 a.queue.length && a.queue.all (fun e => e.motion.inRange) && upTo 16 a.stagger

/-- A node context (07 R148). -/
def NodeContext.inRange (n : NodeContext) : Bool :=
  upTo 255 n.since && upTo 63 n.badRun && upTo 511 n.winPos && upTo 512 n.winBad && upTo 7 n.grade && upTo 7 n.worst

/-- The branch port: at most nine slots of a cycle have ended (07 R143). -/
def BranchPort.inRange (b : BranchPort) : Bool := b.nodes.allGood NodeContext.inRange && upTo 9 b.place

/-- The enrollment unit (08 R168). -/
def EnrollmentUnit.inRange (e : EnrollmentUnit) : Bool := upTo 3 e.miss && upTo 64 e.rejoinCount

/-- The side collector holds 1..3 fragments while COLLECTING (09 R180). -/
def Collector.inRange : Collector → Bool
  | .idle => true
  | .collecting got => within 1 3 got.length

/-- The trunk port: up to 4 answers, the next fragment of a response is 1..4 (09 R174, R181). -/
def TrunkPort.inRange (t : TrunkPort) : Bool :=
  upTo 4 t.answers.length && t.collector.inRange && absentOr (fun r => within 1 4 r.next) t.response

/-- What a store write in flight writes. -/
def StoreWrite.inRange : StoreWrite → Bool
  | .lockIn i _ => i.inRange
  | .reopen => true

/-- The settings unit (10). -/
def SettingsUnit.inRange (s : SettingsUnit) : Bool :=
  s.image.inRange && s.store.image.inRange && absentOr StoreWrite.inRange s.write && upTo 63 s.scanPos

/-- The reset unit: both counts stop at 4 (08 R165). -/
def ResetUnit.inRange (r : ResetUnit) : Bool := upTo 4 r.lowCount && upTo 4 r.highCount

/-- The value a storage fault puts into a place stands in the range the rules give it. -/
def StoragePlace.inRange : StoragePlace → Bool
  | .chanSetting _ id v => within id.range.1 id.range.2 v
  | .globSetting id v => within id.range.1 id.range.2 v
  | .zones _ zs => zonesInRange zs
  | .baselineBin _ _ v => upTo 4095 v
  | .workingBin _ _ v => upTo 4095 v
  | .channel _ r => r.inRange
  | .engine _ r => r.inRange
  | .profile _ r => r.inRange
  | .reversal _ r => r.inRange
  | .supply _ r => r.inRange
  | .readCopy _ r => r.inRange
  | .context r => r.inRange
  | .arbiter r => r.inRange
  | .branchNode _ r => r.inRange
  | .branchBus _ _ _ place => upTo 9 place
  | .enrollment r => r.inRange
  | .trunk r => r.inRange
  | .settings r => r.inRange
  | .resets r => r.inRange
  | .clock _ => true

/-! ### What a storage fault can leave (10 R189, log 20) -/

/-- The 16-bit values of a number of the settings image: signed where its range has negative values, as the check value takes
them (10 R187). -/
def wordOf (range : Int × Int) : Int × Int := if range.1 < 0 then (-32768, 32767) else (0, 65535)

/-- The per-channel settings are 16-bit values. -/
def ChanSettings.fits (s : ChanSettings) : Bool :=
  ChanSetting.all.all fun id => within (wordOf id.range).1 (wordOf id.range).2 (s.read id)

/-- The global settings are 16-bit values. -/
def GlobSettings.fits (s : GlobSettings) : Bool :=
  GlobSetting.all.all fun id => within (wordOf id.range).1 (wordOf id.range).2 (s.read id)

/-- The items of a zone record are 16-bit values. -/
def Zone.fits (z : Zone) : Bool :=
  within (-32768) 32767 z.start && within (-32768) 32767 z.stop && upTo 65535 z.kind && within (-32768) 32767 z.adjust

/-- A zone list has places for six records (03 R67). -/
def zonesFit (zs : List Zone) : Bool := upTo 6 zs.length && zs.all Zone.fits

/-- The settings image: 935 values of 16 bits. -/
def Image.fits (i : Image) : Bool :=
  i.chan.allGood ChanSettings.fits && i.zones.allGood zonesFit && i.baseline.allGood (Bins.allGood (upTo 65535)) && i.glob.fits

/-- What a store write in flight writes. -/
def StoreWrite.fits : StoreWrite → Bool
  | .lockIn i _ => i.fits
  | .reopen => true

/-- What a storage fault can put into a place: any 16-bit values in the settings image, and in the other records any number,
for which no rule gives a width, with as many entries, answers and fragments as there are places. -/
def StoragePlace.holds : StoragePlace → Bool
  | .chanSetting _ id v => within (wordOf id.range).1 (wordOf id.range).2 v
  | .globSetting id v => within (wordOf id.range).1 (wordOf id.range).2 v
  | .zones _ zs => zonesFit zs
  | .baselineBin _ _ v => upTo 65535 v
  | .workingBin _ _ v => upTo 65535 v
  | .arbiter r => upTo 8 r.queue.length
  | .trunk r => upTo 4 r.answers.length && r.collector.inRange
  | .settings r => r.image.fits && r.store.image.fits && absentOr StoreWrite.fits r.write
  | .channel _ _ => true
  | .engine _ _ => true
  | .profile _ _ => true
  | .reversal _ _ => true
  | .supply _ _ => true
  | .readCopy _ _ => true
  | .context _ => true
  | .branchNode _ _ => true
  | .branchBus _ _ _ _ => true
  | .enrollment _ => true
  | .resets _ => true
  | .clock _ => true

end Sys2Proof
end

