-- ==== Sys2Proof/WellFormed.lean ====
section
/-! DEFINITION. Which commands are well formed: the operands' types bound every operand but the value a storage fault puts in place. -/

namespace Sys2Proof

/-- A STORAGE_FAULT names what its place can hold; every other command is well formed as it stands. -/
def Instr.wellFormed : Instr → Bool
  | .storageFault p => p.holds
  | .powerOn => true
  | .resetLine _ => true
  | .coldStart => true
  | .supplySample _ => true
  | .goodCycleFrame _ => true
  | .frameDiscarded _ => true
  | .interByteGap _ => true
  | .reportAssembly => true
  | .answerSent => true
  | .readChannelStatus _ _ => true
  | .readTripRecordPart1 _ _ => true
  | .readTripRecordPart2 _ _ => true
  | .readPeakRatio _ _ => true
  | .readLinkGrade _ _ => true
  | .readNodeIdentity _ _ => true
  | .readSettingValue _ _ _ => true
  | .readBaselineBin _ _ _ => true
  | .readWorkingBin _ _ _ => true
  | .readZoneRecord _ _ _ => true
  | .readRefusalReason _ _ => true
  | .readTeachResult _ _ => true
  | .readPartStatus _ => true
  | .readCheckValue _ => true
  | .restorePosition _ _ _ => true
  | .resetPart _ => true
  | .reopen _ => true
  | .writeSetting _ _ _ _ => true
  | .loadBaseline _ _ _ _ => true
  | .setZone _ _ _ _ _ _ _ => true
  | .clearZones _ _ => true
  | .teach _ _ => true
  | .lockIn _ => true
  | .enroll _ => true
  | .lockInStoreWriteComplete _ => true
  | .reopenStoreWriteComplete _ => true
  | .checkStep => true
  | .holdTimerExpiry _ => true
  | .queueTimeout _ => true
  | .trunkLoss => true
  | .escalationWindowExpiry _ => true
  | .branchCycleStart => true
  | .nodeSettleExpiry => true
  | .busOffExpiry => true
  | .rejoinAttempt => true
  | .replySlotEnd _ _ => true
  | .slot0End _ => true
  | .goodCommandFrame _ => true

end Sys2Proof
end

