-- ==== Sys2Proof/Decode.lean ====
section
/-! DEFINITION. Commands spelled by words: no row of spec/opcode_table.json gives bits, so no word spells a command. -/

namespace Sys2Proof

/-- The command a word spells by the table's bits: every row of spec/opcode_table.json has an empty list of
fields and no fixed bits, so there is none. -/
def decodeTableWord (_nbits _w : Nat) : Option Instr := none

end Sys2Proof
end

