-- ==== Sys2Proof/Machine/State.lean ====
section
/-! DEFINITION. The state of the part, plain data: every block of 00 Block overview, the reset unit, the clock, and the queue of waiting commands. -/

namespace Sys2Proof.Machine

/-- Why a step can stop with a fault. The spec describes no stop of the part. -/
inductive Fault where
  /-- Raised by STORAGE_FAULT when it names what no place of the part holds (log 20): a number of the settings image that is
  no 16-bit value, or a list longer than the places there are. No such event exists. Safe. -/
  | valueNotHeld
deriving DecidableEq, Repr

/-- Why a step can be refused. -/
inductive Refusal where
  /-- Raised by a dispatch arm of a command that has no meaning yet; no arm raises it. Safe. -/
  | notModelled (mnemonic : String)
deriving DecidableEq, Repr

/-- The state of the part. Timers are stopped or hold the instant, in 0.5 ms units of `now`, at which they expire.
`now` is the part clock with its prescaler (`State.partClock` in Machine/Ops.lean); `freeCount` is the model's own
index of free values (log 4); `pending` is the queue of waiting commands, first in first out. -/
structure State where
  chans : Oct ChannelUnit
  ctx : ContextUnit
  arb : SlotArbiter
  br : BranchPort
  enr : EnrollmentUnit
  trk : TrunkPort
  stg : SettingsUnit
  rst : ResetUnit
  now : Nat
  freeCount : Nat
  pending : List Instr
deriving DecidableEq, Repr

/-! ### Values after a cold reset, block by block -/

/-- The last order field after a reset and at trunk loss: NONE, USER, 0 (01 R3, R18). -/
def Order.initial : Order := { kind := .none, source := .user, preset := 0 }

/-- No latched condition (01 R3). -/
def Latched.none : Latched :=
  { blindStop := false, drift := false, profileRepaired := false, orderRefused := false, startTimeout := false }

/-- No inhibit cause (01 R3). -/
def Causes.none : Causes := { nodeLost := false, nodeFault := false, undervolt := false }

/-- The channel record after a cold reset (01 R3). -/
def ChannelRecord.cold : ChannelRecord :=
  { st := .absent, referenced := false, pos := 0, base := none, motion := none, hold := none,
    lastOrder := Order.initial, refusal := none, latched := Latched.none, causes := Causes.none }

/-- The trip record with cause NONE and every other field 0 (02 R59). -/
def TripRecord.cold : TripRecord :=
  { cause := none, pos := 0, bin := 0, f := 0, r := 0, t := 0, a := 0, level := 0, speed := 0, stamp := 0 }

/-- The engine context after a cold reset (02 R30). -/
def EngineContext.cold : EngineContext :=
  { f16 := 0, first := false, acc := 0, blank := 0, peak := 0, trip := TripRecord.cold, tripFlag := false }

/-- The stroke marks, all clear (03 R63). -/
def StrokeMarks.clear : StrokeMarks := { openedInRun := false, escZero := false, teachStroke := false }

/-- The profile context after a reset, with the working profile a copy of the baseline (03 R63, R65). -/
def ProfileContext.ofBaseline (b : Bins Nat) : ProfileContext :=
  { working := b, stroke := Bins.const none, visited := 0, marks := StrokeMarks.clear, teach := .none,
    teachVisited := 0 }

/-- The reversal context after a cold reset (04 R88). -/
def ReversalContext.cold : ReversalContext := { target := none, level := 0, window := none }

/-- The supply context after a cold reset (06 R121). -/
def SupplyContext.cold : SupplyContext :=
  { undervolt := false, lowRun := 0, highRun := 0, mask := 0, prev := none, strokeMask := 0 }

/-- A channel after a cold reset, with its baseline profile. -/
def ChannelUnit.cold (b : Bins Nat) : ChannelUnit :=
  { ctl := ChannelRecord.cold, eng := EngineContext.cold, prof := ProfileContext.ofBaseline b,
    rev := ReversalContext.cold, sup := SupplyContext.cold, readCopy := TripRecord.cold }

/-- The stale defaults, STALE (05 R107, R110). -/
def ContextUnit.stale : ContextUnit :=
  { speed := 0, rough := 0, temp := 25, crank := false, movingL := false, movingR := false, fresh := false }

/-- The slot arbiter after a reset (06 R140). -/
def SlotArbiter.cold : SlotArbiter := { slots := Oct.const false, queue := [], stagger := 0 }

/-- A node context after a cold reset (07 R148). -/
def NodeContext.cold : NodeContext :=
  { keep := none, since := 1, badRun := 0, winPos := 0, winBad := 0, grade := 0, worst := 0 }

/-- The branch port while a cold reset is held: power off, timer stopped, no drive word sent and no slot to come (07 R142,
R143, 08 R167, log 28). -/
def BranchPort.cold : BranchPort :=
  { timer := none, busPower := false, driveWord := none, place := 9, nodes := Oct.const NodeContext.cold }

/-- The enrollment unit while a cold reset is held (08 R168). -/
def EnrollmentUnit.cold : EnrollmentUnit :=
  { table := Oct.const none, st := .busOff, offer := 0, miss := 0, schedule := Oct.const false, rejoinCount := 0,
    settle := none, slot0 := .unused, reading := none, followUp := none, mismatch := false, fromCold := true }

/-- The trunk port after a cold reset (09 R173, R174, R177, R178, R180). -/
def TrunkPort.cold : TrunkPort :=
  { rx := .hunt, answers := [], lossTimer := none, collector := .idle, response := none, wasLost := false,
    sideAbort := false, resetArmed := false }

/-- A settings store that was never written: blank (10 R186). Its image and check value are not read. -/
def Store.blank : Store := { written := false, torn := false, image := Image.factory, check := 0, mark := false }

/-- The settings unit over a store with the factory defaults loaded, as a reset that finds the store blank reads it (10 R186). -/
def SettingsUnit.cold (store : Store) : SettingsUnit :=
  { image := Image.factory, store := store, phase := .starting, chosen := .setup, locked := none, write := none,
    storeInvalid := false, storeFail := false, configFault := false, scanPos := 0, scanCrc := 0xFFFF,
    lastPass := none, checkTimer := none }

/-- Every block at its cold reset value, with a given settings unit and reset unit (08 R164, R167 step 1). -/
def State.held (stg : SettingsUnit) (rst : ResetUnit) (free : Nat) (pending : List Instr) : State :=
  { chans := Oct.const (ChannelUnit.cold (Bins.const 0)), ctx := ContextUnit.stale, arb := SlotArbiter.cold,
    br := BranchPort.cold, enr := EnrollmentUnit.cold, trk := TrunkPort.cold, stg := stg,
    rst := rst, now := 0, freeCount := free, pending := pending }

/-- The machine right after reset: the release of a power-on cold reset of a part with a blank store (08 R167, log 6).
The phase is STARTING, the factory defaults are loaded and SETUP is chosen (10 R186), the branch bus power is on, the
node settle time of 20 ms runs, and the branch cycle timer runs its first period of 2.0 ms. -/
def State.reset : State :=
  { State.held (SettingsUnit.cold Store.blank)
      { active := false, lineLow := false, supplyHold := false, lowCount := 0, highCount := 4, cause := .powerOn }
      0 [] with
    br := { BranchPort.cold with timer := some 4, busPower := true }
    enr := { EnrollmentUnit.cold with st := .settle, settle := some 40 } }

end Sys2Proof.Machine
end

