-- ==== Sys2Proof/Machine/Operands.lean ====
section
/-! DEFINITION. The layouts of 11: order fields, context, commands and answers, REPORT entries, branch frames, the
CRC-16 of the trunk port and the CRC-8 of the branch port, and the receiver of 09 R173. -/

namespace Sys2Proof.Machine

/-! ### Check sums -/

/-- One bit of the CRC-16: generator x^16 + x^12 + x^5 + 1, most significant bit first (11 R190). -/
def crc16Bit (crc : BitVec 16) : BitVec 16 :=
  if crc.msb then (crc <<< 1) ^^^ 0x1021 else crc <<< 1

/-- One byte of the CRC-16. -/
def crc16Byte (crc : BitVec 16) (b : Byte) : BitVec 16 :=
  Nat.repeat crc16Bit 8 (crc ^^^ (b.setWidth 16 <<< 8))

/-- The CRC-16 of bytes, going on from a value; the initial value is FFFFh (11 R190). -/
def crc16From (crc : BitVec 16) (bytes : List Byte) : BitVec 16 := bytes.foldl crc16Byte crc

/-- The CRC-16 of bytes. -/
def crc16 (bytes : List Byte) : BitVec 16 := crc16From 0xFFFF bytes

/-- A 16-bit value as two bytes, high byte first. -/
def bytesOfWord (w : BitVec 16) : List Byte := [w.extractLsb' 8 8, w.extractLsb' 0 8]

/-- One bit of the CRC-8: generator x^8 + x^2 + x + 1 (11 R192). -/
def crc8Bit (crc : BitVec 8) (b : Bool) : BitVec 8 :=
  if crc.msb != b then (crc <<< 1) ^^^ 0x07 else crc <<< 1

/-- The CRC-8 of bits, most significant bit first, initial value FFh (11 R192). -/
def crc8 (bits : List Bool) : BitVec 8 := bits.foldl crc8Bit 0xFF

/-! ### Bits and fields -/

/-- The number whose bits, most significant first, are these. -/
def natOfBits (bits : List Bool) : Nat := bits.foldl (fun n b => 2 * n + b.toNat) 0

/-- The lowest `w` bits of a number, most significant first. -/
def bitsOfNat (w n : Nat) : List Bool := (List.range w).map fun i => n.testBit (w - 1 - i)

/-- The field of `w` bits that begins `at_` bits into a frame. -/
def bitField (bits : List Bool) (at_ w : Nat) : Nat := natOfBits ((bits.drop at_).take w)

/-- Bit fields (width, value) laid from the top of `total` bits downward, signed values in two's complement, the bits
after the last field 0 (11 R191). -/
def packFields (total : Nat) (fields : List (Nat × Int)) : Nat :=
  let laid := fields.foldl (fun acc f => (acc.1 + f.1, acc.2 * 2 ^ f.1 + (f.2 % (2 : Int) ^ f.1).toNat)) (0, 0)
  laid.2 * 2 ^ (total - laid.1)

/-- A one-bit field: 1 when the thing is so (11 R190 gives "referenced, 1 = yes"; log 12). -/
def bitOf (b : Bool) : Nat × Int := (1, if b then 1 else 0)

/-- A field that may be absent: a presence bit, then the field, 0 when absent (11 R191, 10 R189; log 12). -/
def presentOr (w : Nat) : Option Int → List (Nat × Int)
  | none => [(1, 0), (w, 0)]
  | some v => [(1, 1), (w, v)]

/-- "Each field is as wide as its range needs" (11 R191): the least width that holds every value of `lo..hi`, in
two's complement where the range has negative values. -/
def rangeWidth (r : Int × Int) : Nat :=
  ((List.range 17).find? fun w =>
    if r.1 < 0 then decide (-(2 : Int) ^ (w - 1) ≤ r.1) && decide (r.2 < (2 : Int) ^ (w - 1)) && decide (1 ≤ w)
    else decide (r.2 < (2 : Int) ^ w)).getD 16

/-- The 48 data bits of an answer from its fields. -/
def answerData (fields : List (Nat × Int)) : BitVec 48 := BitVec.ofNat 48 (packFields 48 fields)

/-! ### Codes -/

/-- Channel state codes (11 R190). -/
def ChanState.code : ChanState → Nat
  | .absent => 0
  | .inhibited => 1
  | .idle => 2
  | .waiting => 3
  | .opening => 4
  | .closing => 5
  | .reversing => 6

/-- Phase codes (11 R190). -/
def Phase.code : Phase → Nat
  | .starting => 0
  | .setup => 1
  | .run => 2

/-- Status codes (11 R190). -/
def Status.code : Status → Nat
  | .ok => 0
  | .unknownCommand => 1
  | .wrongPhase => 2
  | .badArgument => 3
  | .busy => 4
  | .checkFailed => 5
  | .notApplicable => 6

/-- Refusal reason codes: 0 NONE, then 1..10 in check order (11 R191). -/
def refusalCode : Option RefusalReason → Nat
  | none => 0
  | some .notReady => 1
  | some .absent => 2
  | some .inhibited => 3
  | some .reversing => 4
  | some .fallback => 5
  | some .notCommissioned => 6
  | some .unreferenced => 7
  | some .escalated => 8
  | some .lockout => 9
  | some .degraded => 10

/-- Trip cause codes: 0 NONE (11 R191). -/
def tripCauseCode : Option TripCause → Nat
  | none => 0
  | some .accum => 1
  | some .hard => 2
  | some .stall => 3

/-- Zone kind codes (11 R191). -/
def ZoneKind.code : ZoneKind → Nat
  | .protect => 0
  | .relaxed => 1
  | .seal => 2

/-- The zone kind a stored code acts as; for a code that no rule names, which only a storage fault leaves, a free value
(11 R191, log 20). -/
def Zone.acts (z : Zone) : ZoneKind :=
  match (if z.kind ≤ 2 then z.kind else Config.unnamedZoneKind z.kind) with
  | 0 => .protect
  | 1 => .relaxed
  | _ => .seal

/-- The zone kind of a code; any other code is none (11 R191). -/
def zoneKindOf (code : Nat) : Option ZoneKind :=
  match code with
  | 0 => some .protect
  | 1 => some .relaxed
  | 2 => some .seal
  | _ => none

/-- Teach state codes (11 R191). -/
def teachStateCode : TeachState → Nat
  | .none => 0
  | .running => 1
  | .done => 2
  | .failed _ => 3

/-- Teach reason codes (11 R191). -/
def TeachReason.code : TeachReason → Nat
  | .trip => 0
  | .order => 1
  | .inhibited => 2
  | .blind => 3
  | .drift => 4
  | .short => 5

/-- The reason of a failed teach, none otherwise (03 R86). -/
def teachReasonOf : TeachState → Option TeachReason
  | .failed why => some why
  | _ => none

/-- Node record state codes, in the order of 08 R168 (11 R191). -/
def RecordState.code : RecordState → Nat
  | .enrolled => 0
  | .lost => 1
  | .mismatch => 2

/-- Last reset cause codes, in the order of 08 R164 (11 R191). -/
def ResetCause.code : ResetCause → Nat
  | .powerOn => 0
  | .resetLine => 1
  | .supplyLow => 2
  | .resetPart => 3

/-! ### Order fields and context (11 R190) -/

/-- The kind of a normalised order: a reserved kind is taken as NONE (01 R18 step 1). -/
def orderKindOf (code : Nat) : OrderKind :=
  match code with
  | 1 => .stop
  | 2 => .openHeld
  | 3 => .closeHeld
  | 4 => .openExpress
  | 5 => .closeExpress
  | 6 => .preset
  | _ => .none

/-- The source of a normalised order: a reserved source is taken as GLOBAL (01 R18 step 1). -/
def sourceOf (code : Nat) : Source :=
  match code with
  | 0 => .user
  | 1 => .rain
  | _ => .global

/-- A held kind from RAIN or GLOBAL is taken as express, keeping its source (01 R18 step 1). -/
def expressOf (k : OrderKind) (src : Source) : OrderKind :=
  match k, src with
  | .openHeld, .rain => .openExpress
  | .openHeld, .global => .openExpress
  | .closeHeld, .rain => .closeExpress
  | .closeHeld, .global => .closeExpress
  | k, _ => k

/-- The normalised order of an order byte: bits 2..0 kind, 4..3 source, 6..5 preset index, bit 7 ignored. -/
def orderOfByte (b : Byte) : Order :=
  let src := sourceOf (b.extractLsb' 3 2).toNat
  { kind := expressOf (orderKindOf (b.extractLsb' 0 3).toNat) src, source := src,
    preset := (b.extractLsb' 5 2).toFin }

/-- The temperature of a temperature byte: 128..255 clamped to 127, less 40 (05 R109). -/
def tempOfByte (b : Byte) : Int := (min b.toNat 127 : Nat) - 40

/-- The context record of a good CYCLE frame, FRESH (05 R108). -/
def contextOf (p : CyclePayload) : ContextUnit :=
  { speed := p.speed.toNat, rough := (p.rough.extractLsb' 0 4).toNat, temp := tempOfByte p.temp,
    crank := p.flags.getLsbD 0, movingL := p.flags.getLsbD 1, movingR := p.flags.getLsbD 2, fresh := true }

/-! ### Commands (11 R191) -/

/-- The command codes 01h..0Bh. -/
inductive CommandCode where
  | read | restorePosition | resetPart | reopen | writeSetting | loadBaseline | setZone | clearZones | teach | lockIn
  | enroll
deriving DecidableEq, Repr

/-- The command a code names; 00h and 0Ch..FFh name none. -/
def commandCodeOf (b : Byte) : Option CommandCode :=
  match b.toNat with
  | 1 => some .read
  | 2 => some .restorePosition
  | 3 => some .resetPart
  | 4 => some .reopen
  | 5 => some .writeSetting
  | 6 => some .loadBaseline
  | 7 => some .setZone
  | 8 => some .clearZones
  | 9 => some .teach
  | 10 => some .lockIn
  | 11 => some .enroll
  | _ => none

/-- The code byte of a command. -/
def CommandCode.byte : CommandCode → Byte
  | .read => 0x01
  | .restorePosition => 0x02
  | .resetPart => 0x03
  | .reopen => 0x04
  | .writeSetting => 0x05
  | .loadBaseline => 0x06
  | .setZone => 0x07
  | .clearZones => 0x08
  | .teach => 0x09
  | .lockIn => 0x0A
  | .enroll => 0x0B

/-- A management command with its arguments, as the bits that carry them. -/
inductive Command where
  | read (item first second : Byte)
  | restorePosition (channel : Byte) (position : BitVec 16)
  | resetPart
  | reopen
  | writeSetting (channel id : Byte) (value : BitVec 16)
  | loadBaseline (channel first : Byte) (values : Oct (BitVec 16))
  | setZone (channel index : Byte) (start stop : BitVec 13) (kind : BitVec 4) (adjust : BitVec 8)
  | clearZones (channel : Byte)
  | teach (channel : Byte)
  | lockIn
  | enroll
deriving DecidableEq, Repr

/-- The code of a command. -/
def Command.code : Command → CommandCode
  | .read _ _ _ => .read
  | .restorePosition _ _ => .restorePosition
  | .resetPart => .resetPart
  | .reopen => .reopen
  | .writeSetting _ _ _ => .writeSetting
  | .loadBaseline _ _ _ => .loadBaseline
  | .setZone _ _ _ _ _ _ => .setZone
  | .clearZones _ => .clearZones
  | .teach _ => .teach
  | .lockIn => .lockIn
  | .enroll => .enroll

/-- The 56 argument bits of an 8-byte command, bytes 1..7, as one number. -/
def argumentBits (b : Oct Byte) : BitVec 56 :=
  b.a1 ++ b.a2 ++ b.a3 ++ b.a4 ++ b.a5 ++ b.a6 ++ b.a7

/-- The command of 8 bytes: arguments laid from argument bit 55 downward; LOAD BASELINE has no 8-byte form. -/
def commandOfBytes (b : Oct Byte) : Option Command :=
  let a := argumentBits b
  match commandCodeOf b.a0 with
  | some .read => some (.read b.a1 b.a2 b.a3)
  | some .restorePosition => some (.restorePosition b.a1 (a.extractLsb' 32 16))
  | some .resetPart => some .resetPart
  | some .reopen => some .reopen
  | some .writeSetting => some (.writeSetting b.a1 b.a2 (a.extractLsb' 24 16))
  | some .setZone =>
    some (.setZone b.a1 b.a2 (a.extractLsb' 27 13) (a.extractLsb' 14 13) (a.extractLsb' 10 4) (a.extractLsb' 2 8))
  | some .clearZones => some (.clearZones b.a1)
  | some .teach => some (.teach b.a1)
  | some .lockIn => some .lockIn
  | some .enroll => some .enroll
  | some .loadBaseline => none
  | none => none

/-- The code byte of a COMMAND payload. -/
def payloadCode : CommandPayload → Byte
  | .short b => b.a0
  | .long code _ _ _ => code

/-- The command of a COMMAND payload; none where the code names no command or the length does not match it. -/
def payloadCommand : CommandPayload → Option Command
  | .short b => commandOfBytes b
  | .long code ch first values =>
    if commandCodeOf code = some .loadBaseline then some (.loadBaseline ch first values) else none

/-- The 8 bytes of four side fragments: fragment n carries bytes 2n - 2 and 2n - 1, high byte first. -/
def bytesOfFragments (f1 f2 f3 f4 : BitVec 16) : Oct Byte :=
  { a0 := f1.extractLsb' 8 8, a1 := f1.extractLsb' 0 8, a2 := f2.extractLsb' 8 8, a3 := f2.extractLsb' 0 8,
    a4 := f3.extractLsb' 8 8, a5 := f3.extractLsb' 0 8, a6 := f4.extractLsb' 8 8, a7 := f4.extractLsb' 0 8 }

/-- An answer as 64 bits: code echo, status, 48 data bits. -/
def Reply.bits (r : Reply) : BitVec 64 := r.code ++ (BitVec.ofNat 8 (Status.code r.status)) ++ r.data

/-- Side fragment n (1..4) of an answer: 1 holds the echo and status, 2..4 the data, high part first (09 R181). For a number that a
storage fault has left outside 1..4 the model takes zeros for 0 and the last data bits above 4 (log 33). -/
def Reply.fragment (r : Reply) (n : Nat) : BitVec 16 := (Reply.bits r).extractLsb' (64 - 16 * n) 16

/-- The channel an argument byte names, none above 7. -/
def chanOf (b : Byte) : Option Chan := if h : b.toNat < 8 then some ⟨b.toNat, h⟩ else none

/-- The node an address names, none outside 1..8. -/
def nodeOf (addr : Nat) : Option Node := if h : 1 ≤ addr ∧ addr ≤ 8 then some ⟨addr - 1, by omega⟩ else none

/-- The bin a number names, none above 63. -/
def binOf (n : Nat) : Option (Fin 64) := if h : n < 64 then some ⟨n, h⟩ else none

/-! ### Trunk frames (11 R190) -/

/-- The bytes of a word, high byte first. -/
def bytesOfBits (n : Nat) (w : Nat) : List Byte :=
  (List.range n).map fun i => BitVec.ofNat 8 (w / 256 ^ (n - 1 - i))

/-- A whole trunk frame: start byte A5h, kind, length, payload, CRC-16 over kind, length and payload. -/
def trunkFrame (kind : Byte) (payload : List Byte) : List Byte :=
  let len := BitVec.ofNat 8 payload.length
  [0xA5, kind, len] ++ payload ++ bytesOfWord (crc16 ([kind, len] ++ payload))

/-- The bytes an answer puts on TRK_TX; a REPORT has none before its sending begins. -/
def Answer.lineBytes (a : Answer) : List Byte :=
  match a.body with
  | .response r => trunkFrame 4 (bytesOfBits 8 (Reply.bits r).toNat)
  | .report _ none => []
  | .report side (some b) =>
    trunkFrame 2 (bytesOfBits 2 b.part.toNat ++ b.entries.toList.flatMap (fun e => bytesOfBits 4 e.toNat) ++
      [side.marker] ++ bytesOfBits 2 side.fragment.toNat)

/-- A byte as it goes on the line: eight bits, least significant first (11 R190). -/
def lineBitsOfByte (b : Byte) : List Bool := (List.range 8).map b.getLsbD

/-- The byte of eight line bits, the first of them its least significant (11 R190). -/
def byteOfLineBits (bits : List Bool) : Byte :=
  BitVec.ofNat 8 (bits.foldr (fun b n => 2 * n + b.toNat) 0)

/-- The data bits an answer puts on TRK_TX, in the order sent (11 R190). -/
def Answer.lineBits (a : Answer) : List Bool := (Answer.lineBytes a).flatMap lineBitsOfByte

/-- The payload of a CYCLE frame as its 16 bytes. -/
def cycleBytes (p : CyclePayload) : List Byte :=
  [p.speed, p.temp, p.rough, p.flags] ++ p.orders.toList ++ [p.marker] ++ bytesOfWord p.fragment ++ [p.zero]

/-- A byte of a list, 0 past its end. -/
def byteAt (l : List Byte) (i : Nat) : Byte := l.getD i 0

/-- Two bytes of a list as a word, high byte first. -/
def wordAt (l : List Byte) (i : Nat) : BitVec 16 := byteAt l i ++ byteAt l (i + 1)

/-- The CYCLE payload of 16 bytes. -/
def cycleOfBytes (l : List Byte) : CyclePayload :=
  { speed := byteAt l 0, temp := byteAt l 1, rough := byteAt l 2, flags := byteAt l 3,
    orders := Oct.ofFn fun c => byteAt l (4 + c.val), marker := byteAt l 12, fragment := wordAt l 13,
    zero := byteAt l 15 }

/-- The COMMAND payload of 8 or 19 bytes. -/
def commandPayloadOfBytes (l : List Byte) : CommandPayload :=
  if l.length = 19 then
    .long (byteAt l 0) (byteAt l 1) (byteAt l 2) (Oct.ofFn fun i => wordAt l (3 + 2 * i.val))
  else .short (Oct.ofFn fun i => byteAt l i.val)

/-- The command row a frame that the receiver has judged comes to (09 R173). -/
def frameCommand (kind : Byte) (payload : List Byte) : Instr :=
  if kind = 1 then .goodCycleFrame (cycleOfBytes payload) else .goodCommandFrame (commandPayloadOfBytes payload)

/-- The receiver takes one byte (09 R173): its next state, and the row of a frame it has judged. -/
def receiverByte (r : Receiver) (b : Byte) : Receiver × Option Instr :=
  match r with
  | .hunt => if b = 0xA5 then (.kind, none) else (.hunt, none)
  | .kind => if b = 1 ∨ b = 3 then (.length b, none) else (.hunt, some (.frameDiscarded .unknownKind))
  | .length k =>
    if (k = 1 ∧ b = 16) ∨ (k = 3 ∧ (b = 8 ∨ b = 19)) then (.body k b [], none)
    else (.hunt, some (.frameDiscarded .wrongLength))
  | .body k len got =>
    let all := got ++ [b]
    if all.length < len.toNat + 2 then (.body k len all, none)
    else
      let payload := all.take len.toNat
      if crc16 ([k, len] ++ payload) = wordAt all len.toNat then (.hunt, some (frameCommand k payload))
      else (.hunt, some (.frameDiscarded .badCrc))

/-- The rows that bytes taken one after another come to. -/
def receiverFeed : Receiver → List Byte → List Instr
  | _, [] => []
  | r, b :: bs =>
    match (receiverByte r b).2 with
    | none => receiverFeed (receiverByte r b).1 bs
    | some i => i :: receiverFeed (receiverByte r b).1 bs

/-- The receiver after bytes taken one after another. -/
def receiverAfter (r : Receiver) (bytes : List Byte) : Receiver := bytes.foldl (fun r b => (receiverByte r b).1) r

/-- The bytes of the data bits on TRK_RX, eight bits to a byte, as far as whole bytes have come; the argument counts the
bytes looked for (11 R190). -/
def bytesOfLine : Nat → List Bool → List Byte
  | 0, _ => []
  | n + 1, bits => if bits.length < 8 then [] else byteOfLineBits (bits.take 8) :: bytesOfLine n (bits.drop 8)

/-- The rows that data bits on TRK_RX come to (09 R173, 11 R190). -/
def lineFeed (r : Receiver) (bits : List Bool) : List Instr := receiverFeed r (bytesOfLine bits.length bits)

/-! ### Branch frames (11 R192) -/

/-- A sample frame's content (07 R152). -/
structure Sample where
  counter : BitVec 12
  current : BitVec 12
  volt : BitVec 8
  atEnd : Bool
  hallFault : Bool
  overtemp : Bool
  freshStart : Bool
  keep : BitVec 2
deriving DecidableEq, Repr

/-- The 40 bits of a sample frame before its CRC-8, most significant first. -/
def Sample.body (m : Sample) : List Bool :=
  bitsOfNat 12 m.counter.toNat ++ bitsOfNat 12 m.current.toNat ++ bitsOfNat 8 m.volt.toNat ++
  [m.atEnd, m.hallFault, m.overtemp, m.freshStart] ++ bitsOfNat 2 m.keep.toNat ++ [false, false]

/-- A whole sample frame, as a node sends it. -/
def Sample.bits (m : Sample) : List Bool := Sample.body m ++ bitsOfNat 8 (crc8 (Sample.body m)).toNat

/-- The sample of a frame that is 48 bits long, whose CRC-8 checks and whose zero bits are 0 (07 R149). -/
def sampleOf (bits : List Bool) : Option Sample :=
  if bits.length = 48 ∧ bitField bits 40 8 = (crc8 (bits.take 40)).toNat ∧ bitField bits 38 2 = 0 then
    some { counter := BitVec.ofNat 12 (bitField bits 0 12), current := BitVec.ofNat 12 (bitField bits 12 12),
           volt := BitVec.ofNat 8 (bitField bits 24 8), atEnd := bits.getD 32 false,
           hallFault := bits.getD 33 false, overtemp := bits.getD 34 false, freshStart := bits.getD 35 false,
           keep := BitVec.ofNat 2 (bitField bits 36 2) }
  else none

/-- The content of an identity frame (07 R154). -/
structure Identity where
  cls : BitVec 8
  tag : BitVec 24
  rated : BitVec 12
deriving DecidableEq, Repr

/-- The 48 bits of an identity frame before its CRC-8. -/
def Identity.body (m : Identity) : List Bool :=
  bitsOfNat 8 m.cls.toNat ++ bitsOfNat 24 m.tag.toNat ++ bitsOfNat 12 m.rated.toNat ++ [false, false, false, false]

/-- A whole identity frame, as a node sends it. -/
def Identity.bits (m : Identity) : List Bool := Identity.body m ++ bitsOfNat 8 (crc8 (Identity.body m)).toNat

/-- The identity of a slot 0 frame that is 56 bits long, whose CRC-8 checks and whose zero bits are 0 (11 R192). -/
def identityOf (bits : List Bool) : Option Identity :=
  if bits.length = 56 ∧ bitField bits 48 8 = (crc8 (bits.take 48)).toNat ∧ bitField bits 44 4 = 0 then
    some { cls := BitVec.ofNat 8 (bitField bits 0 8), tag := BitVec.ofNat 24 (bitField bits 8 24),
           rated := BitVec.ofNat 12 (bitField bits 32 12) }
  else none

/-- The checked sample frame of a slot, if it carried one. -/
def slotSample : SlotContent → Option Sample
  | .silent => none
  | .frame bits => sampleOf bits

/-- The identity record of slot 0, if it is GOOD; SILENT and CRC_BAD give none (07 R154). -/
def slotIdentity : SlotContent → Option Identity
  | .silent => none
  | .frame bits => identityOf bits

/-- The outcome of a judged reply slot (07 R149); a GOOD slot carries its sample. -/
inductive SlotOutcome where
  | silent | crcBad | stale
  | good (m : Sample)
deriving DecidableEq, Repr

/-- The outcome of a judged reply slot, given the node's last good keep-alive (07 R149, R150). -/
def slotOutcome (keep : Option (BitVec 2)) : SlotContent → SlotOutcome
  | .silent => .silent
  | .frame bits =>
    match sampleOf bits with
    | none => .crcBad
    | some m => if m.freshStart = false ∧ keep = some m.keep then .stale else .good m

/-- The drive command codes (11 R192). -/
inductive DriveCommand where
  | hold | opens | closes
deriving DecidableEq, Repr

/-- 0 HOLD, 1 OPEN, 2 CLOSE. -/
def DriveCommand.code : DriveCommand → Nat
  | .hold => 0
  | .opens => 1
  | .closes => 2

/-- The drive word: commands of addresses 1..8, two bits each from bit 31 downward, assign field, CRC-8. -/
def driveWordOf (commands : Oct DriveCommand) (assign : Nat) : BitVec 32 :=
  let body := packFields 24 (commands.toList.map (fun d => (2, (DriveCommand.code d : Int))) ++ [(8, (assign : Int))])
  BitVec.ofNat 32 (body * 256 + (crc8 (bitsOfNat 24 body)).toNat)

/-- A drive word as it goes on the branch bus: 32 bits, most significant first (11 R192). -/
def driveLineBits (w : BitVec 32) : List Bool := bitsOfNat 32 w.toNat

/-! ### The settings image as 935 values (10 R187) -/

/-- The values of a zone list: its count, then six records of start, end, kind, adjust, absent ones four zeros. -/
def zoneValues (zs : List Zone) : List Int :=
  (zs.length : Int) ::
    (List.range 6).flatMap fun i =>
      match zs[i]? with
      | some z => [z.start, z.stop, (z.kind : Int), z.adjust]
      | none => [0, 0, 0, 0]

/-- The values of the image in the order of the check value: per-channel settings, zone lists, baselines, globals. -/
def imageValues (i : Image) : List Int :=
  (i.chan.toList.flatMap fun cs => ChanSetting.all.map cs.read) ++ i.zones.toList.flatMap zoneValues ++
  (i.baseline.toList.flatMap fun b => b.toList.map (fun n : Nat => (n : Int))) ++ GlobSetting.all.map i.glob.read

/-- Values as bytes: 16 bits each, high byte first, signed values in two's complement (10 R187). -/
def valueBytes (vs : List Int) : List Byte := vs.flatMap fun v => bytesOfWord (BitVec.ofInt 16 v)

/-- The check value of an image (10 R187). -/
def checkValue (i : Image) : BitVec 16 := crc16 (valueBytes (imageValues i))

/-- The bytes of segment s of the image: the values at places 15s to 15s + 14, as far as there are any (10 R189). -/
def segmentBytes (i : Image) (s : Nat) : List Byte := valueBytes (((imageValues i).drop (15 * s)).take 15)

end Sys2Proof.Machine
end

