-- ==== Sys2Proof/Machine/Ops.lean ====
section
/-! DEFINITION. Named operations over the state that several blocks share: time, channel updates, leaving motion or the queue,
inhibit causes, loss of reference, binding, teach failure, and joining the start queue. -/

namespace Sys2Proof.Machine

/-! ### Time -/

/-- The part clock: 10 ms units in 16 bits, wrapping (02 R58). -/
def State.partClock (s : State) : Nat := s.now / Config.ticksPerClock % 65536

/-- The instant `ms` milliseconds from now. -/
def State.inMs (s : State) (ms : Nat) : Nat := s.now + Config.ticksPerMs * ms

/-- A timer runs and has reached its expiry. -/
def isDue (timer : Option Nat) (now : Nat) : Bool := timer.any fun t => decide (t ≤ now)

/-! ### Reading -/

/-- What the part holds for a channel. -/
def State.chan (s : State) (c : Chan) : ChannelUnit := s.chans.get c

/-- The working settings of a channel. -/
def State.cset (s : State) (c : Chan) : ChanSettings := s.stg.image.chan.get c

/-- The global working settings. -/
def State.glob (s : State) : GlobSettings := s.stg.image.glob

/-- The phase. -/
def State.phase (s : State) : Phase := s.stg.phase

/-- STORE_BUSY: a store write is in flight (09 R177). -/
def State.storeBusy (s : State) : Bool := s.stg.write.isSome

/-- An enrollment run is in progress while the enrollment state is not IDLE (08 R168). -/
def State.runInProgress (s : State) : Bool := decide (s.enr.st ≠ .idle)

/-- OPENING, CLOSING and REVERSING are together "in motion" (01 R2). -/
def inMotion (st : ChanState) : Bool :=
  match st with
  | .opening => true
  | .closing => true
  | .reversing => true
  | _ => false

/-- The number n of motion slots held (06 R127). -/
def State.slotsHeld (s : State) : Nat := s.arb.slots.toList.countP (fun b => b)

/-- The entry of a channel in the start queue, if it has one; the first, where a storage fault has left several (log 33). -/
def State.entryOf (s : State) (c : Chan) : Option Entry := s.arb.queue.find? (fun e => decide (e.channel = c))

/-- The motion or entry a channel carries: a WAITING channel its entry's items, an OPENING or CLOSING channel its
motion record (01 R2, R19). None where that is missing, which only a storage fault leaves (log 33). -/
def State.carried (s : State) (c : Chan) : Option Motion :=
  match (s.chan c).ctl.st with
  | .waiting => (s.entryOf c).map Entry.motion
  | .opening => (s.chan c).ctl.motion
  | .closing => (s.chan c).ctl.motion
  | _ => none

/-! ### Updates of one channel -/

/-- A channel's unit replaced by its image. -/
def State.modChan (s : State) (c : Chan) (f : ChannelUnit → ChannelUnit) : State :=
  { s with chans := s.chans.set c (f (s.chans.get c)) }

/-- The channel record changed. -/
def State.modCtl (s : State) (c : Chan) (f : ChannelRecord → ChannelRecord) : State :=
  s.modChan c fun u => { u with ctl := f u.ctl }

/-- The engine context changed. -/
def State.modEng (s : State) (c : Chan) (f : EngineContext → EngineContext) : State :=
  s.modChan c fun u => { u with eng := f u.eng }

/-- The profile context changed. -/
def State.modProf (s : State) (c : Chan) (f : ProfileContext → ProfileContext) : State :=
  s.modChan c fun u => { u with prof := f u.prof }

/-- The reversal context changed. -/
def State.modRev (s : State) (c : Chan) (f : ReversalContext → ReversalContext) : State :=
  s.modChan c fun u => { u with rev := f u.rev }

/-- The supply context changed. -/
def State.modSup (s : State) (c : Chan) (f : SupplyContext → SupplyContext) : State :=
  s.modChan c fun u => { u with sup := f u.sup }

/-! ### Leaving motion or the queue -/

/-- The engine closes the stroke: A 0, first-sample mark clear, blanking count 0, F16 kept (02 R32). -/
def closeStroke (e : EngineContext) : EngineContext := { e with acc := 0, first := false, blank := 0 }

/-- The engine context of a channel that leaves its state: the stroke of a CLOSING channel closes, whatever it leaves for
(02 R32). -/
def ChannelUnit.engLeaving (u : ChannelUnit) : EngineContext := if u.ctl.st = .closing then closeStroke u.eng else u.eng

/-- A channel leaves motion or the queue, as it sees it: motion record, hold timer and reversal target end, and
the engine closes the stroke of a CLOSING channel (01 R6, R19, R22, 02 R32, 04 R92). -/
def ChannelUnit.leave (u : ChannelUnit) (dst : ChanState) : ChannelUnit :=
  { u with
    ctl := { u.ctl with st := dst, motion := none, hold := none }
    eng := ChannelUnit.engLeaving u
    rev := { u.rev with target := none } }

/-- The arbiter releases a channel's slot and removes its entry, whichever it has (06 R127, R131); all of its entries, where a
storage fault has left several (log 33). -/
def SlotArbiter.drop (a : SlotArbiter) (c : Chan) : SlotArbiter :=
  { a with slots := a.slots.set c false, queue := a.queue.filter (fun e => decide (e.channel ≠ c)) }

/-- A channel stops, or its entry is removed, and it goes to the state `dst` (IDLE, INHIBITED or ABSENT). -/
def State.vacate (s : State) (c : Chan) (dst : ChanState) : State :=
  { s with
    chans := s.chans.set c (ChannelUnit.leave (s.chans.get c) dst)
    arb := SlotArbiter.drop s.arb c }

/-- The channel goes to the state `dst` with no other effect. -/
def State.setSt (s : State) (c : Chan) (dst : ChanState) : State := s.modCtl c fun r => { r with st := dst }

/-- A running teach of the channel fails with this reason; the teach visited count takes the visited count, or 0
if the stroke has not been granted (03 R84). -/
def State.teachFail (s : State) (c : Chan) (why : TeachReason) : State :=
  if (s.chan c).prof.teach = .running then
    s.modProf c fun p =>
      { p with teach := .failed why
               teachVisited := if (s.chan c).ctl.st = .closing then p.visited else 0 }
  else s

/-! ### Latched conditions and refusals -/

/-- A refusal reason set and ORDER_REFUSED latched (01 R8, R20). -/
def State.refuse (s : State) (c : Chan) (why : RefusalReason) : State :=
  s.modCtl c fun r => { r with refusal := some why, latched := { r.latched with orderRefused := true } }

/-! ### Inhibit causes and the reference -/

/-- The set of inhibit causes is not empty. -/
def anyCause (k : Causes) : Bool := k.nodeLost || k.nodeFault || k.undervolt

/-- The inhibit causes of a bound channel become `k` (01 R5, R6): from empty to not empty the channel goes to
INHIBITED and its motion or entry ends (a teach fails with INHIBITED); from not empty to empty an INHIBITED channel
goes to IDLE; otherwise only the set changes. -/
def State.setCauses (s : State) (c : Chan) (k : Causes) : State :=
  let was := anyCause (s.chan c).ctl.causes
  let s1 := s.modCtl c fun r => { r with causes := k }
  if was = false ∧ anyCause k = true then (s1.teachFail c .inhibited).vacate c .inhibited
  else if was = true ∧ anyCause k = false ∧ (s.chan c).ctl.st = .inhibited then s1.setSt c .idle
  else s1

/-- Only a held USER motion or entry stands without a reference (01 R8). -/
def needsReference (m : Motion) : Bool := decide (m.origin = .latched) || decide (m.cls ≠ .user)

/-- A channel loses its reference: where it carries a motion or entry other than a held USER one, that ends, the
channel goes to IDLE, the refusal reason becomes UNREFERENCED and ORDER_REFUSED is latched; a teach fails with DRIFT
(01 R7, R8, 03 R84). -/
def State.loseReference (s : State) (c : Chan) : State :=
  if (s.chan c).ctl.referenced = true then
    let s1 := s.modCtl c fun r => { r with referenced := false }
    match s1.carried c with
    | some m =>
      if needsReference m then ((s1.teachFail c .drift).vacate c .idle).refuse c .unreferenced else s1
    | none => s1
  else s

/-! ### Binding (01 R4) -/

/-- The channel is used and its NODE_ADDR is an address that has a record, carried by no lower channel, with no
enrollment run in progress. -/
def State.isBound (s : State) (c : Chan) : Bool :=
  match nodeOf (s.cset c).nodeAddr with
  | none => false
  | some a =>
    (s.enr.table.get a).isSome && !s.runInProgress &&
    octIndexes.all fun d => !(decide (d < c) && decide ((s.cset d).nodeAddr = (s.cset c).nodeAddr))

/-- The channel bound to an address, if there is one: an ABSENT channel is bound to none (01 R4). -/
def State.channelOf (s : State) (a : Node) : Option Chan :=
  octIndexes.find? fun c => decide ((s.chan c).ctl.st ≠ .absent) && decide (nodeOf (s.cset c).nodeAddr = some a)

/-- The supply context set afresh when the binding changes; the stroke mask count stands (06 R121). -/
def SupplyContext.rebound (u : SupplyContext) : SupplyContext :=
  { u with undervolt := false, lowRun := 0, highRun := 0, mask := 0, prev := none }

/-- The inhibit causes a node record gives at binding (01 R4). -/
def causesOfRecord (r : NodeRecord) : Causes :=
  { nodeLost := decide (r.st = .lost), nodeFault := decide (r.st = .mismatch), undervolt := false }

/-- A channel becomes bound to a node record (01 R4): IDLE, or INHIBITED with the record's cause, unreferenced at
position 0 with no counter base, and its supply context afresh. -/
def State.becomeBound (s : State) (c : Chan) (r : NodeRecord) : State :=
  let k := causesOfRecord r
  s.modChan c fun u =>
    { u with
      ctl := { u.ctl with st := if anyCause k then .inhibited else .idle, referenced := false, pos := 0,
                          base := none, causes := k }
      sup := SupplyContext.rebound u.sup }

/-- A channel becomes unbound (01 R4): its motion or entry ends (a teach fails with INHIBITED) and it goes to ABSENT,
unreferenced, with no counter base and no inhibit cause; its latched conditions are kept. -/
def State.becomeUnbound (s : State) (c : Chan) : State :=
  ((s.teachFail c .inhibited).vacate c .absent).modChan c fun u =>
    { u with
      ctl := { u.ctl with referenced := false, base := none, causes := Causes.none }
      sup := SupplyContext.rebound u.sup }

/-- Binding of one channel judged again; `old` is the NODE_ADDR it was bound by, if it was bound. A channel that
changes from one bound address to another is unbound and bound again (log 16). -/
def State.judgeBinding (old : Oct Nat) (s : State) (c : Chan) : State :=
  let was := decide ((s.chan c).ctl.st ≠ .absent)
  let keeps := s.isBound c && decide ((s.cset c).nodeAddr = old.get c)
  let s1 := if was && !keeps then s.becomeUnbound c else s
  if s.isBound c && !(was && keeps) then
    match (nodeOf (s.cset c).nodeAddr).bind (fun a => s.enr.table.get a) with
    | some r => s1.becomeBound c r
    | none => s1
  else s1

/-- Binding judged again for every channel (01 R4). -/
def State.rebind (s : State) (old : Oct Nat) : State := octIndexes.foldl (State.judgeBinding old) s

/-- The NODE_ADDR settings as they stand. -/
def State.nodeAddrs (s : State) : Oct Nat := s.stg.image.chan.map ChanSettings.nodeAddr

/-- The link grade of the node bound to a channel; 0 for an ABSENT channel (07 R162). -/
def State.linkGrade (s : State) (c : Chan) : Nat :=
  if (s.chan c).ctl.st = .absent then 0
  else
    match nodeOf (s.cset c).nodeAddr with
    | some a => (s.br.nodes.get a).grade
    | none => 0

/-- A channel is DEGRADED: its link grade is at or below DEGRADED_GRADE (07 R163). -/
def State.degraded (s : State) (c : Chan) : Bool := decide (s.linkGrade c ≤ s.glob.degradedGrade)

/-! ### The start queue -/

/-- The hold timer restarts at HOLD_TIMEOUT ms (01 R19). -/
def State.restartHold (s : State) (c : Chan) : State :=
  s.modCtl c fun r => { r with hold := some (s.inMs s.glob.holdTimeout) }

/-- The queue is emptied (06 R139, R140). -/
def SlotArbiter.flushed (a : SlotArbiter) : SlotArbiter := { a with queue := [] }

/-- A new entry joins the start queue at its tail: the channel goes to WAITING, its latched conditions clear, and a
held entry starts the hold timer (01 R23, R27, 06 R129). It joins behind whatever a storage fault has left there, a full queue
included (log 33). -/
def State.joinQueue (s : State) (c : Chan) (m : Motion) : State :=
  let e : Entry := { channel := c, motion := m, join := s.now, expiry := s.inMs (50 * s.glob.queueTimeout) }
  { s with
    arb := { s.arb with queue := s.arb.queue ++ [e] }
    chans := s.chans.set c
      { s.chans.get c with
        ctl := { (s.chans.get c).ctl with
          st := .waiting
          latched := Latched.none
          hold := if m.origin = .held then some (s.inMs s.glob.holdTimeout) else none } } }

/-- The items of a channel's entry changed in place; its place, join time and expiry stand (06 R130). Several entries of the
channel, which only a storage fault leaves, change alike (log 33). -/
def State.modEntry (s : State) (c : Chan) (f : Motion → Motion) : State :=
  { s with arb := { s.arb with queue := s.arb.queue.map fun e => if e.channel = c then { e with motion := f e.motion } else e } }

/-! ### Free values and outcomes -/

/-- The next free index is used up (log 4). -/
def State.bump (s : State) : State := { s with freeCount := s.freeCount + 1 }

/-- A command of a running part; while a cold reset is held the part takes no command but those of the reset unit
and storage faults (08 R164, log 7). -/
def whileRunning (s : State) (f : State → State) : Host.Outcome State Fault Refusal :=
  .next (if s.rst.active = true then s else f s)

end Sys2Proof.Machine
end

