-- ==== Sys2Proof/Machine/Flags.lean ====
section
/-! DEFINITION. The conditions the part reports: the channel condition code (01 R29), the part conditions (09 R177), and the sets a READ returns. -/

namespace Sys2Proof.Machine

/-- The channel conditions with their codes, highest priority first, each with whether it is present (01 R29). -/
def State.channelConditions (s : State) (c : Chan) : List (Nat × Bool) :=
  let r := (s.chan c).ctl
  [(1, decide (r.st = .absent)), (2, r.causes.nodeLost), (3, r.causes.nodeFault), (4, r.causes.undervolt),
   (5, s.stg.configFault), (6, decide (r.st = .reversing)), (7, decide (0 < (s.chan c).rev.level)),
   (8, r.latched.blindStop), (9, !r.referenced), (10, s.degraded c), (11, r.latched.drift),
   (12, r.latched.profileRepaired), (13, r.latched.orderRefused), (14, r.latched.startTimeout),
   (15, decide (r.st = .waiting)), (16, decide (s.phase = .setup))]

/-- The code of the first condition present, 0 when there is none. -/
def firstPresent (l : List (Nat × Bool)) : Nat := ((l.find? fun x => x.2).map fun x => x.1).getD 0

/-- The channel condition code (01 R29). -/
def State.channelCondition (s : State) (c : Chan) : Nat := firstPresent (s.channelConditions c)

/-- The part conditions with their codes, highest priority first (09 R177). -/
def State.partConditions (s : State) : List (Nat × Bool) :=
  [(1, s.storeBusy), (2, s.stg.configFault), (3, s.stg.storeInvalid), (4, s.stg.storeFail), (5, s.enr.mismatch),
   (6, s.trk.wasLost), (7, s.trk.sideAbort)]

/-- The part condition code, 0 when none is present (09 R176). -/
def State.partCondition (s : State) : Nat := firstPresent s.partConditions

/-- The number of node records present, whatever their state (08 R168). -/
def State.nodeCount (s : State) : Nat := s.enr.table.toList.countP Option.isSome

/-- A set of conditions as one bit per member, in listed order (11 R191). -/
def setFields (l : List Bool) : List (Nat × Int) := l.map bitOf

/-- The inhibit causes in listed order (01 R5). -/
def causesList (k : Causes) : List Bool := [k.nodeLost, k.nodeFault, k.undervolt]

/-- The latched conditions in listed order (01 R3, R27). -/
def latchedList (l : Latched) : List Bool :=
  [l.blindStop, l.drift, l.profileRepaired, l.orderRefused, l.startTimeout]

/-- The part status word of a REPORT: phase, part condition code, node count, seven zero bits (11 R190). -/
def State.partStatusWord (s : State) : BitVec 16 :=
  BitVec.ofNat 16 (packFields 16
    [(2, (Phase.code s.phase : Int)), (3, (s.partCondition : Int)), (4, (s.nodeCount : Int))])

/-- The channel entry of a REPORT (11 R190). -/
def State.channelEntry (s : State) (c : Chan) : BitVec 32 :=
  let u := s.chan c
  BitVec.ofNat 32 (packFields 32
    [(3, (ChanState.code u.ctl.st : Int)), bitOf u.ctl.referenced, bitOf u.eng.tripFlag, (2, (u.rev.level : Int)),
     (3, (s.linkGrade c : Int)), (5, (s.channelCondition c : Int)), (13, u.ctl.pos)])

end Sys2Proof.Machine
end

