-- ==== Sys2Proof/Machine/Supply.lean ====
section
/-! DEFINITION. The supply monitor (06.1): the voltage stage and the count stage of a good sample. -/

namespace Sys2Proof.Machine

/-- The voltage lies in the low band (06 R123). -/
def lowBand (g : GlobSettings) (v : Nat) : Bool := decide (v < g.uvLevel0)

/-- The voltage lies in the high band: the low test is made first (06 R123). -/
def highBand (g : GlobSettings) (v : Nat) : Bool := !lowBand g v && decide (g.uvLevel2 ≤ v)

/-- The run counters and UNDERVOLT after a sample voltage (06 R123). That a run which a storage fault has left standing at 4 with
UNDERVOLT the other way moves it at the run's next sample is the model's choice (log 33). -/
def undervoltStep (g : GlobSettings) (v : Nat) (u : SupplyContext) : SupplyContext :=
  let low := if lowBand g v then min 4 (u.lowRun + 1) else 0
  let high := if highBand g v then min 4 (u.highRun + 1) else 0
  { u with lowRun := low, highRun := high
           undervolt := if low = 4 then true else if high = 4 then false else u.undervolt }

/-- The sample finds a dip: below DIP_LEVEL, or a step of DIP_STEP or more from the previous voltage (06 R125). -/
def isDip (g : GlobSettings) (v : Nat) (prev : Option Nat) : Bool :=
  decide (v < g.dipLevel) ||
  match prev with
  | none => false
  | some p => decide ((g.dipStep : Int) ≤ |(v : Int) - (p : Int)|)

/-- The mask counter and V_prev after a sample voltage (06 R125). -/
def maskStep (g : GlobSettings) (v : Nat) (u : SupplyContext) : SupplyContext :=
  { u with mask := if isDip g v u.prev then g.maskLength else u.mask - 1, prev := some v }

/-- The voltage stage of a good sample (06 R122). -/
def voltageStage (g : GlobSettings) (v : Nat) (u : SupplyContext) : SupplyContext :=
  maskStep g v (undervoltStep g v u)

/-- The voltage mask is active while the counter is above 0 (06 R125). -/
def maskActive (u : SupplyContext) : Bool := decide (0 < u.mask)

/-- The count stage: a closing sample taken while the mask is active is counted, up to 1023 (06 R126). -/
def State.countStage (s : State) (c : Chan) : State :=
  if (s.chan c).ctl.st = .closing ∧ maskActive (s.chan c).sup = true then
    s.modSup c fun u => { u with strokeMask := min 1023 (u.strokeMask + 1) }
  else s

end Sys2Proof.Machine
end

