-- ==== Sys2Proof/Machine/Context.lean ====
section
/-! DEFINITION. The context unit (05): the derived margin terms and the learning permission. -/

namespace Sys2Proof.Machine

/-- The panel-moving flag of a SLIDER channel's side is set; false for the other kinds (05 R112, R118). -/
def panelMoving (cs : ChanSettings) (ctx : ContextUnit) : Bool :=
  match cs.closure, cs.onSide with
  | .slider, .left => ctx.movingL
  | .slider, .right => ctx.movingR
  | _, _ => false

/-- The road term M_road (05 R112). -/
def roadTerm (cs : ChanSettings) (ctx : ContextUnit) : Nat :=
  (if panelMoving cs ctx then 15 else ctx.rough) * cs.roadFactor / 4

/-- The cold term M_cold (05 R114). -/
def coldTerm (cs : ChanSettings) (g : GlobSettings) (ctx : ContextUnit) : Nat :=
  if ctx.fresh = false then 0
  else if ctx.temp ≤ g.cold2Temp then cs.cold2Margin
  else if ctx.temp ≤ g.cold1Temp then cs.cold1Margin
  else 0

/-- The wind term M_wind (05 R115); the subtraction of naturals is max(0, s - WIND_ONSET). -/
def windTerm (cs : ChanSettings) (g : GlobSettings) (ctx : ContextUnit) : Nat :=
  if cs.closure = .roof then cs.windFactor * (ctx.speed - g.windOnset) ^ 2 / 256 else 0

/-- The learning permission (05 R116). -/
def learningPermission (g : GlobSettings) (ctx : ContextUnit) : Bool :=
  decide (g.cold1Temp < ctx.temp) && decide (ctx.rough ≤ g.learnRough)

/-- The condition of REOPEN on the context: FRESH and speed 0 (05 R119). -/
def atStandstill (ctx : ContextUnit) : Bool := ctx.fresh && decide (ctx.speed = 0)

end Sys2Proof.Machine
end

