-- ==== Sys2Proof/Machine/Profile.lean ====
section
/-! DEFINITION. The profile store (03): bins, the adaptation band, zone lists, the stroke record, learning, and the end of a teach stroke. -/

namespace Sys2Proof.Machine

/-! ### Bins and bands -/

/-- The bin of a position for a travel (02 R35). -/
def binOfPos (p : Int) (travel : Nat) : Fin 64 :=
  if p ≤ 0 then 0
  else if (travel : Int) ≤ p then 63
  else ⟨min 63 (p * 64 / travel).toNat, by omega⟩

/-- The lower end of the adaptation band of a baseline bin (03 R66). -/
def bandFrom (cs : ChanSettings) (b : Nat) : Nat := b - cs.bandLow

/-- The upper end of the adaptation band of a baseline bin (03 R66). -/
def bandTo (cs : ChanSettings) (b : Nat) : Nat := min 4095 (b + cs.bandHigh)

/-- A working bin lies in the band of its baseline bin. -/
def inBand (cs : ChanSettings) (b w : Nat) : Bool := decide (bandFrom cs b ≤ w) && decide (w ≤ bandTo cs b)

/-! ### Zone lists -/

/-- Each record from index 1 on starts above the end of the record before it (03 R68, condition 4). -/
def ascending : List Zone → Bool
  | [] => true
  | [_] => true
  | a :: b :: rest => decide (a.stop < b.start) && ascending (b :: rest)

/-- A zone list is valid (03 R68). -/
def zonesValid (zs : List Zone) : Bool :=
  match zs with
  | [] => false
  | z :: rest =>
    decide (Zone.acts z = .seal) && decide (z.start = -255) && decide (0 ≤ z.stop) && decide (z.stop ≤ 255) &&
    rest.all (fun r => decide (Zone.acts r ≠ .seal)) && ascending zs

/-- The fallback form: SEAL up to 16 counts, PROTECT with adjust 0 above (03 R69, 02 R39). -/
def fallbackZone (p : Int) : ZoneKind × Int := if p ≤ Config.fallbackSeal then (.seal, 0) else (.protect, 0)

/-- The zone lookup (03 R69). Where a storage fault has left a later record with its end below its start, a list can be valid
while two of its records cover the position; that the one of lower index is taken then is the model's choice (log 33). -/
def zoneLookup (zs : List Zone) (p : Int) : ZoneKind × Int :=
  if zonesValid zs then
    match zs.find? (fun z => decide (z.start ≤ p) && decide (p ≤ z.stop)) with
    | some z => (Zone.acts z, z.adjust)
    | none => (.protect, 0)
  else fallbackZone p

/-- The effective zone of a channel at a position: the fallback form under CONFIG_FAULT, else the lookup (02 R39). -/
def State.effectiveZone (s : State) (c : Chan) (p : Int) : ZoneKind × Int :=
  if s.stg.configFault = true then fallbackZone p else zoneLookup (s.stg.image.zones.get c) p

/-! ### The stroke record -/

/-- The profile store opens its part of a stroke at a grant into CLOSING (03 R73). -/
def ProfileContext.openStroke (p : ProfileContext) (phase : Phase) (level : Nat) : ProfileContext :=
  { p with
    stroke := Bins.const none
    visited := 0
    marks := { openedInRun := decide (phase = .run), escZero := decide (level = 0),
               teachStroke := decide (p.teach = .running) } }

/-- An entry handed by the engine: left out when blanked or masked, else it raises its bin's peak (03 R74). That a visited count
of 64 or more beside an unvisited bin, which only a storage fault leaves, becomes 64 is the model's choice (log 33). -/
def ProfileContext.enter (p : ProfileContext) (b : Fin 64) (f : Nat) (blanked masked : Bool) : ProfileContext :=
  if blanked || masked then p
  else
    match p.stroke.get b with
    | none => { p with stroke := p.stroke.set b (some f), visited := min 64 (p.visited + 1) }
    | some old => { p with stroke := p.stroke.set b (some (max old f)) }

/-! ### Learning -/

/-- The working bin after one update toward a peak: one eighth of the way, truncated toward zero, at least one unit, clamped to
the band (03 R77). That in an empty band, which only a storage fault leaves (a baseline bin above 4095 + BAND_LOW), the lower
end is tested first is the model's choice (log 33). -/
def learnBin (cs : ChanSettings) (b w : Nat) (peak : Option Nat) : Nat :=
  match peak with
  | none => w
  | some p =>
    let delta : Int := (p : Int) - w
    let eighth := delta.tdiv 8
    let step := if delta ≠ 0 ∧ eighth = 0 then (if 0 < delta then 1 else -1) else eighth
    (clamp (bandFrom cs b) (bandTo cs b) (w + step)).toNat

/-- The learning conditions at a closed end stop of a referenced channel with correction `k` (03 R76). -/
def State.learns (s : State) (c : Chan) (k : Int) : Bool :=
  let p := (s.chan c).prof
  p.marks.openedInRun && decide (|k| ≤ (s.cset c).driftTol) &&
  decide ((s.chan c).sup.strokeMask ≤ s.glob.learnMask) && learningPermission s.glob s.ctx && p.marks.escZero &&
  !s.stg.configFault && decide (8 ≤ p.visited)

/-- The learning judgement: every visited bin updated, or nothing (03 R76, R77). -/
def State.learn (s : State) (c : Chan) (k : Int) : State :=
  if s.learns c k then
    let base := s.stg.image.baseline.get c
    s.modProf c fun p =>
      { p with working := Bins.ofFn fun b => learnBin (s.cset c) (base.get b) (p.working.get b) (p.stroke.get b) }
  else s

/-! ### Copies of the baseline and the teach stroke -/

/-- The working profile of a channel becomes a copy of its baseline (03 R65). -/
def State.copyBaseline (s : State) (c : Chan) : State :=
  s.modProf c fun p => { p with working := s.stg.image.baseline.get c }

/-- The working image changed. -/
def State.modImage (s : State) (f : Image → Image) : State := { s with stg := { s.stg with image := f s.stg.image } }

/-- The baseline value of a bin after a teach stroke: its peak; where it is unvisited, the peak of the nearest visited bin above
it, and above the highest visited bin that bin's peak (03 R82, R83); 0 if no bin is visited, which the visited count of at least
8 rules out but for a storage fault: the model's choice (log 33). -/
def filledBin (stroke : Bins (Option Nat)) (b : Fin 64) : Nat :=
  let all := stroke.toList
  match ((all.drop b.val).findSome? fun x => x) with
  | some v => v
  | none => ((all.reverse.findSome? fun x => x)).getD 0

/-- The end of a teach stroke at its closed end stop with correction `k` (03 R82). -/
def State.teachEnd (s : State) (c : Chan) (k : Int) : State :=
  let p := (s.chan c).prof
  let result : TeachState :=
    if (s.cset c).driftTol < |k| then .failed .drift else if p.visited < 8 then .failed .short else .done
  let s1 := s.modProf c fun p => { p with teach := result, teachVisited := p.visited }
  if result = .done then
    let filled := Bins.ofFn fun b => filledBin p.stroke b
    (s1.modImage fun i => { i with baseline := i.baseline.set c filled }).copyBaseline c
  else s1

/-- The profile store takes the closed end stop of a referenced channel: a teach stroke ends its teach, unless the
teach has already failed; any other stroke is judged for learning (03 R75, R84). -/
def State.profileClosedEnd (s : State) (c : Chan) (k : Int) : State :=
  let p := (s.chan c).prof
  if p.marks.teachStroke then (if p.teach = .running then s.teachEnd c k else s) else s.learn c k

end Sys2Proof.Machine
end

