-- ==== Sys2Proof/Machine/Reversal.lean ====
section
/-! DEFINITION. The reversal unit (04): taking a trip, the closed end stop, and ESCALATION_WINDOW_EXPIRY. -/

namespace Sys2Proof.Machine

/-- e set to 0 and the escalation window timer stopped (04 R99, R100). -/
def ReversalContext.clearLevel (r : ReversalContext) : ReversalContext := { r with level := 0, window := none }

/-- The reversal unit takes a closed end stop: in RUN it clears the escalation, else nothing (04 R100). -/
def State.reversalClosedEnd (s : State) (c : Chan) : State :=
  if s.phase = .run then s.modRev c ReversalContext.clearLevel else s

/-- The reversal target of a trip at position p (04 R90). -/
def reversalTarget (cs : ChanSettings) (p : Int) : Int := min (cs.travel : Int) (p + cs.reverseDist)

/-- The reversal unit takes a trip of a CLOSING channel (04 R89): e is raised, the window restarts, the target is set,
the channel goes to REVERSING with its slot kept, its motion record ended and its hold timer stopped; the engine closes
the stroke and a teach fails with TRIP. -/
def State.takeTrip (s : State) (c : Chan) : State :=
  (s.teachFail c .trip).modChan c fun u =>
    { u with
      ctl := { u.ctl with st := .reversing, motion := none, hold := none }
      eng := closeStroke u.eng
      rev := { target := some (reversalTarget (s.cset c) u.ctl.pos), level := min 3 (u.rev.level + 1)
               window := some (s.inMs (1000 * (s.cset c).escalWindow)) } }

/-- ESCALATION_WINDOW_EXPIRY (04 R99): e becomes 0 and the timer stops, in every channel state. Where a trip has restarted
the timer since, the old expiry is gone (04 R106). -/
def State.escalationExpires (s : State) (c : Chan) : State :=
  if isDue (s.chan c).rev.window s.now then s.modRev c ReversalContext.clearLevel else s

/-- The row ESCALATION_WINDOW_EXPIRY: the expiry of the timer, where it has been reached (04 R98, R99, log 1). -/
def execEscalationWindowExpiry (c : Chan) (s : State) : Host.Outcome State Fault Refusal :=
  whileRunning s fun s => s.escalationExpires c

end Sys2Proof.Machine
end

