-- ==== Sys2Proof/Machine/Channel.lean ====
section
/-! DEFINITION. The channel controller (01): the order gate, the handling of a good sample, the closed end stop, and HOLD_TIMER_EXPIRY. -/

namespace Sys2Proof.Machine

/-! ### Orders (01 R18 to R25) -/

/-- A held kind; after normalising, its source is USER (01 R18). -/
def isHeldKind (o : Order) : Bool := decide (o.kind = .openHeld) || decide (o.kind = .closeHeld)

/-- A held USER order. -/
def isHeldUser (o : Order) : Bool := isHeldKind o && decide (o.source = .user)

/-- An order into motion: any kind but NONE and STOP. -/
def intoMotion (o : Order) : Bool := decide (o.kind ≠ .none) && decide (o.kind ≠ .stop)

/-- The target of a PRESET: its setting clamped to 0..L (01 R21). -/
def State.presetTarget (s : State) (c : Chan) (o : Order) : Int :=
  clamp 0 (s.cset c).travel ((s.cset c).presetOf o.preset)

/-- The direction of an order; none for NONE, STOP, and a PRESET equal to the position (01 R21). -/
def State.orderDir (s : State) (c : Chan) (o : Order) : Option Dir :=
  match o.kind with
  | .none => none
  | .stop => none
  | .openHeld => some .toOpen
  | .openExpress => some .toOpen
  | .closeHeld => some .toClosed
  | .closeExpress => some .toClosed
  | .preset =>
    if (s.chan c).ctl.pos < s.presetTarget c o then some .toOpen
    else if s.presetTarget c o < (s.chan c).ctl.pos then some .toClosed
    else none

/-- The held-end test (01 R19): a held motion or entry ends unless the field is a held kind, an express kind or a
PRESET of its own direction. -/
def State.heldEnd (s : State) (c : Chan) (o : Order) : State :=
  match s.carried c with
  | some m => if m.origin = .held ∧ s.orderDir c o ≠ some m.dir then s.vacate c .idle else s
  | none => s

/-- A held kind is taken in every frame; STOP, an express kind and PRESET when the field is changed (01 R18 step 4). -/
def isTaken (o : Order) (changed : Bool) : Bool := isHeldKind o || (changed && decide (o.kind ≠ .none))

/-- The order closes: CLOSE_HELD, CLOSE_EXPRESS, or a PRESET whose direction is toward closed (01 R20). -/
def State.orderCloses (s : State) (c : Chan) (o : Order) : Bool := decide (s.orderDir c o = some .toClosed)

/-- The refusal checks in the order of 01 R20, each with its reason. -/
def State.refusalChecks (s : State) (c : Chan) (o : Order) : List (Bool × RefusalReason) :=
  let st := (s.chan c).ctl.st
  let unheld := intoMotion o && !isHeldUser o
  let closes := s.orderCloses c o && !isHeldUser o
  [(decide (s.phase = .starting), .notReady),
   (decide (st = .absent), .absent),
   (decide (st = .inhibited), .inhibited),
   (decide (st = .reversing), .reversing),
   (s.stg.configFault && unheld, .fallback),
   (decide (s.phase = .setup) && unheld, .notCommissioned),
   (!(s.chan c).ctl.referenced && unheld, .unreferenced),
   (closes && decide ((s.chan c).rev.level = 3), .escalated),
   (closes && decide (1 ≤ (s.chan c).rev.level), .lockout),
   (s.orderCloses c o && s.degraded c && (decide (o.kind = .closeExpress) || decide (o.source ≠ .user)), .degraded)]

/-- The reason a taken order is refused with, none if it passes (01 R20). -/
def State.refusalOf (s : State) (c : Chan) (o : Order) : Option RefusalReason :=
  ((s.refusalChecks c o).find? fun x => x.1).map fun x => x.2

/-- An order into motion that is taken with no motion: a PRESET equal to the position, or an open order on a
referenced channel at p ≥ L (01 R21). -/
def State.takesNoMotion (s : State) (c : Chan) (o : Order) : Bool :=
  match s.orderDir c o with
  | none => true
  | some .toClosed => false
  | some .toOpen =>
    decide (o.kind ≠ .preset) && (s.chan c).ctl.referenced && decide (((s.cset c).travel : Int) ≤ (s.chan c).ctl.pos)

/-- The items of a new entry of an order with a direction (01 R23). -/
def State.motionOf (s : State) (c : Chan) (o : Order) (d : Dir) : Motion :=
  { dir := d, origin := if isHeldKind o then .held else .latched, cls := o.source,
    target := if o.kind = .preset then some (s.presetTarget c o) else none }

/-- The entry or the motion record of the channel changed in place. -/
def State.modCarried (s : State) (c : Chan) (f : Motion → Motion) : State :=
  if (s.chan c).ctl.st = .waiting then s.modEntry c f else s.modCtl c fun r => { r with motion := r.motion.map f }

/-- A same-direction order (01 R24): a held kind renews a held motion or entry and leaves a latched one; an express
kind or a PRESET makes it LATCHED with the order's class and target and stops the hold timer. -/
def State.sameDirection (s : State) (c : Chan) (o : Order) (m : Motion) : State :=
  if isHeldKind o then (if m.origin = .held then s.restartHold c else s)
  else
    (s.modCarried c fun m =>
      { m with origin := .latched, cls := o.source
               target := if o.kind = .preset then some (s.presetTarget c o) else none }).modCtl c
      fun r => { r with hold := none }

/-- What a channel carries is ended, and it goes to IDLE, as by a STOP (01 R22); an IDLE channel has nothing to end. -/
def State.endCarried (s : State) (c : Chan) : State :=
  if (s.chan c).ctl.st = .idle then s else s.vacate c .idle

/-- An order into motion that has passed the checks acts (01 R21, R23, R24, R25). A channel that waits or moves without an entry or
a motion record, as only a storage fault leaves it, is ended like one of the other direction (log 33). -/
def State.actInMotion (s : State) (c : Chan) (o : Order) : State :=
  if s.takesNoMotion c o then s.endCarried c
  else
    match s.orderDir c o with
    | none => s
    | some d =>
      match s.carried c with
      | none => (s.endCarried c).joinQueue c (s.motionOf c o d)
      | some m => if m.dir = d then s.sameDirection c o m else (s.endCarried c).joinQueue c (s.motionOf c o d)

/-- A taken order: it fails a running teach (03 R84), then passes the checks or is refused, and acts (01 R18 step 5). -/
def State.takeOrder (s : State) (c : Chan) (o : Order) : State :=
  let s1 := s.teachFail c .order
  match s1.refusalOf c o with
  | some why => s1.refuse c why
  | none => if o.kind = .stop then s1.endCarried c else s1.actInMotion c o

/-- The order gate of a channel handles the normalised order of one good CYCLE frame (01 R18). -/
def State.orderGate (s : State) (c : Chan) (o : Order) : State :=
  let changed := decide (o ≠ (s.chan c).ctl.lastOrder)
  let s1 := (s.modCtl c fun r => { r with lastOrder := o }).heldEnd c o
  if isTaken o changed then s1.takeOrder c o else s1

/-- The order fields of a CYCLE frame handed to the gates, channel 0 first (01 R18, 06 R129). -/
def State.orderGates (s : State) (orders : Oct Byte) : State :=
  octIndexes.foldl (fun s c => s.orderGate c (orderOfByte (orders.get c))) s

/-- A held motion or entry of the channel ends (01 R19); the hold timer is stopped. -/
def State.endHeld (s : State) (c : Chan) : State :=
  match s.carried c with
  | some m => if m.origin = .held then s.vacate c .idle else s.modCtl c fun r => { r with hold := none }
  | none => s.modCtl c fun r => { r with hold := none }

/-- The row HOLD_TIMER_EXPIRY: the expiry of the hold timer, where it has been reached (01 R19, log 1). -/
def execHoldTimerExpiry (c : Chan) (s : State) : Host.Outcome State Fault Refusal :=
  whileRunning s fun s => if isDue (s.chan c).ctl.hold s.now then s.endHeld c else s

/-! ### A good sample (01 R9 to R16) -/

/-- The delta of a counter value against the counter base (01 R10). -/
def counterDelta (n o : BitVec 12) : Int := ((n.toNat : Int) - o.toNat + 2048) % 4096 - 2048

/-- A delta is implausible when its magnitude exceeds EDGE_MAX × k (01 R11). -/
def implausible (cs : ChanSettings) (delta : Int) (k : Nat) : Bool := decide (((cs.edgeMax * k : Nat) : Int) < |delta|)

/-- Step 1 of 01 R9: the fault flags and UNDERVOLT change the inhibit causes (01 R5, R6), then HALL_FAULT clears the
reference (01 R7; the inhibit comes first, log 17). The cause takes the monitor's flag at each sample: where a storage fault has
set the two apart, that is the model's choice (log 33). -/
def State.sampleCauses (s : State) (c : Chan) (m : Sample) (mismatch : Bool) : State :=
  let s1 := s.setCauses c
    { (s.chan c).ctl.causes with
      nodeFault := m.hallFault || m.overtemp || mismatch, undervolt := (s.chan c).sup.undervolt }
  if m.hallFault then s1.loseReference c else s1

/-- The counter base becomes the counter value of the sample (01 R10). -/
def State.rebase (s : State) (c : Chan) (m : Sample) : State := s.modCtl c fun r => { r with base := some m.counter }

/-- A channel in motion stops in IDLE by a cause that fails a teach with DRIFT (01 R11, R13, 03 R84). -/
def State.driftStop (s : State) (c : Chan) : State :=
  if inMotion (s.chan c).ctl.st then (s.teachFail c .drift).vacate c .idle else s

/-- A plausible delta brings the position up to date, with saturation and the overtravel test (01 R13). -/
def State.movePosition (s : State) (c : Chan) (delta : Int) : State :=
  let sum := (s.chan c).ctl.pos + delta
  if sum < -255 ∧ (s.chan c).ctl.st = .closing then
    ((s.modCtl c fun r => { r with pos := -255 }).driftStop c).loseReference c
  else s.modCtl c fun r => { r with pos := clamp (-255) 4095 sum }

/-- Steps 2 and 3 of 01 R9: FRESH_START rebases and loses the reference of a channel in motion (R12); a sample without
a counter base sets it (R10); an implausible delta rebases, stops the channel and clears the reference (R11); any other
delta moves the position (R13). -/
def State.sampleCounter (s : State) (c : Chan) (m : Sample) (k : Nat) : State :=
  if m.freshStart then
    let s1 := s.rebase c m
    if inMotion (s.chan c).ctl.st then s1.loseReference c else s1
  else
    match (s.chan c).ctl.base with
    | none => s.rebase c m
    | some o =>
      let delta := counterDelta m.counter o
      if implausible (s.cset c) delta k then ((s.rebase c m).driftStop c).loseReference c
      else (s.rebase c m).movePosition c delta

/-- The closed end of an unreferenced CLOSING channel (01 R16). -/
def State.unreferencedEnd (s : State) (c : Chan) : State :=
  ((s.vacate c .idle).modCtl c fun r => { r with pos := 0, referenced := true }).reversalClosedEnd c

/-- Step 4 of 01 R9: the end tests of an OPENING channel and of preset targets (R14), of an unreferenced CLOSING channel
(R16), and of a reversal (04 R92, R93). `before` is the position before the sample: where it is at or past the target the
sample is the first after the trip, and ends the reversal whatever its delta (04 R90, R92, log 35). -/
def State.endTests (s : State) (c : Chan) (atEnd : Bool) (before : Int) : State :=
  let r := (s.chan c).ctl
  let target := r.motion.bind Motion.target
  match r.st with
  | .opening =>
    match target with
    | none => if atEnd || (r.referenced && decide (((s.cset c).travel : Int) ≤ r.pos)) then s.vacate c .idle else s
    | some t => if atEnd || decide (t ≤ r.pos) then s.vacate c .idle else s
  | .closing =>
    if target.any (fun t => decide (r.pos ≤ t)) then s.vacate c .idle
    else if atEnd && !r.referenced then s.unreferencedEnd c
    else s
  | .reversing =>
    if atEnd || (s.chan c).rev.target.any (fun t => decide (t ≤ r.pos) || decide (t ≤ before)) then s.vacate c .idle else s
  | _ => s

/-- The channel controller applies a good sample (01 R9). -/
def State.channelSample (s : State) (c : Chan) (m : Sample) (k : Nat) (mismatch : Bool) : State :=
  ((s.sampleCauses c m mismatch).sampleCounter c m k).endTests c m.atEnd (s.chan c).ctl.pos

/-- The closed end stop of a referenced channel (01 R15): position 0, DRIFT judged, the stroke ends in IDLE, and the end
is handed to the profile store and the reversal unit. -/
def State.closedEndStop (s : State) (c : Chan) : State :=
  let k := (s.chan c).ctl.pos
  let s1 := (s.vacate c .idle).modCtl c fun r =>
    { r with
      pos := 0
      latched := { r.latched with drift := r.latched.drift || decide (((s.cset c).driftTol : Int) < |k|) } }
  (s1.profileClosedEnd c k).reversalClosedEnd c

/-- A blind stop of a channel in motion (01 R26, 07 R155): a teach fails with BLIND; the reference is kept. -/
def State.blindStop (s : State) (c : Chan) : State :=
  ((s.teachFail c .blind).vacate c .idle).modCtl c fun r => { r with latched := { r.latched with blindStop := true } }

end Sys2Proof.Machine
end

