-- ==== Sys2Proof/Machine/Engine.lean ====
section
/-! DEFINITION. The pinch engine (02): opening a stroke, the handling of a closing sample, margin stack, accumulator, trips and the peak ratio. -/

namespace Sys2Proof.Machine

/-- A grant into CLOSING opens the engine context (02 R31). -/
def openEngine (cs : ChanSettings) (e : EngineContext) : EngineContext :=
  { e with f16 := 0, first := true, acc := 0, blank := cs.blanking }

/-- F16 after a sample current: 16 × I on the first sample of a stroke, else a quarter of the way (02 R36). -/
def filterStep (first : Bool) (f16 current : Nat) : Nat :=
  if first then 16 * current else ((f16 : Int) + (16 * (current : Int) - f16) / 4).toNat

/-- Step 1 of 02 R33: F16 brought up to date, the first-sample mark cleared, the blanking count stepped (R36, R37). -/
def prepare (current : Nat) (e : EngineContext) : EngineContext :=
  { e with f16 := filterStep e.first e.f16 current, first := false, blank := e.blank - 1 }

/-- The effort F, in 10 mA (02 R36). -/
def effort (e : EngineContext) : Nat := e.f16 / 16

/-- The flat limit: HARD_LIMIT, or 800 under CONFIG_FAULT (02 R40, R55). -/
def State.flatLimit (s : State) (c : Chan) : Nat :=
  if s.stg.configFault = true then Config.fallbackLimit else (s.cset c).hardLimit

/-- The channel is under flat protection, by the state that each owner holds at the sample (02 R33, R53). That the sample which
takes the reference of a held USER close (FRESH_START) is itself judged so, though R53 ends with "from its next sample", is the
model's choice (log 34). -/
def State.flatProtection (s : State) (c : Chan) : Bool :=
  decide (s.phase = .setup) || !(s.chan c).ctl.referenced || decide ((s.chan c).rev.level = 3) ||
  decide ((s.chan c).prof.teach = .running) || s.stg.configFault

/-- The load term M_load (02 R46). -/
def State.loadTerm (s : State) : Nat := (s.slotsHeld - 2) * s.glob.loadStep

/-- The escalation term M_escal (02 R47). -/
def State.escalTerm (s : State) (c : Chan) : Nat := (s.chan c).rev.level * (s.cset c).escalStep

/-- The margin stack T, clamped to 8..1023 (02 R44). -/
def State.marginStack (s : State) (c : Chan) : Nat :=
  let cs := s.cset c
  (clamp 8 1023
    ((cs.marginBase : Int) + (s.effectiveZone c (s.chan c).ctl.pos).2 + roadTerm cs s.ctx + coldTerm cs s.glob s.ctx +
      windTerm cs s.glob s.ctx + s.loadTerm + s.escalTerm c)).toNat

/-- The repair of a working bin outside its band: it becomes the baseline bin and PROFILE_REPAIRED is latched (02 R43). -/
def State.repairBin (s : State) (c : Chan) (b : Fin 64) : State :=
  let base := (s.stg.image.baseline.get c).get b
  if inBand (s.cset c) base ((s.chan c).prof.working.get b) then s
  else
    (s.modProf c fun p => { p with working := p.working.set b base }).modCtl c
      fun r => { r with latched := { r.latched with profileRepaired := true } }

/-- The accumulator after a sample with excess E (02 R49). -/
def accStep (cs : ChanSettings) (acc : Nat) (excess : Int) : Nat :=
  if 0 < excess then min 4095 (acc + (excess / 16).toNat) else acc - cs.decay

/-- The excess E of a filtered effort over reference and margin stack (02 R48). -/
def excessOf (f16 r t : Nat) : Int := (f16 : Int) - 16 * ((r : Int) + t)

/-- The peak ratio candidate of an accumulator value (02 R60); with TRIP_LEVEL 0, which only a storage fault leaves, no rule
gives the quotient: a free value (log 20). -/
def peakCandidate (cs : ChanSettings) (acc : Nat) : Nat :=
  if cs.tripLevel = 0 then Config.peakAtLevelZero acc % 256 else min acc cs.tripLevel * 255 / cs.tripLevel

/-- Step 8 of 02 R33: the peak ratio takes a higher candidate (R60). -/
def State.peakStep (s : State) (c : Chan) (acc : Nat) : State :=
  s.modEng c fun e => { e with peak := max e.peak (peakCandidate (s.cset c) acc) }

/-- The engine hands on a trip and writes the trip record and trip flag (02 R57, R58); `r` and `t` are 0 for HARD and
STALL, and `acc` is the accumulator as the trip found it. -/
def State.trip (s : State) (c : Chan) (cause : TripCause) (r t acc : Nat) : State :=
  let u := s.chan c
  let s1 := s.takeTrip c
  s1.modEng c fun e =>
    { e with
      trip := { cause := some cause, pos := u.ctl.pos, bin := (binOfPos u.ctl.pos (s.cset c).travel).val,
                f := effort u.eng, r := r, t := t, a := acc, level := (s1.chan c).rev.level, speed := s.ctx.speed,
                stamp := s.partClock }
      tripFlag := true }

/-- Steps 6 and 7 of 02 R33: reference, margin stack, accumulation and trip test; the answer carries the accumulator
for step 8. -/
def State.accumulate (s : State) (c : Chan) : State × Nat :=
  let b := binOfPos (s.chan c).ctl.pos (s.cset c).travel
  let s1 := s.repairBin c b
  let r := (s1.chan c).prof.working.get b
  let t := s1.marginStack c
  let acc := accStep (s.cset c) (s1.chan c).eng.acc (excessOf (s1.chan c).eng.f16 r t)
  let s2 := s1.modEng c fun e => { e with acc := acc }
  if (s.cset c).tripLevel ≤ acc then (s2.trip c .accum r t acc, acc) else (s2, acc)

/-- The mask-within-budget suspension holds (02 R52). -/
def State.maskHolds (s : State) (c : Chan) : Bool :=
  maskActive (s.chan c).sup && decide ((s.chan c).sup.strokeMask ≤ s.glob.maskBudget)

/-- Steps 1 and 2 of 02 R33: the sample prepared, and its entry handed to the stroke record (R38). -/
def State.enterSample (s : State) (c : Chan) (current : Nat) : State :=
  let blanked := decide (0 < (s.chan c).eng.blank)
  let s1 := s.modEng c (prepare current)
  s1.modProf c fun p =>
    ProfileContext.enter p (binOfPos (s.chan c).ctl.pos (s.cset c).travel) (effort (s1.chan c).eng) blanked (maskActive (s.chan c).sup)

/-- Steps 3 to 7 of 02 R33 on a prepared sample; the answer carries the accumulator for step 8. -/
def State.judgeSample (s : State) (c : Chan) (m : Sample) (blanked : Bool) : State × Nat :=
  let u := s.chan c
  let sealed := decide ((s.effectiveZone c u.ctl.pos).1 = .seal)
  if s.flatLimit c ≤ m.current.toNat ∧ sealed = false then (s.trip c .hard 0 0 u.eng.acc, u.eng.acc)
  else if u.ctl.referenced = true ∧ m.atEnd = true ∧ sealed = false then (s.trip c .stall 0 0 u.eng.acc, u.eng.acc)
  else if u.ctl.referenced = true ∧ m.atEnd = true then (s.closedEndStop c, u.eng.acc)
  else if blanked || sealed || s.maskHolds c || s.flatProtection c then (s, u.eng.acc)
  else s.accumulate c

/-- The engine handles a good sample of a CLOSING channel (02 R33). -/
def State.closingSample (s : State) (c : Chan) (m : Sample) : State :=
  let blanked := decide (0 < (s.chan c).eng.blank)
  let j := (s.enterSample c m.current.toNat).judgeSample c m blanked
  j.1.peakStep c j.2

end Sys2Proof.Machine
end

