-- ==== Sys2Proof/Machine/Arbiter.lean ====
section
/-! DEFINITION. The slot arbiter (06.2 to 06.6): the grant decision, the grant, the trunk loss flush, and QUEUE_TIMEOUT. -/

namespace Sys2Proof.Machine

/-- An entry is eligible unless its SLIDER's side is moving (06 R134). -/
def State.eligible (s : State) (e : Entry) : Bool := !panelMoving (s.cset e.channel) s.ctx

/-- The eligible entry earliest in join order of the best class present: USER, RAIN, GLOBAL (06 R134). -/
def State.winner (s : State) : Option Entry :=
  let of (cls : Source) := s.arb.queue.find? fun e => s.eligible e && decide (e.motion.cls = cls)
  (of .user).or ((of .rain).or (of .global))

/-- The conditions 2 to 4 of a grant: a free slot, CRANK clear, stagger count reached (06 R133). -/
def State.grantsNow (s : State) : Bool :=
  decide (s.slotsHeld < s.glob.slots) && !s.ctx.crank && decide (s.glob.stagger ≤ s.arb.stagger)

/-- A grant into CLOSING opens a stroke: engine, stroke mask count, stroke record and marks (02 R31, 03 R73, 06 R126). -/
def State.openStroke (s : State) (c : Chan) : State :=
  s.modChan c fun u =>
    { u with
      eng := openEngine (s.cset c) u.eng
      sup := { u.sup with strokeMask := 0 }
      prof := ProfileContext.openStroke u.prof s.phase u.rev.level }

/-- The winner is granted (06 R135, 01 R26): its entry leaves the queue (log 33 where a storage fault has left several of one
channel, or one of a channel that is not WAITING), its channel takes a slot, the stagger count
becomes 0, the items become the motion record, and a held motion keeps its hold timer. The stroke of a channel that was CLOSING,
as only a storage fault leaves one with an entry, closes (02 R32). -/
def State.grant (s : State) (e : Entry) : State :=
  let c := e.channel
  let s1 : State :=
    { s with
      arb := { slots := s.arb.slots.set c true, queue := s.arb.queue.filter (fun x => decide (x.channel ≠ c)),
               stagger := 0 }
      chans := s.chans.set c
        { s.chans.get c with
          ctl := { (s.chans.get c).ctl with
            st := match e.motion.dir with
              | .toOpen => .opening
              | .toClosed => .closing
            motion := some e.motion }
          eng := ChannelUnit.engLeaving (s.chans.get c) } }
  match e.motion.dir with
  | .toOpen => s1
  | .toClosed => s1.openStroke c

/-- The arbiter's part of a cycle start: the stagger count rises, held at 16, and one grant decision is made
(06 R132, R133). -/
def State.arbitrate (s : State) : State :=
  let s1 := { s with arb := { s.arb with stagger := min 16 (s.arb.stagger + 1) } }
  if s1.grantsNow then
    match s1.winner with
    | some e => s1.grant e
    | none => s1
  else s1

/-- The trunk loss flush at a WAITING channel: it goes to IDLE, a teach entry fails with ORDER, and START_TIMEOUT is not latched
(06 R139). That one which a storage fault has left without an entry goes to IDLE as well is the model's choice (log 33). -/
def State.flushEntry (s : State) (c : Chan) : State :=
  if (s.chan c).ctl.st = .waiting then (s.teachFail c .order).vacate c .idle else s

/-- An entry of the channel has reached its timeout expiry (06 R137). -/
def State.expired (s : State) (c : Chan) (e : Entry) : Bool := decide (e.channel = c) && decide (e.expiry ≤ s.now)

/-- A queue timeout (06 R137): the entry is removed, and a WAITING channel goes to IDLE with START_TIMEOUT latched, a teach entry
failing with ORDER. An entry that a storage fault has left to a channel in another state is removed alone (log 33). -/
def State.queueExpires (s : State) (c : Chan) : State :=
  if (s.chan c).ctl.st = .waiting then
    ((s.teachFail c .order).vacate c .idle).modCtl c
      fun r => { r with latched := { r.latched with startTimeout := true } }
  else { s with arb := { s.arb with queue := s.arb.queue.filter fun e => !s.expired c e } }

/-- An entry of the channel has timed out and is still in the queue. -/
def State.queueDue (s : State) (c : Chan) : Bool := s.arb.queue.any (s.expired c)

/-- The row QUEUE_TIMEOUT: the timeout expiry of a channel's entry, where it has been reached; without an entry it does
nothing (06 R137, R138, log 1). -/
def execQueueTimeout (c : Chan) (s : State) : Host.Outcome State Fault Refusal :=
  whileRunning s fun s => if s.queueDue c then s.queueExpires c else s

end Sys2Proof.Machine
end

