-- ==== Sys2Proof/Machine/Settings.lean ====
section
/-! DEFINITION. The settings unit (10): the store read, the phase, the LOCK-IN checks, store writes and their completion, and CHECK_STEP. -/

namespace Sys2Proof.Machine

/-! ### The store and the phase (10 R186) -/

/-- The store verifies: it was written, its last write completed and verified, and the recomputed check value equals
the stored one. -/
def storeVerifies (t : Store) : Bool := t.written && !t.torn && decide (checkValue t.image = t.check)

/-- The store read of a reset (10 R186): the working settings, the locked check value, the chosen phase and
STORE_INVALID, with STORE_FAIL, CONFIG_FAULT and STORE_BUSY clear and no check running. -/
def readStore (u : SettingsUnit) : SettingsUnit :=
  let good := storeVerifies u.store
  let commissioned := good && u.store.mark
  { u with
    image := if good then u.store.image else Image.factory
    locked := if commissioned then some u.store.check else none
    chosen := if commissioned then .run else .setup
    storeInvalid := u.store.written && !good
    storeFail := false, configFault := false, write := none
    scanPos := 0, scanCrc := 0xFFFF, lastPass := none, checkTimer := none }

/-- A phase is entered (10 R189): in RUN the configuration check starts at segment 0 with its timer, otherwise it stops
where it stands; the value of the last pass is none. -/
def State.enterPhase (s : State) (p : Phase) : State :=
  if p = .run then
    { s with stg := { s.stg with
        phase := .run, scanPos := 0, scanCrc := 0xFFFF, lastPass := none, checkTimer := some (s.now + Config.checkTicks) } }
  else { s with stg := { s.stg with phase := p, lastPass := none, checkTimer := none } }

/-! ### LOCK-IN (10 R187) -/

/-- A used channel has a NODE_ADDR other than 0 (01 R1). -/
def usedChannel (i : Image) (c : Chan) : Bool := decide ((i.chan.get c).nodeAddr ≠ 0)

/-- The used channels that carry the NODE_ADDR of a lower channel. -/
def clashingChannels (i : Image) : List Chan :=
  octIndexes.filter fun c => usedChannel i c &&
    octIndexes.any fun d => decide (d < c) && decide ((i.chan.get d).nodeAddr = (i.chan.get c).nodeAddr)

/-- The channel LOCK-IN check 4 reports: the higher of a clashing pair; where there are several, a free choice (log 5). -/
def clashChannel (i : Image) : Option Chan :=
  match clashingChannels i with
  | [] => none
  | [c] => some c
  | c :: d :: rest => some ((c :: d :: rest).getD (Config.clashReported (c :: d :: rest) % (rest.length + 2)) c)

/-- The first used channel for which a check fails. -/
def firstFailing (i : Image) (ok : Chan → Bool) : Option Chan :=
  octIndexes.find? fun c => usedChannel i c && !ok c

/-- Q7 ≤ Q6 ≤ … ≤ Q1 (10 R187 check 3). -/
def thresholdsOrdered (g : GlobSettings) : Bool :=
  decide (g.q7 ≤ g.q6) && decide (g.q6 ≤ g.q5) && decide (g.q5 ≤ g.q4) && decide (g.q4 ≤ g.q3) &&
  decide (g.q3 ≤ g.q2) && decide (g.q2 ≤ g.q1)

/-- PRESET_0..3 and REVERSE_DIST are at most TRAVEL (10 R187 check 7). -/
def withinTravel (cs : ChanSettings) : Bool :=
  decide (cs.preset0 ≤ cs.travel) && decide (cs.preset1 ≤ cs.travel) && decide (cs.preset2 ≤ cs.travel) &&
  decide (cs.preset3 ≤ cs.travel) && decide (cs.reverseDist ≤ cs.travel)

/-- The LOCK-IN checks in order: number, and the channel to report if the check fails (10 R187). -/
def lockInChecks (i : Image) : List (Nat × Option Nat) :=
  [(1, if i.glob.uvLevel0 < i.glob.uvLevel2 then none else some 0),
   (2, if i.glob.cold2Temp < i.glob.cold1Temp then none else some 0),
   (3, if thresholdsOrdered i.glob then none else some 0),
   (4, (clashChannel i).map fun c => c.val),
   (5, (firstFailing i fun c => zonesValid (i.zones.get c)).map fun c => c.val),
   (6, (firstFailing i fun c => (i.baseline.get c).allGood fun b => decide (1 ≤ b)).map fun c => c.val),
   (7, (firstFailing i fun c => withinTravel (i.chan.get c)).map fun c => c.val)]

/-- The first LOCK-IN check that fails, with the channel it reports. -/
def lockInFailure (i : Image) : Option (Nat × Nat) :=
  (lockInChecks i).findSome? fun x => x.2.map fun c => (x.1, c)

/-- The LOCK-IN store write begins (10 R187): STORE_BUSY set, STORE_FAIL clear; until it completes and verifies the
store does not verify (log 19). What is written is the working image as it stands here (log 38). -/
def SettingsUnit.beginLockIn (u : SettingsUnit) : SettingsUnit :=
  { u with
    write := some (.lockIn u.image (checkValue u.image))
    storeFail := false
    store := { u.store with written := true, torn := true } }

/-- The REOPEN store write begins (10 R188). -/
def SettingsUnit.beginReopen (u : SettingsUnit) : SettingsUnit :=
  { u with write := some .reopen, storeFail := false, store := { u.store with written := true, torn := true } }

/-- A store write fails to verify: STORE_BUSY clears, STORE_FAIL is set, the phase stays, and the store is left not
verifying (10 R187, R188, log 19). -/
def State.storeWriteFails (s : State) : State :=
  { s with stg := { s.stg with write := none, storeFail := true } }

/-- The LOCK-IN store write of an image completes and verifies (10 R187): the store holds image, check value and mark,
the value is locked, RUN is entered, and every working profile copies its baseline (03 R65). -/
def State.lockInCompletes (s : State) (i : Image) (check : BitVec 16) : State :=
  let s1 := { s with stg := { s.stg with
    write := none, storeInvalid := false, locked := some check
    store := { written := true, torn := false, image := i, check := check, mark := true } } }
  octIndexes.foldl State.copyBaseline (s1.enterPhase .run)

/-- The REOPEN store write completes and verifies (10 R188): the mark is cleared, SETUP is entered, the check stops and
the locked check value becomes none. -/
def State.reopenCompletes (s : State) : State :=
  let s1 := { s with stg := { s.stg with
    write := none, storeInvalid := false, locked := none
    store := { s.stg.store with torn := false, mark := false } } }
  s1.enterPhase .setup

/-- The row LOCK_IN_STORE_WRITE_COMPLETE: the completion of a LOCK-IN store write in flight (10 R187). -/
def execLockInStoreWriteComplete (verified : Bool) (s : State) : Host.Outcome State Fault Refusal :=
  whileRunning s fun s =>
    match s.stg.write with
    | some (.lockIn i check) => if verified then s.lockInCompletes i check else s.storeWriteFails
    | _ => s

/-- The row REOPEN_STORE_WRITE_COMPLETE: the completion of a REOPEN store write in flight (10 R188). -/
def execReopenStoreWriteComplete (verified : Bool) (s : State) : Host.Outcome State Fault Refusal :=
  whileRunning s fun s =>
    match s.stg.write with
    | some .reopen => if verified then s.reopenCompletes else s.storeWriteFails
    | _ => s

/-! ### The configuration check (10 R189) -/

/-- One check step: a segment of the working image taken into the running value; the last segment compares the pass
with the locked value and starts a new pass (10 R189). That a scan position above 63 ends its pass, and that a pass finds a
missing locked value a mismatch, both left by a storage fault alone, is the model's choice (log 33). -/
def checkStepOf (u : SettingsUnit) (now : Nat) : SettingsUnit :=
  let crc := crc16From u.scanCrc (segmentBytes u.image u.scanPos)
  if u.scanPos < 63 then
    { u with scanPos := u.scanPos + 1, scanCrc := crc, checkTimer := some (now + Config.checkTicks) }
  else
    { u with scanPos := 0, scanCrc := 0xFFFF, lastPass := some crc
             configFault := u.configFault || decide (u.locked ≠ some crc)
             checkTimer := some (now + Config.checkTicks) }

/-- The row CHECK_STEP: the expiry of the check-step timer, which runs in RUN alone, where it has been reached (10 R189,
log 1). -/
def execCheckStep (s : State) : Host.Outcome State Fault Refusal :=
  whileRunning s fun s => if s.phase = .run ∧ isDue s.stg.checkTimer s.now = true then { s with stg := checkStepOf s.stg s.now } else s

end Sys2Proof.Machine
end

