-- ==== Sys2Proof/Machine/Enrollment.lean ====
section
/-! DEFINITION. The enrollment unit (08.3 to 08.5): runs, records, ENROLL, node loss and rejoin, the end of slot 0, NODE_SETTLE_EXPIRY, BUS_OFF_EXPIRY. -/

namespace Sys2Proof.Machine

/-- A node context changed. -/
def State.modNode (s : State) (a : Node) (f : NodeContext → NodeContext) : State :=
  { s with br := { s.br with nodes := s.br.nodes.set a (f (s.br.nodes.get a)) } }

/-- The node context of a record made at enrollment; cycles since last good counts on (07 R162). -/
def NodeContext.enrolled (n : NodeContext) : NodeContext :=
  { n with grade := 7, worst := 7, badRun := 0, winPos := 0, winBad := 0, keep := none }

/-- The node context at rejoin: grade 4, the worst grade stays (07 R162). -/
def NodeContext.rejoined (n : NodeContext) : NodeContext :=
  { n with grade := 4, badRun := 0, winPos := 0, winBad := 0, keep := none }

/-- The schedule holds no address. -/
def scheduleEmpty (sch : Oct Bool) : Bool := sch.toList.all fun b => !b

/-! ### Enrollment runs (08 R169, R170) -/

/-- The end of a run (08 R170): IDLE, binding judged, ENROLL_MISMATCH formed, and after a cold start the chosen phase
is entered. -/
def State.endRun (s : State) : State :=
  let s1 := { s with enr := { s.enr with st := .idle, settle := none } }
  let s2 := s1.rebind s1.nodeAddrs
  let s3 := { s2 with enr := { s2.enr with mismatch := decide (s2.nodeCount ≠ s2.glob.expectedNodes) } }
  if s.enr.fromCold then s3.enterPhase s.stg.chosen else s3

/-- A record is made at the offer address and the run goes on (08 R169): the next address after a switch settle of
20 ms, or the end of the run after address 8. That the 20 ms run from the end of the slot is the model's choice (log 30). -/
def State.makeRecord (s : State) (r : NodeRecord) : State :=
  let a := s.enr.offer
  let s1 := { s.modNode a NodeContext.enrolled with enr := { s.enr with table := s.enr.table.set a (some r), miss := 0 } }
  if a = 7 then s1.endRun
  else { s1 with enr := { s1.enr with offer := a + 1, st := .settle, settle := some (s.now + Config.settleTicks) } }

/-- An offer that no node answered well: the miss count rises, held at 3, the end of its range (log 33), and at 3 the run
ends (08 R169). -/
def State.missOffer (s : State) : State :=
  let s1 := { s with enr := { s.enr with miss := min 3 (s.enr.miss + 1) } }
  if 3 ≤ s1.enr.miss then s1.endRun else s1

/-! ### Loss and rejoin (08 R172) -/

/-- A record becomes LOST and its address joins the rejoin schedule (08 R172). -/
def EnrollmentUnit.lose (e : EnrollmentUnit) (a : Node) : EnrollmentUnit :=
  { e with
    table := e.table.set a
      ((e.table.get a).map fun r => { r with st := .lost, mark := r.mark || decide (r.st = .mismatch) })
    schedule := e.schedule.set a true
    rejoinCount := if scheduleEmpty e.schedule then 0 else e.rejoinCount }

/-- NODE_LOST raised on a channel; one that holds a slot loses its reference (01 R5; the inhibit first, log 17). -/
def State.channelLosesNode (s : State) (c : Chan) : State :=
  let held := inMotion (s.chan c).ctl.st
  let s1 := s.setCauses c { (s.chan c).ctl.causes with nodeLost := true }
  if held then s1.modCtl c fun r => { r with referenced := false } else s1

/-- The branch port declares a node lost (07 R156, R161). -/
def State.declareLost (s : State) (a : Node) : State :=
  let s1 := s.modNode a fun n => { n with grade := 0, worst := 0, winPos := 0, winBad := 0 }
  let s2 := { s1 with enr := EnrollmentUnit.lose s1.enr a }
  match s.channelOf a with
  | some c => s2.channelLosesNode c
  | none => s2

/-- The record of a rejoined address: MISMATCH by this reply or by its mark, else ENROLLED; identity fields kept. -/
def rejoinedRecord (r : NodeRecord) (mismatch : Bool) : NodeRecord :=
  { r with st := if mismatch || r.mark then .mismatch else .enrolled, mark := false }

/-- The bound channel when its node rejoins: NODE_LOST clears, with NODE_FAULT in its place for a MISMATCH record (01 R5,
08 R172). -/
def State.channelRegainsNode (s : State) (c : Chan) (mismatch : Bool) : State :=
  let k := (s.chan c).ctl.causes
  s.setCauses c { k with nodeLost := false, nodeFault := k.nodeFault || mismatch }

/-- The record and the node context of a rejoined address: its record whole again, the address out of the schedule (08 R172,
07 R162). -/
def State.regainRecord (s : State) (a : Node) (r : NodeRecord) : State :=
  let sch := s.enr.schedule.set a false
  { s.modNode a NodeContext.rejoined with
    enr := { s.enr with table := s.enr.table.set a (some r), schedule := sch
                        rejoinCount := if scheduleEmpty sch then 0 else s.enr.rejoinCount } }

/-- A lost node is brought back; a record that is not LOST, as a storage fault (log 33) or a REJOIN_ATTEMPT row taken alone (log
39) can leave it, is left alone (08 R172, 07 R162, 01 R5). Binding is then judged again (01 R4): a LOST record binds too, so
this changes a channel only where a storage fault has disturbed an address or a record. -/
def State.rejoinNode (s : State) (a : Node) (mismatch : Bool) : State :=
  match s.enr.table.get a with
  | none => s
  | some r =>
    if r.st ≠ .lost then s
    else
      let r' := rejoinedRecord r mismatch
      let s1 := s.regainRecord a r'
      let s2 :=
        match s.channelOf a with
        | none => s1
        | some c => s1.channelRegainsNode c (decide (r'.st = RecordState.mismatch))
      s2.rebind s2.nodeAddrs

/-! ### Cycle start, slot 0 and the slot the unit reads -/

/-- The settle time has run out at this instant (08 R169, log 14). -/
def settled (e : EnrollmentUnit) (now : Nat) : Bool := (e.settle.map fun t => decide (t ≤ now)).getD true

/-- The lowest address of the rejoin schedule (08 R172). -/
def lowestScheduled (sch : Oct Bool) : Option Node := octIndexes.find? fun a => sch.get a

/-- A rejoin attempt: the count returns to 0 and slot 0 of this cycle is for the lowest address of the schedule. -/
def EnrollmentUnit.attemptRejoin (e : EnrollmentUnit) : EnrollmentUnit :=
  match lowestScheduled e.schedule with
  | some a => { e with rejoinCount := 0, slot0 := .rejoin a }
  | none => e

/-- The enrollment unit's part of a cycle start (08 R169, R172): what slot 0 is for, and which reply slot it reads. A rejoin count
that a storage fault has left at 64 or above makes the attempt as the 64th does: the model's choice (log 33). -/
def EnrollmentUnit.cycle (e : EnrollmentUnit) (now : Nat) : EnrollmentUnit :=
  let e1 := { e with slot0 := .unused, reading := e.followUp, followUp := none }
  match e.st with
  | .busOff => e1
  | .settle =>
    if settled e now then { e1 with st := .offering, settle := none, slot0 := .offer } else e1
  | .offering => { e1 with slot0 := .offer, reading := if 0 < e.miss then some e.offer else e1.reading }
  | .idle =>
    if scheduleEmpty e.schedule then e1
    else if 64 ≤ e.rejoinCount + 1 then EnrollmentUnit.attemptRejoin e1
    else { e1 with rejoinCount := e.rejoinCount + 1 }

/-- The assign value of the cycle: 0, or the address offered (08 R169, R172). -/
def EnrollmentUnit.assign (e : EnrollmentUnit) : Nat :=
  match e.slot0 with
  | .unused => 0
  | .offer => e.offer.val + 1
  | .rejoin a => a.val + 1

/-- The record of an identity reply (08 R169). -/
def recordOf (i : Identity) : NodeRecord :=
  { cls := i.cls, tag := i.tag, rated := i.rated, st := .enrolled, mark := false }

/-- The record of an address taken without an identity (08 R169). -/
def namelessRecord : NodeRecord := { cls := 0, tag := 0, rated := 0, st := .mismatch, mark := false }

/-- The end of a judged slot 0 (07 R154, 08 R169, R172): GOOD makes a record or brings a node back; otherwise the offer
is missed, or the rejoined address's slot is read in the next cycle. The reply slots of the cycle are over by then. -/
def State.slot0Ends (s : State) (content : SlotContent) : State :=
  let s1 := { s with enr := { s.enr with slot0 := .unused, reading := none } }
  match s.enr.slot0, slotIdentity content with
  | .unused, _ => s
  | .offer, some i => if s.enr.st = .offering then s1.makeRecord (recordOf i) else s1
  | .offer, none => if s.enr.st = .offering then s1.missOffer else s1
  | .rejoin a, some i =>
    match s.enr.table.get a with
    | some r => s1.rejoinNode a (decide (r.tag ≠ i.tag))
    | none => s1
  | .rejoin a, none => { s1 with enr := { s1.enr with followUp := some a } }

/-- The end of the reply slot the unit reads (08 R169, R172): a frame that checks means the address was taken; in a run
slot 0 of this cycle is then set aside. A record that the slot's address already holds: outside a run one that is not LOST stays
as it is, in a run the new record is made at the offer address whatever stands there (DESIGN CHOICE, logs 33, 39). -/
def State.readSlotEnds (s : State) (a : Node) (content : SlotContent) : State :=
  let s1 := { s with enr := { s.enr with reading := none } }
  match slotSample content with
  | none => s1
  | some m =>
    if s.runInProgress then { s1 with enr := { s1.enr with slot0 := .unused } }.makeRecord namelessRecord
    else s1.rejoinNode a m.freshStart

/-- The row NODE_SETTLE_EXPIRY: the settle time has run out, where it has; the next cycle start offers (08 R169, log 1,
log 14). -/
def execNodeSettleExpiry (s : State) : Host.Outcome State Fault Refusal :=
  whileRunning s fun s =>
    if s.enr.st = .settle ∧ isDue s.enr.settle s.now = true then { s with enr := { s.enr with settle := none } } else s

/-- The row BUS_OFF_EXPIRY: where the 20 ms have run out, the branch bus power is switched on and SETTLE is entered (08 R171,
log 1). -/
def execBusOffExpiry (s : State) : Host.Outcome State Fault Refusal :=
  whileRunning s fun s =>
    if s.enr.st = .busOff ∧ isDue s.enr.settle s.now = true then
      { s with enr := { s.enr with st := .settle, settle := some (s.now + Config.settleTicks) }
               br := { s.br with busPower := true } }
    else s

/-- ENROLL starts a run (08 R171): table and schedule emptied, every channel made ABSENT as one that becomes unbound, one that is
ABSENT already too, every entry removed and every slot released (06 R140), bus power off for 20 ms, and the offers start at
address 1 again (log 21). -/
def State.startEnroll (s : State) : State :=
  let s1 := { s with
    enr := { s.enr with table := Oct.const none, schedule := Oct.const false, rejoinCount := 0, st := .busOff, offer := 0
                        miss := 0, settle := some (s.now + Config.settleTicks), slot0 := .unused, reading := none
                        followUp := none, fromCold := false }
    br := { s.br with busPower := false } }
  let s2 := octIndexes.foldl State.becomeUnbound s1
  { s2 with arb := { SlotArbiter.flushed s2.arb with slots := Oct.const false } }

end Sys2Proof.Machine
end

