-- ==== Sys2Proof/Machine/Branch.lean ====
section
/-! DEFINITION. The branch port (07): BRANCH_CYCLE_START, REJOIN_ATTEMPT, and the slots of a cycle: REPLY_SLOT_END, SLOT_0_END. -/

namespace Sys2Proof.Machine

/-! ### The cycle start (07 R142 to R145) -/

/-- The drive command of an address, from the state of the channel bound to it (01 R17). -/
def State.driveCommand (s : State) (a : Node) : DriveCommand :=
  match s.channelOf a with
  | none => .hold
  | some c =>
    match (s.chan c).ctl.st with
    | .closing => .closes
    | .opening => .opens
    | .reversing => .opens
    | _ => .hold

/-- The drive word of the states as they stand, with the enrollment unit's assign value (07 R145). -/
def State.driveWordNow (s : State) : BitVec 32 :=
  driveWordOf (Oct.ofFn s.driveCommand) (EnrollmentUnit.assign s.enr)

/-- The drive commands of a drive word with another assign field. -/
def reassigned (w : BitVec 32) (assign : Nat) : BitVec 32 :=
  let body := (w.extractLsb' 16 16).toNat * 256 + assign
  BitVec.ofNat 32 (body * 256 + (crc8 (bitsOfNat 24 body)).toNat)

/-- The bits that the part puts on the branch bus in the running cycle, in the order sent: its drive word; none before the
first cycle start (07 R145, 11 R192). -/
def State.branchLineBits (s : State) : List Bool := (s.br.driveWord.map driveLineBits).getD []

/-- Every node's cycles since last good rise by 1, held at 255 (07 R151). -/
def countCycles (nodes : Oct NodeContext) : Oct NodeContext :=
  nodes.map fun n => { n with since := min 255 (n.since + 1) }

/-- A branch cycle starts (07 R142 to R144): the timer restarts (with a BRANCH_PERIOD below 3, which only a storage fault
leaves, as log 33 says), the place in the cycle returns to slot 1, the arbiter decides, the enrollment unit names the assign
value, the cycles since last good rise, and the drive word is built. -/
def State.cycleStart (s : State) : State :=
  let s1 := s.arbitrate
  let s2 := { s1 with
    enr := EnrollmentUnit.cycle s1.enr s1.now
    br := { s1.br with timer := some (s1.now + s1.glob.branchPeriod), place := 0, nodes := countCycles s1.br.nodes } }
  { s2 with br := { s2.br with driveWord := some s2.driveWordNow } }

/-- The row REJOIN_ATTEMPT: the rejoin count has reached 64 in this cycle, so the lowest address of the schedule stands
in its assign field (08 R172, log 15); without a schedule or during a run there is no attempt. -/
def State.rejoinAttempted (s : State) : State :=
  if s.runInProgress || scheduleEmpty s.enr.schedule then s
  else
    let e := EnrollmentUnit.attemptRejoin s.enr
    { s with
      enr := e
      br := { s.br with driveWord := s.br.driveWord.map fun w => reassigned w (EnrollmentUnit.assign e) } }

/-- The row REJOIN_ATTEMPT (08 R172). -/
def execRejoinAttempt (s : State) : Host.Outcome State Fault Refusal :=
  whileRunning s fun s => s.rejoinAttempted

/-! ### Grades (07 R158 to R161) -/

/-- The length of a grade window in judged slots (07 R158), by the same formula for a GRADE_WINDOW above 3, which only a storage
fault leaves (log 33). -/
def windowLength (g : GlobSettings) : Nat := 64 * 2 ^ g.gradeWindow

/-- The candidate grade of a window bad count: the highest g in 1..7 with c ≤ Qg, else 0 (07 R159). -/
def candidateGrade (g : GlobSettings) (bad : Nat) : Nat :=
  (([7, 6, 5, 4, 3, 2, 1].find? fun k => decide (bad ≤ g.q k))).getD 0

/-- The grade after a window (07 R159): it falls to the candidate, or rises by one with GRADE_HYST to spare. -/
def nextGrade (g : GlobSettings) (grade bad : Nat) : Nat :=
  let cand := candidateGrade g bad
  if cand < grade then cand
  else if grade < cand ∧ bad + g.gradeHyst ≤ g.q (grade + 1) then grade + 1
  else grade

/-- A judged slot counted in the window (07 R158); the bad count is held at 512, the end of its range (log 33). -/
def NodeContext.count (n : NodeContext) (bad : Bool) : NodeContext :=
  { n with winPos := n.winPos + 1, winBad := if bad then min 512 (n.winBad + 1) else n.winBad }

/-- The window end, if this slot completes the window (07 R158, R159); a grade of 0 declares the node lost (R161). R159 and R161
speak of a grade of 0 reached or set: that a judged node whose grade a storage fault has left at 0 is lost too, at a window end
at which the grade stays at 0, is the model's choice (DESIGN CHOICE, log 33). -/
def State.windowEnd (s : State) (a : Node) : State :=
  let n := s.br.nodes.get a
  if n.winPos < windowLength s.glob then s
  else
    let grade := nextGrade s.glob n.grade n.winBad
    let s1 := s.modNode a fun n =>
      { n with winPos := 0, winBad := 0, grade := grade, worst := if grade = n.grade then n.worst else min n.worst grade }
    if grade = 0 then s1.declareLost a else s1

/-! ### Slot outcomes (07 R149 to R156) -/

/-- The record of an address is in state MISMATCH. -/
def State.isMismatch (s : State) (a : Node) : Bool :=
  (s.enr.table.get a).any fun r => decide (r.st = .mismatch)

/-- A reply slot is judged when its address has an ENROLLED or MISMATCH record (07 R147). -/
def State.isJudged (s : State) (a : Node) : Bool :=
  (s.enr.table.get a).any fun r => decide (r.st ≠ .lost)

/-- The bound channel's blocks apply a good sample (01 R9, 06 R122): the voltage stage, the channel controller, the count
stage, and for a channel that is then CLOSING the pinch engine. -/
def State.applySample (s : State) (c : Chan) (m : Sample) (k : Nat) (mismatch : Bool) : State :=
  let s1 := s.modSup c (voltageStage s.glob m.volt.toNat)
  let s2 := (s1.channelSample c m k mismatch).countStage c
  if (s2.chan c).ctl.st = .closing then s2.closingSample c m else s2

/-- A GOOD slot (07 R150, R151, R152): bad run 0, keep-alive taken, k read and set to 0, the sample handed on, and the
slot counted in the window (the sample first, log 18). -/
def State.goodSlot (s : State) (a : Node) (m : Sample) : State :=
  let k := (s.br.nodes.get a).since
  let s1 := s.modNode a fun n => { n with badRun := 0, keep := some m.keep, since := 0 }
  let s2 :=
    match s1.channelOf a with
    | some c => s1.applySample c m k (s1.isMismatch a)
    | none => s1
  (s2.modNode a fun n => NodeContext.count n false).windowEnd a

/-- The blind stop test on the present run (07 R155). -/
def State.blindTest (s : State) (a : Node) : State :=
  match s.channelOf a with
  | some c =>
    if s.glob.blindCount ≤ (s.br.nodes.get a).badRun ∧ inMotion (s.chan c).ctl.st = true then s.blindStop c else s
  | none => s

/-- A bad slot (07 R153): the run rises, held at 63, the end of its range (log 33), the slot counts as bad, then the blind stop
test, the loss test (R156), and, unless the node is lost by it, the window end (R158). -/
def State.badSlot (s : State) (a : Node) : State :=
  let s1 := s.modNode a fun n => NodeContext.count { n with badRun := min 63 (n.badRun + 1) } true
  let s2 := s1.blindTest a
  if s2.glob.lostCount ≤ (s2.br.nodes.get a).badRun then s2.declareLost a else s2.windowEnd a

/-- The end of reply slot `a + 1`: the enrollment unit's reading (08 R169, R172), a judged slot (07 R149), or a slot that is
not judged (07 R147). That a slot the unit is marked to read is read and not judged also where its record stands ENROLLED or
MISMATCH, after a storage fault or a REJOIN_ATTEMPT row taken alone, is the model's choice (DESIGN CHOICE, log 39). -/
def State.replySlotEnds (s : State) (a : Node) (content : SlotContent) : State :=
  if s.enr.reading = some a then s.readSlotEnds a content
  else if s.isJudged a then
    match slotOutcome (s.br.nodes.get a).keep content with
    | .good m => s.goodSlot a m
    | .silent => s.badSlot a
    | .crcBad => s.badSlot a
    | .stale => s.badSlot a
  else s

/-! ### The slots of a cycle in their order (07 R143) -/

/-- The place in the cycle moves on. -/
def State.toPlace (s : State) (n : Nat) : State := { s with br := { s.br with place := n } }

/-- Reply slot `a + 1` ends with a content, and its place in the cycle is past. -/
def State.endReplySlot (s : State) (a : Node) (content : SlotContent) : State := (s.replySlotEnds a content).toPlace (a.val + 1)

/-- The reply slots still to end before place `n` end with nothing received, in slot order: no row has brought them a
content (07 R143, log 32). -/
def State.silentUpTo (s : State) (n : Nat) : State :=
  octIndexes.foldl (fun s a => if s.br.place ≤ a.val ∧ a.val < n then s.endReplySlot a .silent else s) s

/-- The end of reply slot `a + 1` in its cycle: the slots before it are over first; a slot that has ended in this cycle does
not end again (07 R143, log 32). -/
def State.replySlotRow (s : State) (a : Node) (content : SlotContent) : State :=
  if s.br.place ≤ a.val then (s.silentUpTo a.val).endReplySlot a content else s

/-- The end of slot 0, the last of the cycle, after the reply slots; it ends once (07 R143, log 32). -/
def State.slot0Row (s : State) (content : SlotContent) : State :=
  if s.br.place ≤ 8 then ((s.silentUpTo 8).slot0Ends content).toPlace 9 else s

/-- The row REPLY_SLOT_END (07 R143, R149). -/
def execReplySlotEnd (a : Node) (content : SlotContent) (s : State) : Host.Outcome State Fault Refusal :=
  whileRunning s fun s => s.replySlotRow a content

/-- The row SLOT_0_END (07 R143, R154). -/
def execSlot0End (content : SlotContent) (s : State) : Host.Outcome State Fault Refusal :=
  whileRunning s fun s => s.slot0Row content

/-- The row BRANCH_CYCLE_START: the expiry of the branch cycle timer, where it has been reached; "every cycle ends before the
next one starts", so the slots still to end come first (07 R142 to R144, log 1, log 32). -/
def execBranchCycleStart (s : State) : Host.Outcome State Fault Refusal :=
  whileRunning s fun s => if isDue s.br.timer s.now then (s.slot0Row .silent).cycleStart else s

end Sys2Proof.Machine
end

