-- ==== Sys2Proof/Machine/Resets.lean ====
section
/-! DEFINITION. Resets (08.1, 08.2): cold resets and their sources, POWER_ON, RESET_LINE, SUPPLY_SAMPLE, COLD_START, and the warm reset. -/

namespace Sys2Proof.Machine

/-! ### Cold resets (08 R164, R165) -/

/-- The store after a reset: a write in flight leaves it written and not verifying (10 R187, R188). -/
def Store.interrupted (t : Store) (busy : Bool) : Store :=
  { t with written := t.written || busy, torn := t.torn || busy }

/-- The settings unit while a cold reset is held: no store write (a cold reset clears STORE_BUSY), no check and no last pass, the
scan position 0 (10 R186, R189). What the read at the release gives or clears stands until that read: the working settings, which
are "replaced by the read", STORE_INVALID, STORE_FAIL, CONFIG_FAULT and the locked check value; that the phase reads STARTING and
the chosen phase SETUP is the model's (log 26). -/
def SettingsUnit.underReset (u : SettingsUnit) : SettingsUnit :=
  { u with
    store := Store.interrupted u.store u.write.isSome, write := none, phase := .starting, chosen := .setup
    scanPos := 0, scanCrc := 0xFFFF, lastPass := none, checkTimer := none }

/-- The source taken first records its cause; a second one changes nothing but its own hold (08 R164). -/
def State.coldReset (s : State) (cause : ResetCause) : State :=
  if s.rst.active = true then s
  else
    State.held (SettingsUnit.underReset s.stg) { s.rst with active := true, cause := cause } s.freeCount s.pending

/-- The reset unit changed. -/
def State.modRst (s : State) (f : ResetUnit → ResetUnit) : State := { s with rst := f s.rst }

/-- The supply monitor of the part begins its hold: the high count starts at 0 (08 R165). -/
def ResetUnit.beginHold (r : ResetUnit) : ResetUnit := { r with supplyHold := true, highCount := 0 }

/-- The row POWER_ON (08 R164, R165): a cold reset, with the supply monitor holding from the start. -/
def execPowerOn (s : State) : Host.Outcome State Fault Refusal :=
  .next ((s.coldReset .powerOn).modRst ResetUnit.beginHold)

/-- The row RESET_LINE (08 R164): RESET_N low takes or lengthens a cold reset; high lets go of it. -/
def execResetLine (low : Bool) (s : State) : Host.Outcome State Fault Refusal :=
  .next (if low then (s.coldReset .resetLine).modRst fun r => { r with lineLow := true }
    else s.modRst fun r => { r with lineLow := false })

/-- The counts of the supply monitor of the part after a sample of VBAT, with its hold ended at the fourth high sample
(08 R165); the hold begins in `State.supplySample`. A count that a storage fault has left at 4 or above is held at 4, so that one
further sample of its kind is a fourth one: the model's choice (log 33). -/
def supplyCounts (vbat : Nat) (r : ResetUnit) : ResetUnit :=
  if r.supplyHold then
    let high := if Config.vbatHigh ≤ vbat then min 4 (r.highCount + 1) else 0
    if high = 4 then { r with highCount := high, supplyHold := false, lowCount := 0 } else { r with highCount := high }
  else { r with lowCount := if vbat < Config.vbatLow then min 4 (r.lowCount + 1) else 0 }

/-- A sample of VBAT: the fourth successive low sample takes a cold reset and begins the hold (08 R165). -/
def State.supplySample (s : State) (vbat : Nat) : State :=
  let s1 := s.modRst (supplyCounts vbat)
  if s1.rst.supplyHold = false ∧ s1.rst.lowCount = 4 then (s1.coldReset .supplyLow).modRst ResetUnit.beginHold else s1

/-- The row SUPPLY_SAMPLE (08 R165), in every state of the part. -/
def execSupplySample (vbat : Nat) (s : State) : Host.Outcome State Fault Refusal := .next (s.supplySample vbat)

/-! ### The cold start (08 R167) -/

/-- The release of a cold reset: part clock 0, branch cycle timer started, phase STARTING, the store read, each working
profile a copy of its baseline, bus power on, and the node settle time running. That the first branch period is the
BRANCH_PERIOD just read is the model's choice (log 29). -/
def State.coldStart (s : State) : State :=
  let stg := { readStore s.stg with phase := Phase.starting }
  { s with
    rst := { s.rst with active := false, lineLow := false }
    now := 0
    stg := stg
    chans := Oct.ofFn fun c =>
      { s.chans.get c with prof := { (s.chans.get c).prof with working := stg.image.baseline.get c } }
    br := { s.br with timer := some stg.image.glob.branchPeriod, busPower := true }
    enr := { s.enr with st := .settle, settle := some Config.settleTicks, fromCold := true } }

/-- The row COLD_START: the release of a cold reset that the supply monitor does not hold (08 R167, log 8). -/
def execColdStart (s : State) : Host.Outcome State Fault Refusal :=
  .next (if s.rst.active = true ∧ s.rst.supplyHold = false then s.coldStart else s)

/-! ### The warm reset (08 R166) -/

/-- What a channel keeps through a warm reset, with its working profile the baseline just loaded (01 R3, 02 R30,
03 R63, 04 R88, 06 R121, 09 R183). -/
def ChannelUnit.warm (u : ChannelUnit) (baseline : Bins Nat) : ChannelUnit :=
  { ctl := { u.ctl with motion := none, hold := none, lastOrder := Order.initial, refusal := none
                        latched := Latched.none }
    eng := { EngineContext.cold with trip := u.eng.trip, tripFlag := u.eng.tripFlag }
    prof := ProfileContext.ofBaseline baseline
    rev := { u.rev with target := none }
    sup := { SupplyContext.cold with undervolt := u.sup.undervolt }
    readCopy := u.eng.trip }

/-- The enrollment unit through a warm reset (08 R168): records, schedule, rejoin count and the slots of a rejoin in
hand run on. -/
def EnrollmentUnit.warm (e : EnrollmentUnit) : EnrollmentUnit :=
  { e with st := .idle, offer := 0, miss := 0, settle := none }

/-- The trunk port through a warm reset (09 R173, R174, R177, R178, R180): the trunk loss timer restarts, SIDE_ABORT
stays, and the answer list goes with the answer that is on the line, where one is (log 37). -/
def TrunkPort.warm (t : TrunkPort) (expiry : Nat) : TrunkPort :=
  { TrunkPort.cold with lossTimer := some expiry, sideAbort := t.sideAbort }

/-- The warm reset, every block at its warm reset values, the store read and its phase entered at once, binding judged
again (08 R166, 10 R186, 01 R3, log 22). -/
def State.warmReset (s : State) : State :=
  let stg := readStore s.stg
  let s1 : State :=
    { s with
      chans := Oct.ofFn fun c => ChannelUnit.warm (s.chans.get c) (stg.image.baseline.get c)
      ctx := ContextUnit.stale
      arb := SlotArbiter.cold
      enr := EnrollmentUnit.warm s.enr
      trk := TrunkPort.warm s.trk (s.inMs (2 * stg.image.glob.trunkLoss))
      stg := stg
      rst := { s.rst with cause := .resetPart } }
  (s1.rebind s.nodeAddrs).enterPhase stg.chosen

/-- A channel is at rest: ABSENT, INHIBITED or IDLE. -/
def atRest (st : ChanState) : Bool :=
  match st with
  | .absent => true
  | .inhibited => true
  | .idle => true
  | _ => false

/-- The three cases in which RESET PART is answered BUSY (08 R166). -/
def State.resetBusy (s : State) : Bool :=
  s.chans.toList.any (fun u => !atRest u.ctl.st) || s.runInProgress || s.storeBusy

/-- A warm reset is triggered: the three cases are tested again, and it is taken if none holds (08 R166). -/
def State.tryWarmReset (s : State) : State := if s.resetBusy then s else s.warmReset

end Sys2Proof.Machine
end

