-- ==== Sys2Proof/Machine/Management.lean ====
section
/-! DEFINITION. Management (09.4 to 09.6): dispatch, the READ items, the commands by their owning rules, the delivery of an answer, and the rows of the commands. -/

namespace Sys2Proof.Machine

/-- What a command comes to: the state after it, its status and its 48 data bits. -/
structure Answered where
  state : State
  status : Status
  data : BitVec 48

/-- A command answered OK with its data fields. -/
def State.okWith (s : State) (fields : List (Nat × Int)) : Answered :=
  { state := s, status := .ok, data := answerData fields }

/-- A command that changes nothing, answered with a status and data 0 (09 R179). -/
def State.deny (s : State) (status : Status) : Answered := { state := s, status := status, data := 0 }

/-- A command on the channel an argument names; above 7 it is answered BAD_ARGUMENT. -/
def State.onChannel (s : State) (ch : Byte) (f : Chan → Answered) : Answered :=
  match chanOf ch with
  | some c => f c
  | none => s.deny .badArgument

/-! ### READ items (09 R182) -/

/-- Item 1, channel status: state, referenced, position, inhibit causes, latched conditions, e, stroke mask count, in the order
of 09 R182; that the causes come before the latched conditions, which 01 R29 names first, is the model's choice (log 36). -/
def State.readChannelStatus (s : State) (c : Chan) : Answered :=
  let u := s.chan c
  s.okWith ([(3, (ChanState.code u.ctl.st : Int)), bitOf u.ctl.referenced, (13, u.ctl.pos)] ++
    setFields (causesList u.ctl.causes) ++ setFields (latchedList u.ctl.latched) ++
    [(2, (u.rev.level : Int)), (10, (u.sup.strokeMask : Int))])

/-- Item 2, trip record part 1: the read copy takes the whole record and part 1 is returned from it (09 R183). -/
def State.readTripPart1 (s : State) (c : Chan) : Answered :=
  let t := (s.chan c).eng.trip
  (s.modChan c fun u => { u with readCopy := t }).okWith
    [(2, (tripCauseCode t.cause : Int)), (13, t.pos), (6, (t.bin : Int)), (2, (t.level : Int)), (8, (t.speed : Int)),
     (16, (t.stamp : Int))]

/-- Item 3, trip record part 2, from the read copy (09 R183). -/
def State.readTripPart2 (s : State) (c : Chan) : Answered :=
  let t := (s.chan c).readCopy
  s.okWith [(12, (t.f : Int)), (12, (t.r : Int)), (10, (t.t : Int)), (12, (t.a : Int))]

/-- Item 4, peak ratio: returned and set to 0 (02 R61). -/
def State.readPeak (s : State) (c : Chan) : Answered :=
  (s.modEng c fun e => { e with peak := 0 }).okWith [(8, ((s.chan c).eng.peak : Int))]

/-- Item 5, link grade: grade and worst grade of the bound node, whose worst grade becomes the grade; 0 and 0 and no
change for an ABSENT channel (07 R160). -/
def State.readGrade (s : State) (c : Chan) : Answered :=
  match nodeOf (s.cset c).nodeAddr with
  | some a =>
    if (s.chan c).ctl.st = .absent then s.okWith [(3, 0), (3, 0)]
    else
      (s.modNode a fun n => { n with worst := n.grade }).okWith
        [(3, ((s.br.nodes.get a).grade : Int)), (3, ((s.br.nodes.get a).worst : Int))]
  | none => s.okWith [(3, 0), (3, 0)]

/-- Item 6, node identity: record state or absent, class, serial tag, rated current, in the order of 09 R182, where 08 R168 has
the state last: the model's choice (log 36). -/
def State.readIdentity (s : State) (address : Byte) : Answered :=
  match nodeOf address.toNat with
  | none => s.deny .badArgument
  | some a =>
    match s.enr.table.get a with
    | none => s.okWith (presentOr 2 none ++ [(8, 0), (24, 0), (12, 0)])
    | some r =>
      s.okWith (presentOr 2 (some (RecordState.code r.st : Int)) ++
        [(8, (r.cls.toNat : Int)), (24, (r.tag.toNat : Int)), (12, (r.rated.toNat : Int))])

/-- Item 7, setting value; the channel of a global setting is not used (09 R182). -/
def State.readSetting (s : State) (ch id : Byte) : Answered :=
  match ChanSetting.ofId id.toNat, GlobSetting.ofId id.toNat with
  | some k, _ => s.onChannel ch fun c => s.okWith [(rangeWidth k.range, (s.cset c).read k)]
  | none, some k => s.okWith [(rangeWidth k.range, s.glob.read k)]
  | none, none => s.deny .badArgument

/-- Item 8, baseline bin (03 R87). -/
def State.readBaseline (s : State) (c : Chan) (bin : Byte) : Answered :=
  match binOf bin.toNat with
  | some b => s.okWith [(12, ((s.stg.image.baseline.get c).get b : Int))]
  | none => s.deny .badArgument

/-- Item 9, working bin (03 R87). -/
def State.readWorking (s : State) (c : Chan) (bin : Byte) : Answered :=
  match binOf bin.toNat with
  | some b => s.okWith [(12, ((s.chan c).prof.working.get b : Int))]
  | none => s.deny .badArgument

/-- The fields of a zone record that may be absent: presence, start, end, kind, adjust (03 R72, 11 R191). -/
def zoneFields : Option Zone → List (Nat × Int)
  | none => [(1, 0), (13, 0), (13, 0), (2, 0), (8, 0)]
  | some z => [(1, 1), (13, z.start), (13, z.stop), (2, (z.kind : Int)), (8, z.adjust)]

/-- Item 10, zone record: count, validity, the record or absent (03 R72). -/
def State.readZone (s : State) (c : Chan) (index : Byte) : Answered :=
  let zs := s.stg.image.zones.get c
  if 5 < index.toNat then s.deny .badArgument
  else s.okWith ([(3, (zs.length : Int)), bitOf (zonesValid zs)] ++ zoneFields zs[index.toNat]?)

/-- Item 11, refusal reason (01 R27). -/
def State.readRefusal (s : State) (c : Chan) : Answered := s.okWith [(4, (refusalCode (s.chan c).ctl.refusal : Int))]

/-- Item 12, teach result: state, reason or none, visited count (03 R86). -/
def State.readTeach (s : State) (c : Chan) : Answered :=
  let p := (s.chan c).prof
  s.okWith ([(2, (teachStateCode p.teach : Int))] ++
    presentOr 3 ((teachReasonOf p.teach).map fun r => (TeachReason.code r : Int)) ++ [(7, (p.teachVisited : Int))])

/-- Item 13, part status: phase, set of part conditions, node count, last reset cause (08 R164, 09 R177). -/
def State.readPartStatus (s : State) : Answered :=
  s.okWith ([(2, (Phase.code s.phase : Int))] ++ setFields (s.partConditions.map fun x => x.2) ++
    [(4, (s.nodeCount : Int)), (2, (ResetCause.code s.rst.cause : Int))])

/-- Item 14, check value: locked value or none, value of the last pass or none, scan position (10 R189). -/
def State.readCheck (s : State) : Answered :=
  s.okWith (presentOr 16 (s.stg.locked.map fun v => (v.toNat : Int)) ++
    presentOr 16 (s.stg.lastPass.map fun v => (v.toNat : Int)) ++ [(6, (s.stg.scanPos : Int))])

/-- READ by its item number, 1..14 in the order of the READ items table (09 R182, 11 R191). -/
def State.read (s : State) (item first second : Byte) : Answered :=
  match item.toNat with
  | 1 => s.onChannel first s.readChannelStatus
  | 2 => s.onChannel first s.readTripPart1
  | 3 => s.onChannel first s.readTripPart2
  | 4 => s.onChannel first s.readPeak
  | 5 => s.onChannel first s.readGrade
  | 6 => s.readIdentity first
  | 7 => s.readSetting first second
  | 8 => s.onChannel first fun c => s.readBaseline c second
  | 9 => s.onChannel first fun c => s.readWorking c second
  | 10 => s.onChannel first fun c => s.readZone c second
  | 11 => s.onChannel first s.readRefusal
  | 12 => s.onChannel first s.readTeach
  | 13 => s.readPartStatus
  | 14 => s.readCheck
  | _ => s.deny .badArgument

/-! ### The commands by their owning rules -/

/-- RESTORE POSITION (01 R28): an IDLE unreferenced channel takes the clamped position and its reference, and
the position is echoed in the 13 bits of the item of R3 (log 13). -/
def State.restorePosition (s : State) (c : Chan) (position : BitVec 16) : Answered :=
  if (s.chan c).ctl.st = .idle ∧ (s.chan c).ctl.referenced = false then
    let p := clamp 0 (s.cset c).travel position.toInt
    (s.modCtl c fun r => { r with pos := p, referenced := true }).okWith [(13, p)]
  else s.deny .notApplicable

/-- RESET PART (08 R166): BUSY in its three cases, else OK; `State.deliver` arms the warm reset. -/
def State.resetPart (s : State) : Answered := if s.resetBusy then s.deny .busy else s.okWith []

/-- REOPEN (10 R188): every channel at rest and the vehicle at standstill, else BUSY; the store write begins. -/
def State.reopen (s : State) : Answered :=
  if s.chans.toList.all (fun u => atRest u.ctl.st) && atStandstill s.ctx then
    State.okWith { s with stg := SettingsUnit.beginReopen s.stg } []
  else s.deny .busy

/-- A write of a per-channel setting into the working image, with what its owner adds: NODE_ADDR judges binding again
(01 R4), BAND_LOW and BAND_HIGH copy the baseline (03 R65). -/
def State.writeChanSetting (s : State) (c : Chan) (k : ChanSetting) (v : Int) : State :=
  let s1 := s.modImage fun i => { i with chan := i.chan.set c ((i.chan.get c).write k v) }
  match k with
  | .nodeAddr => s1.rebind s.nodeAddrs
  | .bandLow => s1.copyBaseline c
  | .bandHigh => s1.copyBaseline c
  | _ => s1

/-- WRITE SETTING (10 R185): BAD_ARGUMENT, then BUSY for TRAVEL during a teach (03 R85) and SLOTS while a slot is held
(06 R128), else the clamped value is stored and echoed. -/
def State.writeSetting (s : State) (ch id : Byte) (value : BitVec 16) : Answered :=
  match ChanSetting.ofId id.toNat, GlobSetting.ofId id.toNat with
  | some k, _ =>
    s.onChannel ch fun c =>
      if k = .travel ∧ (s.chan c).prof.teach = .running then s.deny .busy
      else (s.writeChanSetting c k value.toInt).okWith [(rangeWidth k.range, clamp k.range.1 k.range.2 value.toInt)]
  | none, some k =>
    if k = .slots ∧ 0 < s.slotsHeld then s.deny .busy
    else
      (s.modImage fun i => { i with glob := i.glob.write k value.toInt }).okWith
        [(rangeWidth k.range, clamp k.range.1 k.range.2 value.toInt)]
  | none, none => s.deny .badArgument

/-- A baseline with the eight values written from bin `first` on, each clamped to 0..4095 (03 R78). -/
def loadBins (base : Bins Nat) (first : Nat) (values : Oct (BitVec 16)) : Bins Nat :=
  Bins.ofFn fun b =>
    if h : first ≤ b.val ∧ b.val < first + 8 then
      (clamp 0 4095 (values.get ⟨b.val - first, by omega⟩).toInt).toNat
    else base.get b

/-- LOAD BASELINE (03 R78): eight clamped bins, and the working profile a copy of the whole baseline. -/
def State.loadBaseline (s : State) (c : Chan) (first : Byte) (values : Oct (BitVec 16)) : Answered :=
  if 56 < first.toNat then s.deny .badArgument
  else if (s.chan c).prof.teach = .running then s.deny .busy
  else
    ((s.modImage fun i =>
      { i with baseline := i.baseline.set c (loadBins (i.baseline.get c) first.toNat values) }).copyBaseline c).okWith
      [(6, (first.toNat : Int))]

/-- SET ZONE (03 R70): the record replaced, or appended where the index is at or above the count. A list that already
holds 6 records has every index below its count. -/
def State.setZone (s : State) (c : Chan) (index : Byte) (start stop : BitVec 13) (kind : BitVec 4)
    (adjust : BitVec 8) : Answered :=
  if 5 < index.toNat then s.deny .badArgument
  else
    match zoneKindOf kind.toNat with
    | none => s.deny .badArgument
    | some k =>
      let lo := clamp (-255) 4095 start.toInt
      let hi := clamp (-255) 4095 stop.toInt
      if hi < lo then s.deny .badArgument
      else if (s.chan c).prof.teach = .running then s.deny .busy
      else
        let zs := s.stg.image.zones.get c
        let z : Zone := { start := lo, stop := hi, kind := ZoneKind.code k, adjust := adjust.toInt }
        let place := min index.toNat zs.length
        let after := if index.toNat < zs.length then zs.set index.toNat z else zs ++ [z]
        (s.modImage fun i => { i with zones := i.zones.set c after }).okWith
          [(3, (place : Int)), (3, (after.length : Int))]

/-- CLEAR ZONES (03 R71). -/
def State.clearZones (s : State) (c : Chan) : Answered :=
  if (s.chan c).prof.teach = .running then s.deny .busy
  else (s.modImage fun i => { i with zones := i.zones.set c [] }).okWith []

/-- The preconditions of TEACH (03 R79). -/
def State.teachable (s : State) (c : Chan) : Bool :=
  let r := (s.chan c).ctl
  let travel := (s.cset c).travel
  decide (r.st = .idle) && r.referenced && decide (((travel - travel / 16 : Nat) : Int) ≤ r.pos) && !s.stg.configFault

/-- TEACH (03 R79): the teach runs, and a LATCHED USER close joins the queue. -/
def State.teach (s : State) (c : Chan) : Answered :=
  if s.teachable c then
    ((s.modProf c fun p => { p with teach := .running, teachVisited := 0 }).joinQueue c
      { dir := .toClosed, origin := .latched, cls := .user, target := none }).okWith []
  else s.deny .notApplicable

/-- A teach of some channel is RUNNING. -/
def State.anyTeach (s : State) : Bool := s.chans.toList.any fun u => decide (u.prof.teach = .running)

/-- LOCK-IN (10 R187): BUSY, CHECK_FAILED with check number and channel, or OK and the store write begins. -/
def State.lockIn (s : State) : Answered :=
  if s.anyTeach || s.runInProgress then s.deny .busy
  else
    match lockInFailure s.stg.image with
    | some f => { state := s, status := .checkFailed, data := answerData [(8, (f.1 : Int)), (8, (f.2 : Int))] }
    | none => State.okWith { s with stg := SettingsUnit.beginLockIn s.stg } []

/-- ENROLL (08 R171): BUSY during a run, else a run starts. -/
def State.enroll (s : State) : Answered := if s.runInProgress then s.deny .busy else s.startEnroll.okWith []

/-- A command executed by its owning rule (09 R179 step 6). -/
def State.perform (s : State) : Command → Answered
  | .read item first second => s.read item first second
  | .restorePosition ch position => s.onChannel ch fun c => s.restorePosition c position
  | .resetPart => s.resetPart
  | .reopen => s.reopen
  | .writeSetting ch id value => s.writeSetting ch id value
  | .loadBaseline ch first values => s.onChannel ch fun c => s.loadBaseline c first values
  | .setZone ch index start stop kind adjust => s.onChannel ch fun c => s.setZone c index start stop kind adjust
  | .clearZones ch => s.onChannel ch s.clearZones
  | .teach ch => s.onChannel ch s.teach
  | .lockIn => s.lockIn
  | .enroll => s.enroll

/-! ### Dispatch (09 R179) -/

/-- The phases a command is taken in (09 R179, the command table). -/
def CommandCode.takenIn (k : CommandCode) (p : Phase) : Bool :=
  match k, p with
  | .read, _ => true
  | .restorePosition, .setup => true
  | .restorePosition, .run => true
  | .resetPart, .setup => true
  | .resetPart, .run => true
  | .reopen, .run => true
  | .reopen, _ => false
  | _, .setup => true
  | _, _ => false

/-- The command a code names on a path: LOAD BASELINE has no side form (09 R179 step 1). -/
def codeOnPath (path : Path) (code : Byte) : Option CommandCode :=
  match path, commandCodeOf code with
  | .side, some .loadBaseline => none
  | _, k => k

/-- Dispatch, in the order of its checks (09 R179); `cmd` is none where the length does not match the command. -/
def State.dispatch (s : State) (path : Path) (code : Byte) (cmd : Option Command) : Answered :=
  match codeOnPath path code with
  | none => s.deny .unknownCommand
  | some k =>
    if s.storeBusy then s.deny .busy
    else if s.phase = .starting ∧ k ≠ .read then s.deny .busy
    else if k.takenIn s.phase = false then s.deny .wrongPhase
    else
      match cmd with
      | none => s.deny .badArgument
      | some c => s.perform c

/-- A command judged: a COMMAND frame first by phase, then dispatch (09 R179). -/
def State.judge (s : State) (path : Path) (code : Byte) (cmd : Option Command) : Answered :=
  if path = .command ∧ s.phase = .run then s.deny .wrongPhase else s.dispatch path code cmd

/-- An answer joins the list, unless 4 stand there; a lost answer whose sending would trigger a warm reset triggers it at
once, at the end of its frame (09 R174, 08 R166). -/
def State.joinAnswers (s : State) (a : Answer) : State :=
  if s.trk.answers.length < Config.answerSlots then
    { s with trk := { s.trk with answers := s.trk.answers ++ [a] } }
  else if a.resets then s.tryWarmReset else s

/-- The answer of a command is delivered: a RESPONSE joins the list, a side response is latched as pending, replacing any
other; an OK to RESET PART arms the warm reset (09 R174, R180, 08 R166). -/
def State.deliver (s : State) (path : Path) (r : Reply) (resets : Bool) : State :=
  match path with
  | .command => s.joinAnswers { body := .response r, resets := resets }
  | .side =>
    { s with trk := { s.trk with
        response := some { reply := r, next := 1 }, resetArmed := s.trk.resetArmed || resets } }

/-- A command's arrival: the COMMAND frame is complete and the receiver hunts, or the collection is complete and the
collector is IDLE (09 R173, R180). -/
def TrunkPort.arrived (t : TrunkPort) (path : Path) : TrunkPort :=
  match path with
  | .command => { t with rx := .hunt }
  | .side => { t with collector := .idle }

/-- A management command taken on a path: judged, executed whole, and its answer delivered (09 R179, R180). -/
def State.manage (s : State) (path : Path) (code : Byte) (cmd : Option Command) : State :=
  let a := State.judge { s with trk := TrunkPort.arrived s.trk path } path code cmd
  a.state.deliver path { code := code, status := a.status, data := a.data }
    (decide (cmd = some .resetPart) && decide (a.status = .ok))

/-- The row of a command: the completion of its COMMAND frame or side command (log 10). -/
def execManaged (path : Path) (cmd : Command) (s : State) : Host.Outcome State Fault Refusal :=
  whileRunning s fun s => s.manage path cmd.code.byte (some cmd)

/-! ### The rows -/

/-- The row READ_CHANNEL_STATUS. -/
def execReadChannelStatus (path : Path) (channel : Byte) (s : State) : Host.Outcome State Fault Refusal :=
  execManaged path (.read 1 channel 0) s

/-- The row READ_TRIP_RECORD_PART_1. -/
def execReadTripRecordPart1 (path : Path) (channel : Byte) (s : State) : Host.Outcome State Fault Refusal :=
  execManaged path (.read 2 channel 0) s

/-- The row READ_TRIP_RECORD_PART_2. -/
def execReadTripRecordPart2 (path : Path) (channel : Byte) (s : State) : Host.Outcome State Fault Refusal :=
  execManaged path (.read 3 channel 0) s

/-- The row READ_PEAK_RATIO. -/
def execReadPeakRatio (path : Path) (channel : Byte) (s : State) : Host.Outcome State Fault Refusal :=
  execManaged path (.read 4 channel 0) s

/-- The row READ_LINK_GRADE. -/
def execReadLinkGrade (path : Path) (channel : Byte) (s : State) : Host.Outcome State Fault Refusal :=
  execManaged path (.read 5 channel 0) s

/-- The row READ_NODE_IDENTITY. -/
def execReadNodeIdentity (path : Path) (address : Byte) (s : State) : Host.Outcome State Fault Refusal :=
  execManaged path (.read 6 address 0) s

/-- The row READ_SETTING_VALUE. -/
def execReadSettingValue (path : Path) (channel id : Byte) (s : State) : Host.Outcome State Fault Refusal :=
  execManaged path (.read 7 channel id) s

/-- The row READ_BASELINE_BIN. -/
def execReadBaselineBin (path : Path) (channel bin : Byte) (s : State) : Host.Outcome State Fault Refusal :=
  execManaged path (.read 8 channel bin) s

/-- The row READ_WORKING_BIN. -/
def execReadWorkingBin (path : Path) (channel bin : Byte) (s : State) : Host.Outcome State Fault Refusal :=
  execManaged path (.read 9 channel bin) s

/-- The row READ_ZONE_RECORD. -/
def execReadZoneRecord (path : Path) (channel index : Byte) (s : State) : Host.Outcome State Fault Refusal :=
  execManaged path (.read 10 channel index) s

/-- The row READ_REFUSAL_REASON. -/
def execReadRefusalReason (path : Path) (channel : Byte) (s : State) : Host.Outcome State Fault Refusal :=
  execManaged path (.read 11 channel 0) s

/-- The row READ_TEACH_RESULT. -/
def execReadTeachResult (path : Path) (channel : Byte) (s : State) : Host.Outcome State Fault Refusal :=
  execManaged path (.read 12 channel 0) s

/-- The row READ_PART_STATUS. -/
def execReadPartStatus (path : Path) (s : State) : Host.Outcome State Fault Refusal :=
  execManaged path (.read 13 0 0) s

/-- The row READ_CHECK_VALUE. -/
def execReadCheckValue (path : Path) (s : State) : Host.Outcome State Fault Refusal :=
  execManaged path (.read 14 0 0) s

/-- The row RESTORE_POSITION (01 R28). -/
def execRestorePosition (path : Path) (channel : Byte) (position : BitVec 16) (s : State) :
    Host.Outcome State Fault Refusal :=
  execManaged path (.restorePosition channel position) s

/-- The row RESET_PART (08 R166). -/
def execResetPart (path : Path) (s : State) : Host.Outcome State Fault Refusal := execManaged path .resetPart s

/-- The row REOPEN (10 R188). -/
def execReopen (path : Path) (s : State) : Host.Outcome State Fault Refusal := execManaged path .reopen s

/-- The row WRITE_SETTING (10 R185). -/
def execWriteSetting (path : Path) (channel id : Byte) (value : BitVec 16) (s : State) :
    Host.Outcome State Fault Refusal :=
  execManaged path (.writeSetting channel id value) s

/-- The row LOAD_BASELINE (03 R78). -/
def execLoadBaseline (path : Path) (channel first : Byte) (values : Oct (BitVec 16)) (s : State) :
    Host.Outcome State Fault Refusal :=
  execManaged path (.loadBaseline channel first values) s

/-- The row SET_ZONE (03 R70). -/
def execSetZone (path : Path) (channel index : Byte) (start stop : BitVec 13) (kind : BitVec 4) (adjust : BitVec 8)
    (s : State) : Host.Outcome State Fault Refusal :=
  execManaged path (.setZone channel index start stop kind adjust) s

/-- The row CLEAR_ZONES (03 R71). -/
def execClearZones (path : Path) (channel : Byte) (s : State) : Host.Outcome State Fault Refusal :=
  execManaged path (.clearZones channel) s

/-- The row TEACH (03 R79). -/
def execTeach (path : Path) (channel : Byte) (s : State) : Host.Outcome State Fault Refusal :=
  execManaged path (.teach channel) s

/-- The row LOCK_IN (10 R187). -/
def execLockIn (path : Path) (s : State) : Host.Outcome State Fault Refusal := execManaged path .lockIn s

/-- The row ENROLL (08 R171). -/
def execEnroll (path : Path) (s : State) : Host.Outcome State Fault Refusal := execManaged path .enroll s

end Sys2Proof.Machine
end

