-- ==== Sys2Proof/Machine/Trunk.lean ====
section
/-! DEFINITION. The trunk port (09): GOOD_CYCLE_FRAME, GOOD_COMMAND_FRAME, FRAME_DISCARDED, INTER_BYTE_GAP, REPORT_ASSEMBLY, ANSWER_SENT, TRUNK_LOSS. -/

namespace Sys2Proof.Machine

/-! ### The side channel (09 R180, R181) -/

/-- The collection and any pending response are abandoned; SIDE_ABORT is latched (09 R180). -/
def TrunkPort.abandon (t : TrunkPort) : TrunkPort :=
  { t with collector := .idle, response := none, sideAbort := true }

/-- The collector with one more fragment. -/
def Collector.taking (k : Collector) (fragment : BitVec 16) : Collector :=
  match k with
  | .idle => .idle
  | .collecting got => .collecting (got ++ [fragment])

/-- Marker m in 2..4 (09 R180): fragment m = n + 1 is taken, and fragment 4 completes the command; anything else
abandons. -/
def TrunkPort.nextFragment (t : TrunkPort) (m : Nat) (fragment : BitVec 16) : TrunkPort × Option (Oct Byte) :=
  match t.response, t.collector, m with
  | none, .collecting [_], 2 => ({ t with collector := Collector.taking t.collector fragment }, none)
  | none, .collecting [_, _], 3 => ({ t with collector := Collector.taking t.collector fragment }, none)
  | none, .collecting [f1, f2, f3], 4 => ({ t with collector := .idle }, some (bytesOfFragments f1 f2 f3 fragment))
  | _, _, _ => (TrunkPort.abandon t, none)

/-- The side collector acts on the side field of a good CYCLE frame (09 R180): the trunk port after it, and the eight
bytes of a command it completes. -/
def TrunkPort.collect (t : TrunkPort) (marker : Byte) (fragment : BitVec 16) : TrunkPort × Option (Oct Byte) :=
  if marker = 0 then
    match t.collector with
    | .idle => (t, none)
    | .collecting _ => ({ t with collector := .idle, sideAbort := true }, none)
  else if marker = 1 then ({ t with collector := .collecting [fragment], response := none }, none)
  else if marker.toNat ≤ 4 then TrunkPort.nextFragment t marker.toNat fragment
  else (TrunkPort.abandon t, none)

/-- The side field of the REPORT, chosen after the collector has acted (09 R181): the next fragment of a pending response
in answer to marker 0, else marker 0 and fragment 0. -/
def TrunkPort.chooseSide (t : TrunkPort) (marker : Byte) : SideField × TrunkPort :=
  match t.response with
  | some r =>
    if marker = 0 then
      ({ marker := BitVec.ofNat 8 r.next, fragment := Reply.fragment r.reply r.next },
       { t with response := if 4 ≤ r.next then none else some { r with next := r.next + 1 } })
    else ({ marker := 0, fragment := 0 }, t)
  | none => ({ marker := 0, fragment := 0 }, t)

/-! ### GOOD_CYCLE_FRAME (09 R175) -/

/-- The side command of eight bytes passes through dispatch, if the frame completed one (09 R180). -/
def State.sideCommand (s : State) : Option (Oct Byte) → State
  | none => s
  | some b => s.manage .side b.a0 (commandOfBytes b)

/-- The trunk loss timer restarts with the setting as it stands (09 R178). -/
def State.restartLoss (s : State) : State :=
  { s with trk := { s.trk with lossTimer := some (s.inMs (2 * s.glob.trunkLoss)) } }

/-- The order fields and the side command of a frame: where the frame completes a side command, the two stand in no
order to one another (09 R175), and which goes first is a free value (log 4). -/
def State.ordersAndSide (s : State) (orders : Oct Byte) (command : Option (Oct Byte)) : State :=
  match command with
  | none => s.orderGates orders
  | some b =>
    if Config.ordersBeforeSide s.freeCount then (s.bump.orderGates orders).sideCommand (some b)
    else (s.bump.sideCommand (some b)).orderGates orders

/-- The frame's REPORT joins the answer list with the side field chosen for it; a side RESET PART taken in this frame is
triggered by its sending (09 R174, R181, 08 R166). -/
def State.joinReport (s : State) (marker : Byte) : State :=
  let chosen := TrunkPort.chooseSide s.trk marker
  State.joinAnswers { s with trk := { chosen.2 with resetArmed := false } }
    { body := .report chosen.1 none, resets := s.trk.resetArmed }

/-- A good CYCLE frame is taken (09 R175): context first, the trunk loss timer, the collector, orders and side command,
and the REPORT. The timer restarts before a side command that the frame completes, with the TRUNK_LOSS it found: the order of
the two is the model's choice (log 31). -/
def State.takeCycle (s : State) (p : CyclePayload) : State :=
  let s1 := State.restartLoss { s with ctx := contextOf p, trk := { s.trk with rx := .hunt } }
  let collected := TrunkPort.collect s1.trk p.marker p.fragment
  (State.ordersAndSide { s1 with trk := collected.1 } p.orders collected.2).joinReport p.marker

/-- The row GOOD_CYCLE_FRAME (09 R175), in every phase and channel state. -/
def execGoodCycleFrame (p : CyclePayload) (s : State) : Host.Outcome State Fault Refusal :=
  whileRunning s fun s => s.takeCycle p

/-- The row GOOD_COMMAND_FRAME (09 R179). -/
def execGoodCommandFrame (p : CommandPayload) (s : State) : Host.Outcome State Fault Refusal :=
  whileRunning s fun s => s.manage .command (payloadCode p) (payloadCommand p)

/-! ### The receiver (09 R173) -/

/-- The receiver goes to a state. -/
def State.setReceiver (s : State) (r : Receiver) : State := { s with trk := { s.trk with rx := r } }

/-- The row FRAME_DISCARDED: whatever the reason, the receiver hunts and nothing else happens (09 R173). -/
def execFrameDiscarded (_why : DiscardReason) (s : State) : Host.Outcome State Fault Refusal :=
  whileRunning s fun s => s.setReceiver .hunt

/-- The row INTER_BYTE_GAP: the frame is discarded, and hunting resumes with the byte that ended the gap (09 R173). -/
def execInterByteGap (b : Byte) (s : State) : Host.Outcome State Fault Refusal :=
  whileRunning s fun s => s.setReceiver (receiverByte .hunt b).1

/-! ### Sending (09 R174, R176) -/

/-- What a REPORT assembled now carries (09 R176). -/
def State.reportBody (s : State) : ReportBody :=
  { part := s.partStatusWord, entries := Oct.ofFn s.channelEntry }

/-- Assembly clears every trip flag, and the latched part condition it carries (09 R176, R177). -/
def State.reportClears (s : State) : State :=
  let code := s.partCondition
  { s with
    chans := s.chans.map fun u => { u with eng := { u.eng with tripFlag := false } }
    trk := { s.trk with
      wasLost := s.trk.wasLost && decide (code ≠ 6)
      sideAbort := s.trk.sideAbort && decide (code ≠ 7) } }

/-- The oldest answer, a REPORT whose sending begins, is assembled from the state as it stands (09 R176, log 11). -/
def State.assembleReport (s : State) : State :=
  match s.trk.answers with
  | { body := .report side none, resets := r } :: rest =>
    let s1 := s.reportClears
    { s1 with trk := { s1.trk with answers := { body := .report side (some s.reportBody), resets := r } :: rest } }
  | _ => s

/-- The row REPORT_ASSEMBLY (09 R176). -/
def execReportAssembly (s : State) : Host.Outcome State Fault Refusal := whileRunning s State.assembleReport

/-- An answer can be on the line: a RESPONSE, or a REPORT that has been assembled. -/
def Answer.sendable (a : Answer) : Bool :=
  match a.body with
  | .response _ => true
  | .report _ (some _) => true
  | .report _ none => false

/-- The sending of the oldest answer completes; the one that triggers a warm reset does so now (09 R174, 08 R166). -/
def State.answerSent (s : State) : State :=
  match s.trk.answers with
  | [] => s
  | a :: rest =>
    if Answer.sendable a then
      let s1 := { s with trk := { s.trk with answers := rest } }
      if a.resets then s1.tryWarmReset else s1
    else s

/-- The row ANSWER_SENT (09 R174, log 11). -/
def execAnswerSent (s : State) : Host.Outcome State Fault Refusal := whileRunning s State.answerSent

/-! ### Trunk loss (09 R178) -/

/-- The trunk port's part of a trunk loss: the timer stopped, the side channel at rest without SIDE_ABORT, and
TRUNK_WAS_LOST latched. -/
def TrunkPort.lost (t : TrunkPort) : TrunkPort :=
  { t with lossTimer := none, collector := .idle, response := none, wasLost := true }

/-- Trunk loss at the gate and the queue of one channel: the last order field is NONE, a held motion or entry ends, and
an entry is flushed (01 R18, R19, 06 R139). -/
def State.channelTrunkLoss (s : State) (c : Chan) : State :=
  ((s.modCtl c fun r => { r with lastOrder := Order.initial }).endHeld c).flushEntry c

/-- The trunk loss timer expires (09 R178); every entry leaves the queue, one that a storage fault has left to a channel which
is not WAITING included (06 R139). -/
def State.trunkLost (s : State) : State :=
  let s1 := octIndexes.foldl State.channelTrunkLoss { s with ctx := ContextUnit.stale, trk := TrunkPort.lost s.trk }
  { s1 with arb := SlotArbiter.flushed s1.arb }

/-- The row TRUNK_LOSS: the expiry of the trunk loss timer, where it has been reached; "Frame first. The timer restarts, and
none of the effects above occurs" (09 R178, log 1). -/
def execTrunkLoss (s : State) : Host.Outcome State Fault Refusal :=
  whileRunning s fun s => if isDue s.trk.lossTimer s.now then s.trunkLost else s

end Sys2Proof.Machine
end

