-- ==== Sys2Proof/Machine/Storage.lean ====
section
/-! DEFINITION. STORAGE_FAULT (10 R189): a fault of the part's own storage changes a value the part holds. -/

namespace Sys2Proof.Machine

/-- The value of a place replaced. -/
def State.putAt (s : State) : StoragePlace → State
  | .chanSetting c id v => s.modImage fun i => { i with chan := i.chan.set c ((i.chan.get c).put id v) }
  | .globSetting id v => s.modImage fun i => { i with glob := i.glob.put id v }
  | .zones c zs => s.modImage fun i => { i with zones := i.zones.set c zs }
  | .baselineBin c b v => s.modImage fun i => { i with baseline := i.baseline.set c ((i.baseline.get c).set b v) }
  | .workingBin c b v => s.modProf c fun p => { p with working := p.working.set b v }
  | .channel c r => s.modCtl c fun _ => r
  | .engine c r => s.modEng c fun _ => r
  | .profile c r => s.modProf c fun _ => r
  | .reversal c r => s.modRev c fun _ => r
  | .supply c r => s.modSup c fun _ => r
  | .readCopy c r => s.modChan c fun u => { u with readCopy := r }
  | .context r => { s with ctx := r }
  | .arbiter r => { s with arb := r }
  | .branchNode a r => s.modNode a fun _ => r
  | .branchBus timer busPower driveWord place =>
    { s with br := { s.br with timer := timer, busPower := busPower, driveWord := driveWord, place := place } }
  | .enrollment r => { s with enr := r }
  | .trunk r => { s with trk := r }
  | .settings r => { s with stg := r }
  | .resets r => { s with rst := r }
  | .clock now => { s with now := now }

/-- The row STORAGE_FAULT: "any value the part holds, at any time" (10 R189): also while a cold reset is held, and
whatever range a rule gives the value. What no place of the part holds is no event of the part (log 20). -/
def execStorageFault (p : StoragePlace) (s : State) : Host.Outcome State Fault Refusal :=
  if p.holds then .next (s.putAt p) else .fault .valueNotHeld

end Sys2Proof.Machine
end

