-- ==== Sys2Proof/Machine/Tick.lean ====
section
/-! DEFINITION. The passage of time: a tick of 0.5 ms, taken on an empty queue, finds the events that fall due (log 2, log 3). -/

namespace Sys2Proof.Machine

/-- A command listed if its event is due. -/
def dueIf (due : Bool) (i : Instr) : List Instr := if due then [i] else []

/-- The event the settle or bus-off time brings (08 R169, R171). -/
def dueSettle (e : EnrollmentUnit) (now : Nat) : List Instr :=
  match e.st with
  | .busOff => dueIf (isDue e.settle now) .busOffExpiry
  | .settle => dueIf (isDue e.settle now) .nodeSettleExpiry
  | _ => []

/-- The transmitter's event: the oldest answer's sending begins with assembly if it is a REPORT, and completes (09 R174,
R176). -/
def dueAnswer (answers : List Answer) : List Instr :=
  match answers with
  | [] => []
  | a :: _ => if Answer.sendable a then [.answerSent] else [.reportAssembly]

/-- The events of a channel that are due: hold timer, queue timeout, escalation window. -/
def State.dueOfChannel (s : State) (c : Chan) : List Instr :=
  dueIf (isDue (s.chan c).ctl.hold s.now) (.holdTimerExpiry c) ++
  dueIf (s.queueDue c) (.queueTimeout c) ++
  dueIf (isDue (s.chan c).rev.window s.now) (.escalationWindowExpiry c)

/-- The events that are due at this instant, as commands. -/
def State.dueEvents (s : State) : List Instr :=
  dueSettle s.enr s.now ++ octIndexes.flatMap s.dueOfChannel ++ dueIf (isDue s.trk.lossTimer s.now) .trunkLoss ++
  dueIf (isDue s.stg.checkTimer s.now) .checkStep ++ dueIf (isDue s.br.timer s.now) .branchCycleStart ++
  dueAnswer s.trk.answers

/-- Events due together are taken in an order the spec leaves open: a free value chooses each time (log 3). -/
def arrangeFrom (k : Nat) : Nat → List Instr → List Instr
  | 0, l => l
  | n + 1, l =>
    match l with
    | [] => []
    | [x] => [x]
    | x :: y :: rest =>
      let i := Config.dueFirst (k + n) (rest.length + 2) % (rest.length + 2)
      (x :: y :: rest).getD i x :: arrangeFrom k n ((x :: y :: rest).eraseIdx i)

/-- A tick of a running part: the clock goes on by 0.5 ms and the due events wait in the queue. -/
def State.runningTick (s : State) : State :=
  let s1 := { s with now := s.now + 1 }
  let due := s1.dueEvents
  { s1 with pending := arrangeFrom s.freeCount due.length due, freeCount := s.freeCount + due.length }

/-- What passes on an empty queue: while a cold reset is held, only its release once no source holds it (08 R164, R167);
otherwise 0.5 ms. -/
def State.tick (s : State) : State :=
  if s.rst.active = true then
    if s.rst.lineLow = false ∧ s.rst.supplyHold = false then { s with pending := [.coldStart] } else s
  else s.runningTick

end Sys2Proof.Machine
end

