-- ==== Sys2Proof/Machine/Dispatch.lean ====
section
/-! DEFINITION. One arm per command: each calls the meaning of its row. -/

namespace Sys2Proof.Machine

def exec (i : Instr) (s : State) : Host.Outcome State Fault Refusal :=
  match i with
  | .powerOn => Sys2Proof.Machine.execPowerOn s
  | .resetLine low => Sys2Proof.Machine.execResetLine low s
  | .coldStart => Sys2Proof.Machine.execColdStart s
  | .supplySample vbat => Sys2Proof.Machine.execSupplySample vbat s
  | .goodCycleFrame p => Sys2Proof.Machine.execGoodCycleFrame p s
  | .frameDiscarded why => Sys2Proof.Machine.execFrameDiscarded why s
  | .interByteGap b => Sys2Proof.Machine.execInterByteGap b s
  | .reportAssembly => Sys2Proof.Machine.execReportAssembly s
  | .answerSent => Sys2Proof.Machine.execAnswerSent s
  | .readChannelStatus path channel => Sys2Proof.Machine.execReadChannelStatus path channel s
  | .readTripRecordPart1 path channel => Sys2Proof.Machine.execReadTripRecordPart1 path channel s
  | .readTripRecordPart2 path channel => Sys2Proof.Machine.execReadTripRecordPart2 path channel s
  | .readPeakRatio path channel => Sys2Proof.Machine.execReadPeakRatio path channel s
  | .readLinkGrade path channel => Sys2Proof.Machine.execReadLinkGrade path channel s
  | .readNodeIdentity path address => Sys2Proof.Machine.execReadNodeIdentity path address s
  | .readSettingValue path channel id => Sys2Proof.Machine.execReadSettingValue path channel id s
  | .readBaselineBin path channel bin => Sys2Proof.Machine.execReadBaselineBin path channel bin s
  | .readWorkingBin path channel bin => Sys2Proof.Machine.execReadWorkingBin path channel bin s
  | .readZoneRecord path channel index => Sys2Proof.Machine.execReadZoneRecord path channel index s
  | .readRefusalReason path channel => Sys2Proof.Machine.execReadRefusalReason path channel s
  | .readTeachResult path channel => Sys2Proof.Machine.execReadTeachResult path channel s
  | .readPartStatus path => Sys2Proof.Machine.execReadPartStatus path s
  | .readCheckValue path => Sys2Proof.Machine.execReadCheckValue path s
  | .restorePosition path channel position => Sys2Proof.Machine.execRestorePosition path channel position s
  | .resetPart path => Sys2Proof.Machine.execResetPart path s
  | .reopen path => Sys2Proof.Machine.execReopen path s
  | .writeSetting path channel id value => Sys2Proof.Machine.execWriteSetting path channel id value s
  | .loadBaseline path channel first values => Sys2Proof.Machine.execLoadBaseline path channel first values s
  | .setZone path channel index start stop kind adjust => Sys2Proof.Machine.execSetZone path channel index start stop kind adjust s
  | .clearZones path channel => Sys2Proof.Machine.execClearZones path channel s
  | .teach path channel => Sys2Proof.Machine.execTeach path channel s
  | .lockIn path => Sys2Proof.Machine.execLockIn path s
  | .enroll path => Sys2Proof.Machine.execEnroll path s
  | .lockInStoreWriteComplete verified => Sys2Proof.Machine.execLockInStoreWriteComplete verified s
  | .reopenStoreWriteComplete verified => Sys2Proof.Machine.execReopenStoreWriteComplete verified s
  | .checkStep => Sys2Proof.Machine.execCheckStep s
  | .storageFault place => Sys2Proof.Machine.execStorageFault place s
  | .holdTimerExpiry c => Sys2Proof.Machine.execHoldTimerExpiry c s
  | .queueTimeout c => Sys2Proof.Machine.execQueueTimeout c s
  | .trunkLoss => Sys2Proof.Machine.execTrunkLoss s
  | .escalationWindowExpiry c => Sys2Proof.Machine.execEscalationWindowExpiry c s
  | .branchCycleStart => Sys2Proof.Machine.execBranchCycleStart s
  | .nodeSettleExpiry => Sys2Proof.Machine.execNodeSettleExpiry s
  | .busOffExpiry => Sys2Proof.Machine.execBusOffExpiry s
  | .rejoinAttempt => Sys2Proof.Machine.execRejoinAttempt s
  | .replySlotEnd a content => Sys2Proof.Machine.execReplySlotEnd a content s
  | .slot0End content => Sys2Proof.Machine.execSlot0End content s
  | .goodCommandFrame p => Sys2Proof.Machine.execGoodCommandFrame p s

end Sys2Proof.Machine
end

