-- ==== Sys2Proof/Safety.lean ====
section
/-! DEFINITION. What the statements call a good state: every value in the range its rule gives (`State.inRange`), and the
blocks agreeing with one another (`State.consistent`). -/

namespace Sys2Proof.Machine

/-! ### Ranges -/

/-- The entries of the queue and the stagger count; how many entries there are is a matter of `State.consistent`. -/
def SlotArbiter.valuesInRange (a : SlotArbiter) : Bool := a.queue.all (fun e => e.motion.inRange) && upTo 16 a.stagger

/-- Every value of every block stands in the range its rule gives it. -/
def State.inRange (s : State) : Bool :=
  s.chans.allGood ChannelUnit.inRange && s.ctx.inRange && SlotArbiter.valuesInRange s.arb && s.br.inRange &&
  s.enr.inRange && s.trk.inRange && s.stg.inRange && s.rst.inRange

/-! ### Agreement between blocks -/

/-- A motion record stands exactly in an OPENING or CLOSING channel and has its direction (01 R2). -/
def motionFits (r : ChannelRecord) : Bool :=
  match r.st, r.motion with
  | .opening, some m => decide (m.dir = .toOpen)
  | .closing, some m => decide (m.dir = .toClosed)
  | .opening, none => false
  | .closing, none => false
  | _, m => m.isNone

/-- A channel holds a slot exactly while it is in motion, and an entry exactly while it is WAITING (06 R127, R129). -/
def State.placeFits (s : State) (c : Chan) : Bool :=
  s.arb.slots.get c == inMotion (s.chan c).ctl.st && (s.entryOf c).isSome == decide ((s.chan c).ctl.st = .waiting)

/-- The hold timer runs exactly while the channel carries a held motion or entry (01 R19). -/
def State.holdFits (s : State) (c : Chan) : Bool :=
  (s.chan c).ctl.hold.isSome == (s.carried c).any fun m => decide (m.origin = .held)

/-- An unreferenced channel carries only a held USER motion or entry (01 R8). -/
def State.referenceFits (s : State) (c : Chan) : Bool :=
  (s.chan c).ctl.referenced || !(s.carried c).any needsReference

/-- A channel is ABSENT exactly while it is not bound; it then has no reference and no counter base (01 R4). -/
def State.bindingFits (s : State) (c : Chan) : Bool :=
  let r := (s.chan c).ctl
  decide (r.st = .absent) == !s.isBound c &&
  (decide (r.st ≠ .absent) || (!r.referenced && r.base.isNone && !anyCause r.causes))

/-- A bound channel is INHIBITED exactly while it has an inhibit cause (01 R6), and its UNDERVOLT cause is the supply
monitor's flag (01 R5). -/
def causesFit (u : ChannelUnit) : Bool :=
  anyCause u.ctl.causes == decide (u.ctl.st = .inhibited) && u.ctl.causes.undervolt == u.sup.undervolt

/-- The reversal target stands exactly while REVERSING, and e is 0 whenever the window does not run (04 R88). -/
def reversalFits (u : ChannelUnit) : Bool :=
  u.rev.target.isSome == decide (u.ctl.st = .reversing) && (u.rev.window.isSome || decide (u.rev.level = 0))

/-- Outside CLOSING, A, the first-sample mark and the blanking count are at rest (02 R32). -/
def engineFits (u : ChannelUnit) : Bool :=
  decide (u.ctl.st = .closing) || (decide (u.eng.acc = 0) && !u.eng.first && decide (u.eng.blank = 0))

/-- The items of a teach entry (03 R79). -/
def teachMotion : Motion := { dir := .toClosed, origin := .latched, cls := .user, target := none }

/-- A RUNNING teach has its channel WAITING with its teach entry or CLOSING in its teach stroke (03 R80, R81). -/
def State.teachFits (s : State) (c : Chan) : Bool :=
  let u := s.chan c
  decide (u.prof.teach ≠ .running) ||
  (decide (s.carried c = some teachMotion) && (decide (u.ctl.st = .waiting) || u.prof.marks.teachStroke))

/-- The blocks agree about a channel. -/
def State.channelConsistent (s : State) (c : Chan) : Bool :=
  motionFits (s.chan c).ctl && s.placeFits c && s.holdFits c && s.referenceFits c && s.bindingFits c &&
  causesFit (s.chan c) && reversalFits (s.chan c) && engineFits (s.chan c) && s.teachFits c

/-- A record is LOST exactly while its address is in the rejoin schedule, and its grades are then 0 (08 R172, 07 R156);
the worst grade never exceeds the grade (07 R160); a run has made no record from its offer address on (08 R169). -/
def State.nodeConsistent (s : State) (a : Node) : Bool :=
  let lost := (s.enr.table.get a).any fun r => decide (r.st = .lost)
  let n := s.br.nodes.get a
  s.enr.schedule.get a == lost && (!lost || decide (n.grade = 0)) && decide (n.worst ≤ n.grade) &&
  (!s.runInProgress || decide (a < s.enr.offer) || (s.enr.table.get a).isNone)

/-- STARTING is a run that followed a cold start and ends in the chosen phase; a held cold reset stands before any
offer (08 R167, R170, 10 R186). -/
def State.startConsistent (s : State) : Bool :=
  decide (s.phase ≠ .starting) ||
  (s.runInProgress && s.enr.fromCold &&
    (decide (s.stg.chosen = .setup) || (decide (s.stg.chosen = .run) && s.stg.locked.isSome)))

/-- The phase, the store write and the enrollment unit agree (08 R164, R167, 10 R186 to R189). -/
def State.phaseConsistent (s : State) : Bool :=
  s.startConsistent && (decide (s.phase = .starting) || !(s.runInProgress && s.enr.fromCold)) &&
  (!s.rst.active || (decide (s.phase = .starting) && decide (s.enr.offer = 0))) &&
  (decide (s.phase ≠ .run) || (s.stg.locked.isSome && !s.runInProgress)) &&
  (s.stg.checkTimer.isSome == decide (s.phase = .run)) &&
  match s.stg.write with
  | none => true
  | some (.lockIn _ _) => decide (s.phase = .setup) && !s.runInProgress
  | some .reopen => decide (s.phase = .run)

/-- The queue holds at most one entry per channel (06 R129), and n never stands above SLOTS (06 R128). -/
def State.queueConsistent (s : State) : Bool :=
  decide ((s.arb.queue.map Entry.channel).Nodup) && decide (s.slotsHeld ≤ s.glob.slots)

/-- While a collection runs no response is pending (09 R180). -/
def collectorConsistent (t : TrunkPort) : Bool :=
  match t.collector with
  | .idle => true
  | .collecting _ => t.response.isNone

/-- The blocks of the part agree with one another. -/
def State.consistent (s : State) : Bool :=
  octIndexes.all s.channelConsistent && octIndexes.all s.nodeConsistent && s.phaseConsistent && s.queueConsistent &&
  collectorConsistent s.trk

end Sys2Proof.Machine
end

