-- ==== Sys2Proof/Certificates/Slice0/Obligations.lean ====
section
/-! DEFINITION. The statements about the part, for the provers. -/

namespace Sys2Proof.Claim

open Sys2Proof.Machine

/-! ### What several statements speak of -/

/-- A management command on this path comes to dispatch and passes its check of STORE_BUSY: no reset is held, no store
write is in flight, and a COMMAND frame does not come in RUN (09 R179). -/
def dispatched (path : Path) (s : State) : Prop :=
  s.rst.active = false ∧ s.stg.write = none ∧ (path = .command → s.stg.phase ≠ .run)

/-- The state with an answer that triggers no reset delivered on its path (09 R174, R180): a RESPONSE added to the list
unless 4 answers stand there, or the pending side response, its first fragment next. -/
def delivered (path : Path) (r : Reply) (s : State) : State :=
  match path with
  | .command =>
    { s with trk := { s.trk with
        rx := .hunt
        answers := if s.trk.answers.length < 4 then s.trk.answers ++ [{ body := .response r, resets := false }]
          else s.trk.answers } }
  | .side => { s with trk := { s.trk with collector := .idle, response := some { reply := r, next := 1 } } }

/-- An answer OK with its data bits. -/
def ok (code : Byte) (data : BitVec 48) : Reply := { code := code, status := .ok, data := data }

/-- An answer with another status: data 0 (09 R179). -/
def denied (code : Byte) (status : Status) : Reply := { code := code, status := status, data := 0 }

/-- The state with the unit of one channel changed. -/
def withUnit (s : State) (c : Chan) (f : ChannelUnit → ChannelUnit) : State :=
  { s with chans := s.chans.set c (f (s.chans.get c)) }

/-- The target of a PRESET: the setting its index names, no further than the travel (01 R21). -/
def presetTo (s : State) (c : Chan) (o : Order) : Int :=
  (min (s.stg.image.chan.get c).travel ((s.stg.image.chan.get c).presetOf o.preset) : Nat)

/-- The order has this direction: open for the open kinds, close for the close kinds, toward the target for a PRESET (01 R21). -/
def goes (s : State) (c : Chan) (o : Order) : Dir → Prop
  | .toOpen => o.kind = .openHeld ∨ o.kind = .openExpress ∨ (o.kind = .preset ∧ (s.chans.get c).ctl.pos < presetTo s c o)
  | .toClosed => o.kind = .closeHeld ∨ o.kind = .closeExpress ∨ (o.kind = .preset ∧ presetTo s c o < (s.chans.get c).ctl.pos)

/-- The order is one into motion that is taken with no motion: a PRESET at its target, or an open order of a referenced channel
at or past its travel (01 R21). -/
def staysPut (s : State) (c : Chan) (o : Order) : Prop :=
  (o.kind = .preset ∧ presetTo s c o = (s.chans.get c).ctl.pos) ∨
  ((o.kind = .openHeld ∨ o.kind = .openExpress) ∧ (s.chans.get c).ctl.referenced = true ∧
    ((s.stg.image.chan.get c).travel : Int) ≤ (s.chans.get c).ctl.pos)

/-- The motion or entry the channel carries: the items of its entry while WAITING, its motion record while OPENING or CLOSING
(01 R2). -/
def carries (s : State) (c : Chan) (m : Motion) : Prop :=
  ((s.chans.get c).ctl.st = .waiting ∧ (s.arb.queue.find? fun e => decide (e.channel = c)).map Entry.motion = some m) ∨
  (((s.chans.get c).ctl.st = .opening ∨ (s.chans.get c).ctl.st = .closing) ∧ (s.chans.get c).ctl.motion = some m)

/-- The field of a frame ends the held motion or entry that the channel carries: it is no order of its direction (01 R19). -/
def heldEnds (s : State) (c : Chan) (o : Order) : Prop :=
  ∃ m : Motion, carries s c m ∧ m.origin = .held ∧ ¬goes s c o m.dir

/-- The order is taken: a held kind in every frame, STOP, an express kind and PRESET where the field is changed (01 R18). -/
def taken (s : State) (c : Chan) (o : Order) : Prop :=
  o.kind = .openHeld ∨ o.kind = .closeHeld ∨ (o ≠ (s.chans.get c).ctl.lastOrder ∧ o.kind ≠ .none)

/-- The state with an order into motion joined to the start queue at its tail: the channel waits, its latched conditions clear,
and a held kind starts the hold timer (01 R23, R27). -/
def joined (s : State) (c : Chan) (o : Order) (d : Dir) : State :=
  let held := o.kind = .openHeld ∨ o.kind = .closeHeld
  { withUnit s c (fun u => { u with ctl := { u.ctl with
      st := .waiting
      latched := { blindStop := false, drift := false, profileRepaired := false, orderRefused := false,
                   startTimeout := false }
      hold := if held then some (s.now + 2 * s.stg.image.glob.holdTimeout) else none } }) with
    arb := { s.arb with queue := s.arb.queue ++
      [{ channel := c, join := s.now, expiry := s.now + 100 * s.stg.image.glob.queueTimeout,
         motion := { dir := d, cls := o.source, origin := if held then .held else .latched
                     target := if o.kind = .preset then some (presetTo s c o) else none } }] } }

/-- The state with the working image changed. -/
def withImage (s : State) (f : Image → Image) : State := { s with stg := { s.stg with image := f s.stg.image } }

/-- A unit that has left motion or the queue for the state `dst`: its motion record, hold timer and reversal target
ended, and the engine's stroke closed if it was CLOSING (01 R19, 02 R32). -/
def stopped (u : ChannelUnit) (dst : ChanState) : ChannelUnit :=
  { u with
    ctl := { u.ctl with st := dst, motion := none, hold := none }
    rev := { u.rev with target := none }
    eng := if u.ctl.st = .closing then { u.eng with acc := 0, first := false, blank := 0 } else u.eng }

/-- The state with a channel stopped in IDLE: its slot released and its entry removed (01 R19, R22, R26). -/
def idled (s : State) (c : Chan) (f : ChannelUnit → ChannelUnit) : State :=
  { withUnit s c (fun u => f (stopped u .idle)) with
    arb := { s.arb with slots := s.arb.slots.set c false
                        queue := s.arb.queue.filter fun e => decide (e.channel ≠ c) } }

/-- A timer runs and has been reached. -/
def reached (timer : Option Nat) (now : Nat) : Prop := ∃ t, timer = some t ∧ t ≤ now

/-- What falls due at an instant, as a command: the timers reached by then, and the transmitter's next event (log 2). -/
def dueAt (s : State) (now : Nat) : Instr → Prop
  | .holdTimerExpiry c => reached (s.chans.get c).ctl.hold now
  | .queueTimeout c => ∃ e ∈ s.arb.queue, e.channel = c ∧ e.expiry ≤ now
  | .escalationWindowExpiry c => reached (s.chans.get c).rev.window now
  | .trunkLoss => reached s.trk.lossTimer now
  | .checkStep => reached s.stg.checkTimer now
  | .branchCycleStart => reached s.br.timer now
  | .busOffExpiry => s.enr.st = .busOff ∧ reached s.enr.settle now
  | .nodeSettleExpiry => s.enr.st = .settle ∧ reached s.enr.settle now
  | .reportAssembly => ∃ side resets rest, s.trk.answers = { body := .report side none, resets := resets } :: rest
  | .answerSent => ∃ a rest, s.trk.answers = a :: rest ∧ ∀ side, a.body ≠ .report side none
  | _ => False

/-- No inhibit cause. -/
def noCauses : Causes := { nodeLost := false, nodeFault := false, undervolt := false }

/-- No latched condition. -/
def noneLatched : Latched :=
  { blindStop := false, drift := false, profileRepaired := false, orderRefused := false, startTimeout := false }

/-- The channel is bound: its NODE_ADDR names an address with a record, no lower channel carries it, and no enrollment run is in
progress (01 R4). -/
def bound (s : State) (c : Chan) : Prop :=
  (∃ a : Node, (s.stg.image.chan.get c).nodeAddr = a.val + 1 ∧ (s.enr.table.get a).isSome = true) ∧
  (∀ d : Chan, d < c → (s.stg.image.chan.get d).nodeAddr ≠ (s.stg.image.chan.get c).nodeAddr) ∧ s.enr.st = .idle

/-- Every channel is ABSENT exactly where it is not bound (01 R4). -/
def bindingStands (s : State) : Prop := ∀ c : Chan, (s.chans.get c).ctl.st = .absent ↔ ¬bound s c

/-- The supply context when the binding changes: all afresh but the stroke mask count (06 R121). -/
def freshSupply (u : SupplyContext) : SupplyContext :=
  { undervolt := false, lowRun := 0, highRun := 0, mask := 0, prev := none, strokeMask := u.strokeMask }

/-- A unit that has become bound to a record: IDLE, or INHIBITED with the cause the record gives, unreferenced at 0 with no
counter base (01 R4). -/
def boundUnit (u : ChannelUnit) (r : NodeRecord) : ChannelUnit :=
  { u with
    ctl := { u.ctl with
      st := if r.st = .enrolled then .idle else .inhibited
      referenced := false, pos := 0, base := none
      causes := { nodeLost := decide (r.st = .lost), nodeFault := decide (r.st = .mismatch), undervolt := false } }
    sup := freshSupply u.sup }

/-- A unit that has become unbound: what it carried ended, ABSENT, unreferenced with no counter base and no inhibit cause, a
running teach failed with INHIBITED (01 R4, 03 R84). -/
def unboundUnit (u : ChannelUnit) : ChannelUnit :=
  { stopped u .absent with
    ctl := { (stopped u .absent).ctl with
      referenced := false, base := none, causes := { nodeLost := false, nodeFault := false, undervolt := false } }
    prof := if u.prof.teach = .running then
        { u.prof with teach := .failed .inhibited, teachVisited := if u.ctl.st = .closing then u.prof.visited else 0 }
      else u.prof
    sup := freshSupply u.sup }

/-- The channel is OPENING, CLOSING or REVERSING (01 R2). -/
def moves (s : State) (c : Chan) : Prop :=
  (s.chans.get c).ctl.st = .opening ∨ (s.chans.get c).ctl.st = .closing ∨ (s.chans.get c).ctl.st = .reversing

/-- The state with the place in the branch cycle moved on. -/
def atPlace (s : State) (n : Nat) : State := { s with br := { s.br with place := n } }

/-- A running part whose reply slot `a + 1` is the next to end, which the enrollment unit does not read, brings a GOOD sample
of a MISMATCH or of an ENROLLED node, short of a window end, to the channel `c` bound to it. -/
def bringsOf (mismatch : Bool) (s : State) (a : Node) (c : Chan) (content : SlotContent) (m : Sample) : Prop :=
  s.rst.active = false ∧ s.br.place = a.val ∧ s.enr.reading ≠ some a ∧
  (∃ r : NodeRecord, s.enr.table.get a = some r ∧ r.st = if mismatch then .mismatch else .enrolled) ∧
  slotOutcome (s.br.nodes.get a).keep content = .good m ∧ s.channelOf a = some c ∧
  (s.br.nodes.get a).winPos + 1 < 64 * 2 ^ s.stg.image.glob.gradeWindow

/-- Such a part brings a GOOD sample of an ENROLLED node. -/
def brings (s : State) (a : Node) (c : Chan) (content : SlotContent) (m : Sample) : Prop := bringsOf false s a c content m

/-- The supply context after a sample of a channel that is CLOSING once the channel controller has applied it: the voltage stage,
and with the mask active the stroke mask count raised by 1, held at 1023 (06 R122, R126). -/
def closingSupply (g : GlobSettings) (v : Nat) (u : SupplyContext) : SupplyContext :=
  let t := voltageStage g v u
  { t with strokeMask := if 0 < t.mask then min 1023 (t.strokeMask + 1) else t.strokeMask }

/-- A node is lost: its record LOST, with a mismatch mark if it was MISMATCH, its address in the schedule, its context with
grades and window at 0; the bound channel has NODE_LOST, is INHIBITED by it, and loses its reference if it is in motion (07 R156,
R161, 08 R172, 01 R5, R6). -/
def losesNode (s t : State) (a : Node) (r : NodeRecord) (n : NodeContext) : Prop :=
  t.enr = { s.enr with
    table := s.enr.table.set a (some { r with st := .lost, mark := r.mark || decide (r.st = .mismatch) })
    schedule := s.enr.schedule.set a true, rejoinCount := t.enr.rejoinCount } ∧
  ((∀ b : Node, s.enr.schedule.get b = false) → t.enr.rejoinCount = 0) ∧
  ((∃ b : Node, s.enr.schedule.get b = true) → t.enr.rejoinCount = s.enr.rejoinCount) ∧
  t.br = { s.br with nodes := s.br.nodes.set a { n with winPos := 0, winBad := 0, grade := 0, worst := 0 } } ∧
  t.stg = s.stg ∧ t.trk = s.trk ∧ t.ctx = s.ctx ∧
  (∀ d : Chan, s.channelOf a ≠ some d → t.chans.get d = s.chans.get d) ∧
  (∀ c : Chan, s.channelOf a = some c →
    (t.chans.get c).ctl.causes = { (s.chans.get c).ctl.causes with nodeLost := true } ∧
    ((s.chans.get c).ctl.causes = noCauses →
      (t.chans.get c).ctl.st = .inhibited ∧ t.arb.slots.get c = false ∧ t.entryOf c = none) ∧
    (moves s c → (t.chans.get c).ctl.referenced = false) ∧
    (¬moves s c → (t.chans.get c).ctl.referenced = (s.chans.get c).ctl.referenced))

/-- The drive word `after` is `before` with the assign field of an address: the drive commands stand, and the CRC-8 is that of the
24 bits before it (07 R145, 11 R192). -/
def assigns (before after : BitVec 32) (address : Nat) : Prop :=
  after.extractLsb' 16 16 = before.extractLsb' 16 16 ∧ after.extractLsb' 8 8 = BitVec.ofNat 8 address ∧
  after.extractLsb' 0 8 = crc8 ((driveLineBits after).take 24)

/-- A word as its two bytes, high byte first (11 R190). -/
def wordBytes (w : BitVec 16) : List Byte := [w.extractLsb' 8 8, w.extractLsb' 0 8]

/-- A trunk frame of a kind with its payload and a CRC-16: start byte, kind, length, payload, CRC-16 (11 R190). -/
def frameWith (crc : BitVec 16) (kind : Byte) (payload : List Byte) : List Byte :=
  0xA5 :: kind :: BitVec.ofNat 8 payload.length :: (payload ++ wordBytes crc)

/-- The CRC-16 of a frame: over kind, length and payload (11 R190). -/
def frameCrc (kind : Byte) (payload : List Byte) : BitVec 16 := crc16 (kind :: BitVec.ofNat 8 payload.length :: payload)

/-- The payload bytes of a CYCLE frame (11 R190). -/
def cyclePayload (p : CyclePayload) : List Byte :=
  [p.speed, p.temp, p.rough, p.flags, p.orders.a0, p.orders.a1, p.orders.a2, p.orders.a3, p.orders.a4, p.orders.a5,
   p.orders.a6, p.orders.a7, p.marker, p.fragment.extractLsb' 8 8, p.fragment.extractLsb' 0 8, p.zero]

/-- The payload bytes of a COMMAND frame (11 R191). -/
def commandPayload : CommandPayload → List Byte
  | .short b => [b.a0, b.a1, b.a2, b.a3, b.a4, b.a5, b.a6, b.a7]
  | .long code channel first v => code :: channel :: first ::
      (wordBytes v.a0 ++ wordBytes v.a1 ++ wordBytes v.a2 ++ wordBytes v.a3 ++ wordBytes v.a4 ++ wordBytes v.a5 ++
       wordBytes v.a6 ++ wordBytes v.a7)

/-- The bytes of a channel entry of a REPORT, high byte first (11 R190). -/
def entryBytes (e : BitVec 32) : List Byte :=
  [e.extractLsb' 24 8, e.extractLsb' 16 8, e.extractLsb' 8 8, e.extractLsb' 0 8]

/-- The payload bytes of a REPORT frame (11 R190). -/
def reportPayload (side : SideField) (b : ReportBody) : List Byte :=
  wordBytes b.part ++ entryBytes b.entries.a0 ++ entryBytes b.entries.a1 ++ entryBytes b.entries.a2 ++
  entryBytes b.entries.a3 ++ entryBytes b.entries.a4 ++ entryBytes b.entries.a5 ++ entryBytes b.entries.a6 ++
  entryBytes b.entries.a7 ++ side.marker :: wordBytes side.fragment

/-- The payload bytes of a RESPONSE frame: code echo, status, 48 data bits (11 R191). -/
def responsePayload (r : Reply) : List Byte :=
  [r.code, BitVec.ofNat 8 (Status.code r.status), r.data.extractLsb' 40 8, r.data.extractLsb' 32 8,
   r.data.extractLsb' 24 8, r.data.extractLsb' 16 8, r.data.extractLsb' 8 8, r.data.extractLsb' 0 8]

/-- The channel has no inhibit cause, and the sample raises none: it has neither fault flag, and the supply monitor's voltage stage
leaves UNDERVOLT clear (01 R5, 06 R122, R123). -/
def healthy (s : State) (c : Chan) (m : Sample) : Prop :=
  (s.chans.get c).ctl.causes = noCauses ∧ m.hallFault = false ∧ m.overtemp = false ∧
  (voltageStage s.stg.image.glob m.volt.toNat (s.chans.get c).sup).undervolt = false

/-- A motion record of the channel has no preset target, or one that a CLOSING channel at the position `p` has not reached
(01 R14). -/
def targetAhead (s : State) (c : Chan) (p : Int) : Prop :=
  ∀ (m : Motion) (g : Int), (s.chans.get c).ctl.motion = some m → m.target = some g → g < p

/-- A blind channel in motion is stopped: IDLE, its stroke closed, BLIND_STOP latched, its reversal target gone, a running teach
failed with BLIND, and all else as it was (07 R155, 01 R26, 02 R32, 03 R84). -/
def blindStopped (u : ChannelUnit) : ChannelUnit :=
  { stopped u .idle with
    ctl := { (stopped u .idle).ctl with latched := { u.ctl.latched with blindStop := true } }
    prof := if u.prof.teach = .running then
        { u.prof with teach := .failed .blind, teachVisited := if u.ctl.st = .closing then u.prof.visited else 0 }
      else u.prof }

/-- The peak ratio after step 8 of a closing sample whose accumulator it takes is `acc` (02 R60). -/
def peakAfter (u : ChannelUnit) (cs : ChanSettings) (acc : Nat) : Nat :=
  max u.eng.peak (min acc cs.tripLevel * 255 / cs.tripLevel)

/-- A word as its bits, most significant first (11 R192). -/
def bitsDown {n : Nat} (w : BitVec n) : List Bool := (List.range n).map fun i => w.getLsbD (n - 1 - i)

/-- The 40 bits of a sample frame before its CRC-8 (11 R192). -/
def sampleBody (m : Sample) : BitVec 40 :=
  m.counter ++ m.current ++ m.volt ++ BitVec.ofBool m.atEnd ++ BitVec.ofBool m.hallFault ++ BitVec.ofBool m.overtemp ++
  BitVec.ofBool m.freshStart ++ m.keep ++ 0#2

/-- The 48 bits of an identity frame before its CRC-8 (11 R192). -/
def identityBody (m : Identity) : BitVec 48 := m.cls ++ m.tag ++ m.rated ++ 0#4

/-- A frame of the branch: its body and the CRC-8 over it (11 R192). -/
def branchFrame {n : Nat} (body : BitVec n) : List Bool := bitsDown body ++ bitsDown (crc8 (bitsDown body))

/-- The delta of a sample against a counter base (01 R10). -/
def deltaFrom (m : Sample) (o : BitVec 12) : Int := ((m.counter.toNat : Int) - o.toNat + 2048) % 4096 - 2048

/-- The most that a plausible delta can be (01 R11). -/
def edgeBound (s : State) (a : Node) (c : Chan) : Int :=
  ((s.stg.image.chan.get c).edgeMax * (s.br.nodes.get a).since : Nat)

/-- A LOST record comes back at its place in the cycle: ENROLLED where the node is known to be its own, else MISMATCH, its
identity kept, at grade 4 and out of the schedule; NODE_LOST leaves the bound channel, with NODE_FAULT in its place for MISMATCH,
and its reference stands (08 R172, 07 R162, 01 R5). -/
def rejoined (s t : State) (a : Node) (r : NodeRecord) (whole : Prop) (place : Nat) : Prop :=
  (∃ r' : NodeRecord, t.enr.table = s.enr.table.set a (some r') ∧ r' = { r with st := r'.st, mark := false } ∧
    (whole → r'.st = .enrolled) ∧ (¬whole → r'.st = .mismatch)) ∧
  t.enr.schedule = s.enr.schedule.set a false ∧
  t.br = { s.br with
    place := place
    nodes := s.br.nodes.set a { s.br.nodes.get a with grade := 4, badRun := 0, winPos := 0, winBad := 0, keep := none } } ∧
  (∀ d : Chan, s.channelOf a ≠ some d → t.chans.get d = s.chans.get d) ∧
  (∀ c : Chan, s.channelOf a = some c →
    (t.chans.get c).ctl.causes.nodeLost = false ∧
    (t.chans.get c).ctl.causes.undervolt = (s.chans.get c).ctl.causes.undervolt ∧
    ((t.chans.get c).ctl.causes.nodeFault = true ↔ (s.chans.get c).ctl.causes.nodeFault = true ∨ ¬whole) ∧
    (t.chans.get c).ctl.referenced = (s.chans.get c).ctl.referenced) ∧
  t.stg = s.stg ∧ t.trk = s.trk

/-- What a sample of one node leaves alone: the other channels, their slots and entries, and the blocks that no sample
reaches. -/
def sampleFrame (s t : State) (c : Chan) : Prop :=
  (∀ d : Chan, d ≠ c → t.chans.get d = s.chans.get d ∧ t.arb.slots.get d = s.arb.slots.get d ∧ t.entryOf d = s.entryOf d) ∧
  t.enr = s.enr ∧ t.trk = s.trk ∧ t.ctx = s.ctx ∧ t.rst = s.rst ∧ t.now = s.now ∧ t.pending = s.pending

/-- The kinds of a SLIDER's side: the panel-moving flag of its side is set (05 R112, 06 R134). -/
def sideMoving (s : State) (c : Chan) : Prop :=
  (s.stg.image.chan.get c).closure = .slider ∧
    (((s.stg.image.chan.get c).onSide = .left ∧ s.ctx.movingL = true) ∨
      ((s.stg.image.chan.get c).onSide = .right ∧ s.ctx.movingR = true))

/-- The order of the classes at a grant: USER, RAIN, GLOBAL (06 R134). -/
def classRank : Source → Nat
  | .user => 0
  | .rain => 1
  | .global => 2

/-- The last order field of a channel's record becomes this order. -/
def noted (s : State) (c : Chan) (o : Order) : State :=
  withUnit s c fun u => { u with ctl := { u.ctl with lastOrder := o } }

/-- An order byte and its order once normalised: bits 2..0 kind, 4..3 source, 6..5 preset index; a reserved kind is NONE, a
reserved source GLOBAL, and a held kind from RAIN or GLOBAL is express (01 R18 step 1, 11 R190). -/
def normalises (b : Byte) (o : Order) : Prop :=
  let kind := b.toNat % 8
  let source := b.toNat / 8 % 4
  o.preset.val = b.toNat / 32 % 4 ∧
  o.source = (if source = 0 then Source.user else if source = 1 then .rain else .global) ∧
  o.kind = (if kind = 1 then OrderKind.stop
    else if kind = 2 then (if source = 0 then .openHeld else .openExpress)
    else if kind = 3 then (if source = 0 then .closeHeld else .closeExpress)
    else if kind = 4 then .openExpress else if kind = 5 then .closeExpress else if kind = 6 then .preset else .none)

/-- The link grade of the node bound to a channel, 0 for an ABSENT channel (07 R162). -/
def gradeOf (s : State) (c : Chan) : Nat :=
  if h : 1 ≤ (s.stg.image.chan.get c).nodeAddr ∧ (s.stg.image.chan.get c).nodeAddr ≤ 8 then
    if (s.chans.get c).ctl.st = .absent then 0 else (s.br.nodes.get ⟨(s.stg.image.chan.get c).nodeAddr - 1, by omega⟩).grade
  else 0

/-- The order is a held USER order. -/
def heldUser (o : Order) : Prop := (o.kind = .openHeld ∨ o.kind = .closeHeld) ∧ o.source = .user

/-- The order is one into motion. -/
def wantsMotion (o : Order) : Prop := o.kind ≠ .none ∧ o.kind ≠ .stop

/-- The order closes: CLOSE_HELD, CLOSE_EXPRESS, or a PRESET toward closed (01 R20, R21). -/
def wantsClose (s : State) (c : Chan) (o : Order) : Prop := goes s c o .toClosed

/-- When each refusal check applies, named by its reason (01 R20). -/
def checkApplies (s : State) (c : Chan) (o : Order) : RefusalReason → Prop
  | .notReady => s.stg.phase = .starting
  | .absent => (s.chans.get c).ctl.st = .absent
  | .inhibited => (s.chans.get c).ctl.st = .inhibited
  | .reversing => (s.chans.get c).ctl.st = .reversing
  | .fallback => s.stg.configFault = true ∧ wantsMotion o ∧ ¬heldUser o
  | .notCommissioned => s.stg.phase = .setup ∧ wantsMotion o ∧ ¬heldUser o
  | .unreferenced => (s.chans.get c).ctl.referenced = false ∧ wantsMotion o ∧ ¬heldUser o
  | .escalated => wantsClose s c o ∧ ¬heldUser o ∧ (s.chans.get c).rev.level = 3
  | .lockout => wantsClose s c o ∧ ¬heldUser o ∧ 1 ≤ (s.chans.get c).rev.level
  | .degraded => wantsClose s c o ∧ gradeOf s c ≤ s.stg.image.glob.degradedGrade ∧
    (o.kind = .closeExpress ∨ o.source = .rain ∨ o.source = .global)

/-- The numbers of the refusal checks (01 R20). -/
def checkNumber : RefusalReason → Nat
  | .notReady => 1
  | .absent => 2
  | .inhibited => 3
  | .reversing => 4
  | .fallback => 5
  | .notCommissioned => 6
  | .unreferenced => 7
  | .escalated => 8
  | .lockout => 9
  | .degraded => 10

/-- The channel conditions by their codes (01 R29). -/
def conditionPresent (s : State) (c : Chan) : Nat → Prop
  | 1 => (s.chans.get c).ctl.st = .absent
  | 2 => (s.chans.get c).ctl.causes.nodeLost = true
  | 3 => (s.chans.get c).ctl.causes.nodeFault = true
  | 4 => (s.chans.get c).ctl.causes.undervolt = true
  | 5 => s.stg.configFault = true
  | 6 => (s.chans.get c).ctl.st = .reversing
  | 7 => 0 < (s.chans.get c).rev.level
  | 8 => (s.chans.get c).ctl.latched.blindStop = true
  | 9 => (s.chans.get c).ctl.referenced = false
  | 10 => gradeOf s c ≤ s.stg.image.glob.degradedGrade
  | 11 => (s.chans.get c).ctl.latched.drift = true
  | 12 => (s.chans.get c).ctl.latched.profileRepaired = true
  | 13 => (s.chans.get c).ctl.latched.orderRefused = true
  | 14 => (s.chans.get c).ctl.latched.startTimeout = true
  | 15 => (s.chans.get c).ctl.st = .waiting
  | 16 => s.stg.phase = .setup
  | _ => False

/-- The part conditions by their codes (09 R177). -/
def partPresent (s : State) : Nat → Prop
  | 1 => s.stg.write ≠ none
  | 2 => s.stg.configFault = true
  | 3 => s.stg.storeInvalid = true
  | 4 => s.stg.storeFail = true
  | 5 => s.enr.mismatch = true
  | 6 => s.trk.wasLost = true
  | 7 => s.trk.sideAbort = true
  | _ => False

/-- The code carried for a set of conditions: the lowest present, which has the highest priority, or 0 (01 R29, 09 R176). -/
def carriedCode (present : Nat → Prop) (n : Nat) : Prop :=
  (present n ∧ ∀ k, k < n → ¬present k) ∨ (n = 0 ∧ ∀ k, ¬present k)

/-- The stroke record takes the entry of a sample: left out when blanked or masked, else it raises the peak of its bin, and
an unvisited bin becomes visited (03 R74). -/
def strokeTakes (before after : ProfileContext) (b : Fin 64) (effort : Nat) (leftOut : Prop) : Prop :=
  after.marks = before.marks ∧
  (leftOut → after.stroke = before.stroke ∧ after.visited = before.visited) ∧
  (¬leftOut → (∀ x : Fin 64, x ≠ b → after.stroke.get x = before.stroke.get x) ∧
    (before.stroke.get b = none → after.stroke.get b = some effort ∧
      (before.visited < 64 → after.visited = before.visited + 1)) ∧
    (∀ old, before.stroke.get b = some old → after.stroke.get b = some (max old effort) ∧ after.visited = before.visited))

/-- The row of a side command whose eight bytes have come: its code, its item for a READ, and the argument layouts of 11 R191,
an argument that is not used being ignored. Code 06h has no side form, and codes and items that name nothing have no row. -/
def sideRow (b : Oct Byte) : Option Instr :=
  let zone : BitVec 40 := b.a3 ++ b.a4 ++ b.a5 ++ b.a6 ++ b.a7
  match b.a0.toNat, b.a1.toNat with
  | 1, 1 => some (.readChannelStatus .side b.a2)
  | 1, 2 => some (.readTripRecordPart1 .side b.a2)
  | 1, 3 => some (.readTripRecordPart2 .side b.a2)
  | 1, 4 => some (.readPeakRatio .side b.a2)
  | 1, 5 => some (.readLinkGrade .side b.a2)
  | 1, 6 => some (.readNodeIdentity .side b.a2)
  | 1, 7 => some (.readSettingValue .side b.a2 b.a3)
  | 1, 8 => some (.readBaselineBin .side b.a2 b.a3)
  | 1, 9 => some (.readWorkingBin .side b.a2 b.a3)
  | 1, 10 => some (.readZoneRecord .side b.a2 b.a3)
  | 1, 11 => some (.readRefusalReason .side b.a2)
  | 1, 12 => some (.readTeachResult .side b.a2)
  | 1, 13 => some (.readPartStatus .side)
  | 1, 14 => some (.readCheckValue .side)
  | 2, _ => some (.restorePosition .side b.a1 (b.a2 ++ b.a3))
  | 3, _ => some (.resetPart .side)
  | 4, _ => some (.reopen .side)
  | 5, _ => some (.writeSetting .side b.a1 b.a2 (b.a3 ++ b.a4))
  | 7, _ => some (.setZone .side b.a1 b.a2 (zone.extractLsb' 27 13) (zone.extractLsb' 14 13) (zone.extractLsb' 10 4)
      (zone.extractLsb' 2 8))
  | 8, _ => some (.clearZones .side b.a1)
  | 9, _ => some (.teach .side b.a1)
  | 10, _ => some (.lockIn .side)
  | 11, _ => some (.enroll .side)
  | _, _ => none

/-- The code of a row that came through the side channel; code 06h has no side form (11 R191, 09 R180). -/
def sideCode : Instr → Option Byte
  | .readChannelStatus .side _ => some 1
  | .readTripRecordPart1 .side _ => some 1
  | .readTripRecordPart2 .side _ => some 1
  | .readPeakRatio .side _ => some 1
  | .readLinkGrade .side _ => some 1
  | .readNodeIdentity .side _ => some 1
  | .readSettingValue .side _ _ => some 1
  | .readBaselineBin .side _ _ => some 1
  | .readWorkingBin .side _ _ => some 1
  | .readZoneRecord .side _ _ => some 1
  | .readRefusalReason .side _ => some 1
  | .readTeachResult .side _ => some 1
  | .readPartStatus .side => some 1
  | .readCheckValue .side => some 1
  | .restorePosition .side _ _ => some 2
  | .resetPart .side => some 3
  | .reopen .side => some 4
  | .writeSetting .side _ _ _ => some 5
  | .setZone .side _ _ _ _ _ _ => some 7
  | .clearZones .side _ => some 8
  | .teach .side _ => some 9
  | .lockIn .side => some 10
  | .enroll .side => some 11
  | _ => none

/-- A COMMAND payload of 8 bytes: the code, then 56 argument bits from bit 55 downward (11 R191). -/
def shortFrame (code : Byte) (arguments : BitVec 56) : CommandPayload :=
  .short { a0 := code, a1 := arguments.extractLsb' 48 8, a2 := arguments.extractLsb' 40 8
           a3 := arguments.extractLsb' 32 8, a4 := arguments.extractLsb' 24 8, a5 := arguments.extractLsb' 16 8
           a6 := arguments.extractLsb' 8 8, a7 := arguments.extractLsb' 0 8 }

/-- The COMMAND payload of a row that came in a COMMAND frame, by the argument layouts of 11 R191. -/
def commandFrame : Instr → Option CommandPayload
  | .readChannelStatus .command ch => some (shortFrame 1 (1#8 ++ ch ++ 0#40))
  | .readTripRecordPart1 .command ch => some (shortFrame 1 (2#8 ++ ch ++ 0#40))
  | .readTripRecordPart2 .command ch => some (shortFrame 1 (3#8 ++ ch ++ 0#40))
  | .readPeakRatio .command ch => some (shortFrame 1 (4#8 ++ ch ++ 0#40))
  | .readLinkGrade .command ch => some (shortFrame 1 (5#8 ++ ch ++ 0#40))
  | .readNodeIdentity .command address => some (shortFrame 1 (6#8 ++ address ++ 0#40))
  | .readSettingValue .command ch id => some (shortFrame 1 (7#8 ++ ch ++ id ++ 0#32))
  | .readBaselineBin .command ch bin => some (shortFrame 1 (8#8 ++ ch ++ bin ++ 0#32))
  | .readWorkingBin .command ch bin => some (shortFrame 1 (9#8 ++ ch ++ bin ++ 0#32))
  | .readZoneRecord .command ch index => some (shortFrame 1 (10#8 ++ ch ++ index ++ 0#32))
  | .readRefusalReason .command ch => some (shortFrame 1 (11#8 ++ ch ++ 0#40))
  | .readTeachResult .command ch => some (shortFrame 1 (12#8 ++ ch ++ 0#40))
  | .readPartStatus .command => some (shortFrame 1 (13#8 ++ 0#48))
  | .readCheckValue .command => some (shortFrame 1 (14#8 ++ 0#48))
  | .restorePosition .command ch position => some (shortFrame 2 (ch ++ position ++ 0#32))
  | .resetPart .command => some (shortFrame 3 0)
  | .reopen .command => some (shortFrame 4 0)
  | .writeSetting .command ch id value => some (shortFrame 5 (ch ++ id ++ value ++ 0#24))
  | .loadBaseline .command ch first values => some (.long 6 ch first values)
  | .setZone .command ch index start stop kind adjust =>
    some (shortFrame 7 (ch ++ index ++ start ++ stop ++ kind ++ adjust ++ 0#2))
  | .clearZones .command ch => some (shortFrame 8 (ch ++ 0#48))
  | .teach .command ch => some (shortFrame 9 (ch ++ 0#48))
  | .lockIn .command => some (shortFrame 10 0)
  | .enroll .command => some (shortFrame 11 0)
  | _ => none

/-- Every block of the part at its cold reset value, with branch cycles stopped and the bus power off (01 R3, 02 R30,
03 R63, 04 R88, 05 R107, 06 R121, R140, 07 R148, 08 R167, R168, 09 R173 to R180, 10 R186, R189). -/
def coldBlocks (s : State) : Prop :=
  (∀ c : Chan,
    (s.chans.get c).ctl =
      { st := .absent, referenced := false, pos := 0, base := none, motion := none, hold := none,
        lastOrder := { kind := .none, source := .user, preset := 0 }, refusal := none,
        latched := { blindStop := false, drift := false, profileRepaired := false, orderRefused := false,
                     startTimeout := false },
        causes := { nodeLost := false, nodeFault := false, undervolt := false } } ∧
    (s.chans.get c).eng =
      { f16 := 0, first := false, acc := 0, blank := 0, peak := 0, tripFlag := false,
        trip := { cause := none, pos := 0, bin := 0, f := 0, r := 0, t := 0, a := 0, level := 0, speed := 0, stamp := 0 } } ∧
    (s.chans.get c).readCopy = (s.chans.get c).eng.trip ∧
    (s.chans.get c).prof.visited = 0 ∧ (s.chans.get c).prof.teach = .none ∧ (s.chans.get c).prof.teachVisited = 0 ∧
    (s.chans.get c).prof.marks = { openedInRun := false, escZero := false, teachStroke := false } ∧
    (∀ b : Fin 64, (s.chans.get c).prof.stroke.get b = none) ∧
    (s.chans.get c).rev = { target := none, level := 0, window := none } ∧
    (s.chans.get c).sup = { undervolt := false, lowRun := 0, highRun := 0, mask := 0, prev := none, strokeMask := 0 } ∧
    s.arb.slots.get c = false) ∧
  s.ctx = { speed := 0, rough := 0, temp := 25, crank := false, movingL := false, movingR := false, fresh := false } ∧
  s.arb.queue = [] ∧ s.arb.stagger = 0 ∧
  (∀ a : Node, s.br.nodes.get a =
    { keep := none, since := 1, badRun := 0, winPos := 0, winBad := 0, grade := 0, worst := 0 }) ∧
  (∀ a : Node, s.enr.table.get a = none ∧ s.enr.schedule.get a = false) ∧
  s.enr.offer = 0 ∧ s.enr.miss = 0 ∧ s.enr.rejoinCount = 0 ∧ s.enr.mismatch = false ∧
  s.trk = { rx := .hunt, answers := [], lossTimer := none, collector := .idle, response := none, wasLost := false,
            sideAbort := false, resetArmed := false } ∧
  s.stg.phase = .starting ∧ s.stg.write = none ∧
  s.stg.scanPos = 0 ∧ s.stg.lastPass = none ∧ s.stg.checkTimer = none ∧ s.now = 0

/-- What the working settings of a reset read are (10 R186): the store's image where the store verifies, else the factory
defaults; RUN is chosen, with the stored check value locked, where it also carries the mark; STORE_INVALID where it was
written and fails to verify. -/
def storeRead (store : Store) (u : SettingsUnit) : Prop :=
  let good := store.written = true ∧ store.torn = false ∧ checkValue store.image = store.check
  (good → u.image = store.image ∧ u.storeInvalid = false) ∧
  (¬good → u.image = Image.factory ∧ u.storeInvalid = store.written) ∧
  (good ∧ store.mark = true → u.chosen = .run ∧ u.locked = some store.check) ∧
  (¬(good ∧ store.mark = true) → u.chosen = .setup ∧ u.locked = none) ∧
  u.storeFail = false ∧ u.configFault = false ∧ u.write = none ∧ u.lastPass = none ∧ u.scanPos = 0 ∧ u.store = store

end Sys2Proof.Claim

open Sys2Proof Sys2Proof.Machine Sys2Proof.Claim

/-! ### Steps, resets and supply -/

/-- The command at the front of the queue runs on the state with the queue's rest. -/
def Obligations.StepRunsFrontCommand : Prop :=
  ∀ (c : Instr) (rest : List Instr) (s : State), s.pending = c :: rest →
    step s = exec c { s with pending := rest }

/-- On an empty queue of a running part 0.5 ms passes and exactly the events that fall due wait in the queue, each once: the
timers reached, and the transmitter's next event. While a cold reset is held no time passes and its release waits once no
source holds it. That time passes so is the model's choice, log 2. -/
def Obligations.EmptyQueuePassesOneTick : Prop :=
  ∀ s : State, s.pending = [] →
    (s.rst.active = false → ∃ (q : List Instr) (k : Nat),
      step s = .next { s with now := s.now + 1, pending := q, freeCount := k } ∧ q.Nodup ∧
      ∀ i : Instr, i ∈ q ↔ dueAt s (s.now + 1) i) ∧
    (s.rst.active = true → step s = .next { s with
      pending := if s.rst.lineLow = false ∧ s.rst.supplyHold = false then [.coldStart] else [] })

/-- Every well-formed command of every row answers a next state; the one that is not well formed, a storage fault with
what no place of the part holds, faults: what the places hold is the model's choice, log 20. -/
def Obligations.WellFormedCommandsComplete : Prop :=
  ∀ (i : Instr) (s : State),
    (i.wellFormed = true → ∃ t, exec i s = .next t) ∧ (i.wellFormed = false → exec i s = .fault .valueNotHeld)

/-- State.reset holds every block at its cold reset value, just released: STARTING, node settle running, factory defaults,
SETUP chosen; every value in its range, and the blocks in agreement. That the store is blank and the cause POWER_ON is the
model's choice, log 6, as are the place in the cycle and the drive word before the first cycle start, log 28, and the first
branch period, log 29. -/
def Obligations.ResetStateIsTheReleaseOfAColdReset : Prop :=
  coldBlocks State.reset ∧ storeRead State.reset.stg.store State.reset.stg ∧ State.reset.stg.image = Image.factory ∧
  State.reset.stg.chosen = .setup ∧ State.reset.rst.active = false ∧ State.reset.rst.cause = .powerOn ∧
  State.reset.stg.store.written = false ∧ State.reset.enr.st = .settle ∧
  State.reset.enr.settle = some 40 ∧ State.reset.br.busPower = true ∧ State.reset.br.timer = some 4 ∧
  State.reset.br.place = 9 ∧ State.reset.br.driveWord = none ∧ State.reset.pending = [] ∧
  (∀ (c : Chan) (b : Fin 64), (State.reset.chans.get c).prof.working.get b = 0) ∧
  State.reset.inRange = true ∧ State.reset.consistent = true

/-- Each source of a cold reset, taken on a running part, sets every block to its cold reset value, records its cause and
keeps the nonvolatile store, which a write in flight leaves not verifying. STORE_INVALID, STORE_FAIL and the working settings stand
until the read at the release. That CONFIG_FAULT and the locked value stand until then too is the model's choice, log 26. -/
def Obligations.ColdResetSourcesResetEveryBlock : Prop :=
  ∀ (s : State), s.rst.active = false →
    let held := fun (t : State) (cause : ResetCause) =>
      coldBlocks t ∧ t.rst.active = true ∧ t.rst.cause = cause ∧ t.br.busPower = false ∧ t.enr.st = .busOff ∧
      t.br.timer = none ∧ t.stg.store.image = s.stg.store.image ∧ t.stg.store.mark = s.stg.store.mark ∧
      (s.stg.write = none → t.stg.store = s.stg.store) ∧
      (s.stg.write ≠ none → t.stg.store.written = true ∧ t.stg.store.torn = true) ∧
      t.stg.storeInvalid = s.stg.storeInvalid ∧ t.stg.storeFail = s.stg.storeFail ∧ t.stg.image = s.stg.image ∧
      t.stg.configFault = s.stg.configFault ∧ t.stg.locked = s.stg.locked ∧ t.pending = s.pending
    (∃ t, exec .powerOn s = .next t ∧ held t .powerOn ∧ t.rst.supplyHold = true ∧ t.rst.highCount = 0) ∧
    (∃ t, exec (.resetLine true) s = .next t ∧ held t .resetLine ∧ t.rst.lineLow = true) ∧
    (∀ vbat, vbat < 6000 → s.rst.supplyHold = false → s.rst.lowCount = 3 →
      ∃ t, exec (.supplySample vbat) s = .next t ∧ held t .supplyLow ∧ t.rst.supplyHold = true ∧ t.rst.highCount = 0)

/-- A source taken while a cold reset already holds lengthens it and changes neither the cause nor any other block;
RESET_N returning high lets go of that source alone. A sample of VBAT steps the low count while the monitor does not hold and
the high count while it holds; the fourth successive high sample ends the hold, and a sample that ends no run of four leaves
every other block alone. That every other command but the release and storage faults has no effect while a reset is held is
the model's choice, log 7; that POWER_ON lengthens a reset already held, log 9. -/
def Obligations.HeldResetIsLengthenedAndSamplesAreCounted : Prop :=
  (∀ s : State, s.rst.active = true →
    exec .powerOn s = .next { s with rst := { s.rst with supplyHold := true, highCount := 0 } } ∧
    exec (.resetLine true) s = .next { s with rst := { s.rst with lineLow := true } } ∧
    exec (.resetLine false) s = .next { s with rst := { s.rst with lineLow := false } } ∧
    (∀ vbat, ∃ r : ResetUnit, exec (.supplySample vbat) s = .next { s with rst := r } ∧ r.cause = s.rst.cause ∧
      r.active = true ∧ r.lineLow = s.rst.lineLow) ∧
    (∀ i : Instr, i ≠ .powerOn → (∀ low, i ≠ .resetLine low) → i ≠ .coldStart → (∀ v, i ≠ .supplySample v) →
      (∀ p, i ≠ .storageFault p) → exec i s = .next s)) ∧
  (∀ (s : State) (vbat : Nat),
    (s.rst.supplyHold = false → 6000 ≤ vbat →
      exec (.supplySample vbat) s = .next { s with rst := { s.rst with lowCount := 0 } }) ∧
    (s.rst.supplyHold = false → vbat < 6000 → s.rst.lowCount < 3 →
      exec (.supplySample vbat) s = .next { s with rst := { s.rst with lowCount := s.rst.lowCount + 1 } }) ∧
    (s.rst.supplyHold = true → vbat < 7000 →
      exec (.supplySample vbat) s = .next { s with rst := { s.rst with highCount := 0 } }) ∧
    (s.rst.supplyHold = true → 7000 ≤ vbat → s.rst.highCount < 3 →
      exec (.supplySample vbat) s = .next { s with rst := { s.rst with highCount := s.rst.highCount + 1 } }) ∧
    (s.rst.supplyHold = true → 7000 ≤ vbat → s.rst.highCount = 3 →
      exec (.supplySample vbat) s =
        .next { s with rst := { s.rst with highCount := 4, supplyHold := false, lowCount := 0 } }))

/-- The release of a cold reset: part clock 0, branch cycle timer started with the period just read, STARTING, the store
read, each working profile a copy of its baseline, bus power on, SETTLE for 20 ms; channels, arbiter, contexts and trunk
port stand as the reset left them. That the row is the release itself, whatever level RESET_N was last seen at, is log 8 (the
model's); that the first branch period is the BRANCH_PERIOD just read, log 29 (the model's choice). -/
def Obligations.ColdStartBringsThePartUp : Prop :=
  ∀ s : State, s.rst.active = true → s.rst.supplyHold = false →
    ∃ t, exec .coldStart s = .next t ∧ t.rst = { s.rst with active := false, lineLow := false } ∧ t.now = 0 ∧
      t.stg.phase = .starting ∧ storeRead s.stg.store t.stg ∧ t.br.timer = some t.stg.image.glob.branchPeriod ∧
      t.br.busPower = true ∧ t.br.place = s.br.place ∧ t.br.driveWord = s.br.driveWord ∧
      t.enr.st = .settle ∧ t.enr.settle = some 40 ∧
      (∀ c : Chan, (t.chans.get c).prof.working = t.stg.image.baseline.get c ∧
        t.chans.get c = { s.chans.get c with prof := { (s.chans.get c).prof with working := t.stg.image.baseline.get c } }) ∧
      t.ctx = s.ctx ∧ t.arb = s.arb ∧ t.trk = s.trk ∧ t.br.nodes = s.br.nodes ∧ t.enr.table = s.enr.table ∧
      t.enr.schedule = s.enr.schedule ∧ t.pending = s.pending

/-- The end of the sending of an answer that triggers a warm reset, with no channel waiting or moving, no run in progress and no
store write in flight: what each block keeps and what it does not, and the phase of the store read. Latched conditions, the
supply run counts and the stroke record are emptied; a channel whose binding the read leaves as it was keeps its state,
reference, position, counter base and inhibit causes, and its UNDERVOLT. That the answer leaves the list at the end of its
sending is log 11 (the model's); that the trunk loss timer starts with the TRUNK_LOSS just read, even where it was stopped, and
the order of it all, log 22 (the model's). -/
def Obligations.WarmResetTakesItsValues : Prop :=
  ∀ (s : State) (a : Answer) (rest : List Answer), s.rst.active = false → s.trk.answers = a :: rest →
    a.resets = true → (∀ side, a.body ≠ .report side none) →
    (∀ c : Chan, (s.chans.get c).ctl.st = .absent ∨ (s.chans.get c).ctl.st = .inhibited ∨ (s.chans.get c).ctl.st = .idle) →
    s.enr.st = .idle → s.stg.write = none →
    ∃ t, exec .answerSent s = .next t ∧ storeRead s.stg.store t.stg ∧ t.stg.phase = t.stg.chosen ∧
      t.rst = { s.rst with cause := .resetPart } ∧ t.now = s.now ∧ t.br = s.br ∧
      t.enr.table = s.enr.table ∧ t.enr.schedule = s.enr.schedule ∧ t.enr.rejoinCount = s.enr.rejoinCount ∧
      t.enr.st = .idle ∧ t.enr.offer = 0 ∧ t.enr.miss = 0 ∧ t.enr.mismatch = s.enr.mismatch ∧
      t.trk.rx = .hunt ∧ t.trk.answers = [] ∧ t.trk.collector = .idle ∧ t.trk.response = none ∧
      t.trk.wasLost = false ∧ t.trk.sideAbort = s.trk.sideAbort ∧
      t.trk.lossTimer = some (s.now + 4 * t.stg.image.glob.trunkLoss) ∧
      t.ctx = { speed := 0, rough := 0, temp := 25, crank := false, movingL := false, movingR := false, fresh := false } ∧
      t.arb.queue = [] ∧ t.arb.stagger = 0 ∧
      ∀ c : Chan,
        t.arb.slots.get c = false ∧ (t.chans.get c).ctl.motion = none ∧ (t.chans.get c).ctl.hold = none ∧
        (t.chans.get c).ctl.lastOrder = { kind := .none, source := .user, preset := 0 } ∧
        (t.chans.get c).ctl.refusal = none ∧
        (t.chans.get c).eng = { (s.chans.get c).eng with f16 := 0, first := false, acc := 0, blank := 0, peak := 0 } ∧
        (t.chans.get c).readCopy = (s.chans.get c).eng.trip ∧ (t.chans.get c).prof.teach = .none ∧
        (t.chans.get c).prof.working = t.stg.image.baseline.get c ∧ (t.chans.get c).rev.level = (s.chans.get c).rev.level ∧
        (t.chans.get c).rev.window = (s.chans.get c).rev.window ∧ (t.chans.get c).sup.mask = 0 ∧
        (t.chans.get c).sup.prev = none ∧ (t.chans.get c).sup.strokeMask = 0 ∧
        (t.chans.get c).sup.lowRun = 0 ∧ (t.chans.get c).sup.highRun = 0 ∧
        (∀ b : Fin 64, (t.chans.get c).prof.stroke.get b = none) ∧
        (t.chans.get c).prof.marks = { openedInRun := false, escZero := false, teachStroke := false } ∧
        (t.chans.get c).ctl.latched = noneLatched ∧ (t.chans.get c).prof.visited = 0 ∧
        (t.chans.get c).prof.teachVisited = 0 ∧ (t.chans.get c).rev.target = none ∧
        (bindingStands s → (∀ d : Chan, (t.stg.image.chan.get d).nodeAddr = (s.stg.image.chan.get d).nodeAddr) →
          (t.chans.get c).ctl = { (s.chans.get c).ctl with
            motion := none, hold := none, refusal := none, latched := noneLatched
            lastOrder := { kind := .none, source := .user, preset := 0 } } ∧
          (t.chans.get c).sup.undervolt = (s.chans.get c).sup.undervolt)

/-! ### Trunk port -/

/-- Assembly of the oldest REPORT: its entries and part status are those of the state, with the link grade of the bound node, or
0, and the codes of the highest-priority channel and part conditions present, or 0; every trip flag is cleared, and of the
latched part conditions only the one carried is cleared. The sending of the oldest answer completes: it leaves the list, and
nothing else changes where it triggers no warm reset or where a case that bars the reset holds. That the oldest answer stays at
the front of the list while it is sent, and leaves it at the completion, is log 11 (the model's). -/
def Obligations.AnswersAreAssembledAndSent : Prop :=
  (∀ (s : State) (side : SideField) (resets : Bool) (rest : List Answer), s.rst.active = false →
    s.trk.answers = { body := .report side none, resets := resets } :: rest →
    ∃ (body : ReportBody) (part : Nat) (condition : Chan → Nat),
      carriedCode (partPresent s) part ∧ (∀ c : Chan, carriedCode (conditionPresent s c) (condition c)) ∧
      exec .reportAssembly s = .next { s with
        chans := Oct.ofFn fun c => { s.chans.get c with eng := { (s.chans.get c).eng with tripFlag := false } }
        trk := { s.trk with
          answers := { body := .report side (some body), resets := resets } :: rest
          wasLost := s.trk.wasLost && decide (part ≠ 6)
          sideAbort := s.trk.sideAbort && decide (part ≠ 7) } } ∧
      body.part = BitVec.ofNat 2 (Phase.code s.stg.phase) ++ BitVec.ofNat 3 part ++
        BitVec.ofNat 4 (s.enr.table.toList.countP Option.isSome) ++ 0#7 ∧
      ∀ c : Chan, body.entries.get c =
        BitVec.ofNat 3 (ChanState.code (s.chans.get c).ctl.st) ++ BitVec.ofBool (s.chans.get c).ctl.referenced ++
        BitVec.ofBool (s.chans.get c).eng.tripFlag ++ BitVec.ofNat 2 (s.chans.get c).rev.level ++
        BitVec.ofNat 3 (gradeOf s c) ++ BitVec.ofNat 5 (condition c) ++
        BitVec.ofInt 13 (s.chans.get c).ctl.pos ++ 0#4) ∧
  (∀ (s : State) (a : Answer) (rest : List Answer), s.rst.active = false → s.trk.answers = a :: rest →
    (∀ side, a.body ≠ .report side none) →
    (a.resets = false ∨ s.enr.st ≠ .idle ∨ s.stg.write ≠ none ∨
      ∃ c : Chan, (s.chans.get c).ctl.st = .waiting ∨ (s.chans.get c).ctl.st = .opening ∨
        (s.chans.get c).ctl.st = .closing ∨ (s.chans.get c).ctl.st = .reversing) →
    exec .answerSent s = .next { s with trk := { s.trk with answers := rest } })

/-- A good CYCLE frame that completes no side command, with no side RESET PART waiting: its context replaces the record and is
FRESH, the trunk loss timer restarts, and the order gates handle its order fields then, as `State.orderGates` does: their
channels and arbiter are those of the frame, and each order byte's order once normalised becomes the channel's last order. Its
REPORT joins the list unless 4 answers stand there; the branch port, the enrollment unit, the settings unit and the reset unit
are untouched. The gates handle the fields one after another, each its own channel's normalised order, channel 0 first. -/
def Obligations.CycleFrameIsTakenInEveryPhase : Prop :=
  (∀ (s : State) (p : CyclePayload), s.rst.active = false → s.trk.resetArmed = false →
    ¬(p.marker = 4 ∧ s.trk.response = none ∧ ∃ f1 f2 f3, s.trk.collector = .collecting [f1, f2, f3]) →
    let taken : State := { s with
      ctx := { speed := p.speed.toNat, rough := (p.rough &&& 0x0F).toNat, temp := (min p.temp.toNat 127 : Nat) - 40,
               crank := p.flags.getLsbD 0, movingL := p.flags.getLsbD 1, movingR := p.flags.getLsbD 2, fresh := true }
      trk := { s.trk with rx := .hunt, lossTimer := some (s.now + 4 * s.stg.image.glob.trunkLoss) } }
    ∃ t, exec (.goodCycleFrame p) s = .next t ∧ t.ctx = taken.ctx ∧ t.trk.lossTimer = taken.trk.lossTimer ∧
      t.trk.rx = .hunt ∧ t.trk.wasLost = s.trk.wasLost ∧
      t.chans = (taken.orderGates p.orders).chans ∧ t.arb = (taken.orderGates p.orders).arb ∧
      (s.trk.answers.length < 4 → ∃ side, t.trk.answers =
        s.trk.answers ++ [{ body := .report side none, resets := false }]) ∧
      (4 ≤ s.trk.answers.length → t.trk.answers = s.trk.answers) ∧
      (∀ c : Chan, normalises (p.orders.get c) (t.chans.get c).ctl.lastOrder) ∧
      t.br = s.br ∧ t.enr = s.enr ∧ t.stg = s.stg ∧ t.rst = s.rst ∧ t.now = s.now ∧ t.freeCount = s.freeCount ∧
      t.pending = s.pending) ∧
  (∀ (s : State) (orders : Oct Byte), ∃ o : Chan → Order, (∀ c : Chan, normalises (orders.get c) (o c)) ∧
    s.orderGates orders = [(0 : Chan), 1, 2, 3, 4, 5, 6, 7].foldl (fun u c => u.orderGate c (o c)) s)

/-- The side field of a good CYCLE frame that completes no command moves the collector, the pending response, SIDE_ABORT
and the side field of the REPORT by the tables of the side channel; the REPORT joins an answer list with room, and where 4
answers stand it is lost with the fragment it would have carried. -/
def Obligations.SideFieldFollowsItsTable : Prop :=
  ∀ (s : State) (p : CyclePayload), s.rst.active = false → s.trk.resetArmed = false →
    ¬(p.marker = 4 ∧ s.trk.response = none ∧ ∃ f1 f2 f3, s.trk.collector = .collecting [f1, f2, f3]) →
    ∃ (t : State) (side : SideField), exec (.goodCycleFrame p) s = .next t ∧
      (s.trk.answers.length < 4 →
        t.trk.answers = s.trk.answers ++ [{ body := .report side none, resets := false }]) ∧
      (4 ≤ s.trk.answers.length → t.trk.answers = s.trk.answers) ∧
      (p.marker = 0 → s.trk.collector = .idle → t.trk.collector = .idle ∧ t.trk.sideAbort = s.trk.sideAbort) ∧
      (p.marker = 0 → s.trk.collector ≠ .idle → t.trk.collector = .idle ∧ t.trk.sideAbort = true) ∧
      (p.marker = 0 → ∀ r : PendingResponse, s.trk.response = some r → 1 ≤ r.next → r.next ≤ 4 →
        side = { marker := BitVec.ofNat 8 r.next, fragment := Reply.fragment r.reply r.next } ∧
        t.trk.response = if r.next = 4 then none else some { reply := r.reply, next := r.next + 1 }) ∧
      (p.marker = 0 → s.trk.response = none → side = { marker := 0, fragment := 0 } ∧ t.trk.response = none) ∧
      (p.marker = 1 → t.trk.collector = .collecting [p.fragment] ∧ t.trk.response = none ∧
        t.trk.sideAbort = s.trk.sideAbort) ∧
      (∀ got, s.trk.collector = .collecting got → s.trk.response = none →
        ((p.marker = 2 ∧ got.length = 1) ∨ (p.marker = 3 ∧ got.length = 2)) →
        t.trk.collector = .collecting (got ++ [p.fragment]) ∧ t.trk.response = none ∧
        t.trk.sideAbort = s.trk.sideAbort) ∧
      (2 ≤ p.marker.toNat → (4 < p.marker.toNat ∨ s.trk.response ≠ none ∨ s.trk.collector = .idle ∨
          ∃ got, s.trk.collector = .collecting got ∧ got.length + 1 ≠ p.marker.toNat) →
        t.trk.collector = .idle ∧ t.trk.response = none ∧ t.trk.sideAbort = true) ∧
      (p.marker ≠ 0 → side = { marker := 0, fragment := 0 })

/-- The frame that carries fragment 4 completes the command of the four fragments' eight bytes. The frame is taken as ever
(context, trunk loss timer, orders and REPORT), and the command does what the side row that its bytes spell does, reply and
effect, before the orders or after them: the spec leaves the two in no order, log 4. Bytes that spell no row are answered
UNKNOWN_COMMAND, or for a READ BAD_ARGUMENT, or BUSY during a store write, and do nothing else. The collector is IDLE, a
response with the command's code stands pending, its first fragment next, and the frame's own REPORT carries marker 0; only an
OK to RESET PART makes it carry the reset. Where 4 answers stand the REPORT is lost, and such an OK resets the part at the end
of the frame, as the sending of its answer would, unless a case that bars the reset holds then; that this reset empties the list
whole, the answer on the line with it, is the model's choice, log 37. That a side row is the completion of its command apart
from its frame is the model's choice, log 10, and so is the restart of the trunk loss timer before the command, log 31. -/
def Obligations.CompletedSideCommandDoesItsRow : Prop :=
  ∀ (s : State) (p : CyclePayload) (f1 f2 f3 : BitVec 16), s.rst.active = false → s.trk.resetArmed = false →
    s.trk.collector = .collecting [f1, f2, f3] → s.trk.response = none → p.marker = 4 →
    let bytes : Oct Byte :=
      { a0 := f1.extractLsb' 8 8, a1 := f1.extractLsb' 0 8, a2 := f2.extractLsb' 8 8, a3 := f2.extractLsb' 0 8
        a4 := f3.extractLsb' 8 8, a5 := f3.extractLsb' 0 8, a6 := p.fragment.extractLsb' 8 8, a7 := p.fragment.extractLsb' 0 8 }
    let taken : State := { s with
      freeCount := s.freeCount + 1
      ctx := { speed := p.speed.toNat, rough := (p.rough &&& 0x0F).toNat, temp := (min p.temp.toNat 127 : Nat) - 40,
               crank := p.flags.getLsbD 0, movingL := p.flags.getLsbD 1, movingR := p.flags.getLsbD 2, fresh := true }
      trk := { s.trk with rx := .hunt, collector := .idle, lossTimer := some (s.now + 4 * s.stg.image.glob.trunkLoss) } }
    let answered := fun (v : State) (status : Status) =>
      { v with trk := { v.trk with response := some { reply := denied bytes.a0 status, next := 1 } } }
    ∃ (t u : State) (r : Reply), exec (.goodCycleFrame p) s = .next t ∧
      (∀ i : Instr, sideRow bytes = some i →
        exec i (taken.orderGates p.orders) = .next u ∨ ∃ v, exec i taken = .next v ∧ u = v.orderGates p.orders) ∧
      (sideRow bytes = none → bytes.a0 ≠ 1 → u = answered (taken.orderGates p.orders) .unknownCommand) ∧
      (sideRow bytes = none → bytes.a0 = 1 →
        u = answered (taken.orderGates p.orders) (if s.stg.write = none then .badArgument else .busy)) ∧
      u.trk.collector = .idle ∧ u.trk.response = some { reply := r, next := 1 } ∧ r.code = bytes.a0 ∧
      (u.trk.resetArmed = true ↔ r.code = 3 ∧ r.status = .ok) ∧ u.trk.sideAbort = s.trk.sideAbort ∧
      u.trk.answers = s.trk.answers ∧
      (let left := { u with trk := { u.trk with resetArmed := false } }
       let barred := u.enr.st ≠ .idle ∨ u.stg.write ≠ none ∨ ∃ c : Chan, (u.chans.get c).ctl.st = .waiting ∨
         (u.chans.get c).ctl.st = .opening ∨ (u.chans.get c).ctl.st = .closing ∨ (u.chans.get c).ctl.st = .reversing
       (s.trk.answers.length < 4 → t = { left with trk := { left.trk with
         answers := s.trk.answers ++
           [{ body := .report { marker := 0, fragment := 0 } none, resets := u.trk.resetArmed }] } }) ∧
       (4 ≤ s.trk.answers.length → u.trk.resetArmed = false ∨ barred → t = left) ∧
       (4 ≤ s.trk.answers.length → u.trk.resetArmed = true → ¬barred → exec .answerSent { left with trk := { left.trk with
         answers := [{ body := .response r, resets := true }] } } = .next t))

/-- A discarded frame and a gap between bytes reach no block but the receiver, which hunts; after a gap it has taken the
byte that ended the gap. -/
def Obligations.DiscardedFrameReachesNoOtherBlock : Prop :=
  ∀ (s : State), s.rst.active = false →
    (∀ why, exec (.frameDiscarded why) s = .next { s with trk := { s.trk with rx := .hunt } }) ∧
    (∀ b : Byte, exec (.interByteGap b) s =
      .next { s with trk := { s.trk with rx := if b = 0xA5 then .kind else .hunt } })

/-- A COMMAND frame in RUN is answered WRONG_PHASE whatever its code; outside RUN dispatch checks it in order: unknown code,
STORE_BUSY, STARTING, phase, length. A command of the side channel passes the same checks in every phase: BUSY during a store
write, BUSY in STARTING unless it is a READ, then the phase of its row (WRITE SETTING, SET ZONE, CLEAR ZONES, TEACH, LOCK-IN and
ENROLL in SETUP alone, REOPEN in RUN alone). Each of these answers carries data 0 and nothing else happens. That a side row is
the completion of its command apart from its frame is the model's choice, log 10. -/
def Obligations.CommandFramesAreCheckedInOrder : Prop :=
  (∀ (s : State) (p : CommandPayload), s.rst.active = false →
    let code := payloadCode p
    let known := 1 ≤ code.toNat ∧ code.toNat ≤ 11
    let answers := fun (status : Status) =>
      exec (.goodCommandFrame p) s = .next (delivered .command (denied code status) s)
    (s.stg.phase = .run → answers .wrongPhase) ∧
    (s.stg.phase ≠ .run →
      (¬known → answers .unknownCommand) ∧
      (known → s.stg.write ≠ none → answers .busy) ∧
      (known → s.stg.write = none → s.stg.phase = .starting → code ≠ 1 → answers .busy) ∧
      (s.stg.write = none → s.stg.phase = .setup → code = 4 → answers .wrongPhase) ∧
      (known → s.stg.write = none → s.stg.phase = .setup → code ≠ 4 → payloadCommand p = none → answers .badArgument) ∧
      (s.stg.write = none → code = 1 → payloadCommand p = none → answers .badArgument))) ∧
  (∀ (s : State) (i : Instr) (code : Byte), s.rst.active = false → sideCode i = some code →
    let answers := fun (status : Status) => exec i s = .next (delivered .side (denied code status) s)
    (s.stg.write ≠ none → answers .busy) ∧
    (s.stg.write = none → s.stg.phase = .starting → code ≠ 1 → answers .busy) ∧
    (s.stg.write = none → s.stg.phase = .run → 5 ≤ code.toNat → answers .wrongPhase) ∧
    (s.stg.write = none → s.stg.phase = .setup → code = 4 → answers .wrongPhase))

/-- A good COMMAND frame laid out for a row is that row on the COMMAND path, whatever the state; so a frame of CLEAR ZONES in
SETUP empties the zone list and is answered OK, as its row is, and a frame of READ part status is answered in every phase
but RUN. That a row on the COMMAND path stands for the whole handling of its frame is the model's choice, log 10. -/
def Obligations.CommandFramesRunTheirRows : Prop :=
  (∀ (s : State) (i : Instr) (p : CommandPayload), commandFrame i = some p → exec (.goodCommandFrame p) s = exec i s) ∧
  (∀ (s : State) (ch : Byte) (c : Chan), ch.toNat = c.val → dispatched .command s → s.stg.phase = .setup →
    (s.chans.get c).prof.teach ≠ .running →
    exec (.goodCommandFrame (shortFrame 8 (ch ++ 0#48))) s = .next (delivered .command (ok 8 0)
      (withImage s fun i => { i with zones := i.zones.set c [] }))) ∧
  (∀ s : State, dispatched .command s → ∃ data : BitVec 48,
    exec (.goodCommandFrame (shortFrame 1 (13#8 ++ 0#48))) s = .next (delivered .command (ok 1 data) s) ∧
    data.extractLsb' 46 2 = BitVec.ofNat 2 (Phase.code s.stg.phase))

/-! ### The order gate (01.7) -/

/-- The order gate on an IDLE channel without a teach. An order into motion that is taken, a held kind in every frame and any other
only when the field is changed, and passes the checks joins the queue at its tail: the channel waits, its latched conditions
clear, a held order starts the hold timer, and nothing else changes. A STOP, an order taken with no motion, and a field that is not
taken change nothing but the last order field. -/
def Obligations.PassedOrderJoinsTheQueue : Prop :=
  ∀ (s : State) (c : Chan) (o : Order), (s.chans.get c).ctl.st = .idle → (s.chans.get c).prof.teach ≠ .running →
    (∀ d : Dir, taken s c o → s.refusalOf c o = none → goes s c o d → ¬staysPut s c o →
      s.orderGate c o = joined (noted s c o) c o d) ∧
    (taken s c o → s.refusalOf c o = none → o.kind = .stop ∨ staysPut s c o → s.orderGate c o = noted s c o) ∧
    (¬taken s c o → s.orderGate c o = noted s c o)

/-- The first of the ten checks that applies, in their order, refuses a taken order with its reason: the phase is STARTING; the
channel is ABSENT, INHIBITED, or REVERSING; an order into motion that is not a held USER order under CONFIG_FAULT, in SETUP, or on
an unreferenced channel; a closing order that is not a held USER close at e = 3, or at e of 1 or more; a closing order at a link
grade of DEGRADED_GRADE or less that is express or not from USER. At the order gate a refused order becomes the last order field,
after its field has ended a held motion or entry that it does not renew; it sets the refusal reason and latches ORDER_REFUSED,
fails a running teach with ORDER, and changes no motion, entry or slot and no other block. -/
def Obligations.RefusedOrderChangesNoMotion : Prop :=
  ∀ (s : State) (c : Chan) (o : Order) (why : RefusalReason),
    (s.refusalOf c o = some why ↔
      checkApplies s c o why ∧ ∀ other, checkNumber other < checkNumber why → ¬checkApplies s c o other) ∧
    (s.refusalOf c o = none ↔ ∀ other, ¬checkApplies s c o other) ∧
    (taken s c o → s.refusalOf c o = some why →
      let refused := fun (left : State) => ∃ prof : ProfileContext,
        s.orderGate c o = withUnit left c (fun u => { u with
          ctl := { u.ctl with refusal := some why, latched := { u.ctl.latched with orderRefused := true } }
          prof := prof }) ∧
        ((s.chans.get c).prof.teach ≠ .running → prof = (s.chans.get c).prof) ∧
        ((s.chans.get c).prof.teach = .running → prof.teach = .failed .order ∧
          prof.working = (s.chans.get c).prof.working ∧ prof.stroke = (s.chans.get c).prof.stroke)
      (¬heldEnds s c o → refused (noted s c o)) ∧
      (heldEnds s c o → refused (idled (noted s c o) c fun u => u)))

/-- The order gate on a channel without a teach. A field that is not taken, NONE or an unchanged one-shot, ends a held motion or
entry that is not of its direction, and changes nothing else but the last order field, in every channel state. Of the orders that
are taken and pass the checks on a channel that waits or moves: STOP ends what the channel carries; a held order of the same
direction renews a held motion or entry and leaves a latched one; an express or preset order of the same direction makes it LATCHED
with the order's class and target and stops the hold timer, an entry's place, join time and timeout standing; an order of the
opposite direction ends it and joins the queue as a new entry; an order taken with no motion ends it. An order taken
on a channel whose teach runs fails the teach with ORDER and is then handled as on a channel without one. That a channel which a
storage fault has left waiting or moving with nothing carried is ended in the same way is the model's choice, log 33. -/
def Obligations.OrderGateStopsEndsAndTurns : Prop :=
  (∀ (s : State) (c : Chan) (o : Order), (s.chans.get c).prof.teach = .running → taken s c o →
    ∃ visited : Nat, s.orderGate c o = (withUnit s c fun u => { u with
      prof := { u.prof with teach := .failed .order, teachVisited := visited } }).orderGate c o) ∧
  ∀ (s : State) (c : Chan) (o : Order), (s.chans.get c).prof.teach ≠ .running →
    let heldKind := o.kind = .openHeld ∨ o.kind = .closeHeld
    let passes := taken s c o ∧ s.refusalOf c o = none
    (¬taken s c o → heldEnds s c o → s.orderGate c o = idled (noted s c o) c fun u => u) ∧
    (¬taken s c o → ¬heldEnds s c o → s.orderGate c o = noted s c o) ∧
    ((s.chans.get c).ctl.st ≠ .idle → o.kind = .stop → passes → s.orderGate c o = idled (noted s c o) c fun u => u) ∧
    (∀ m : Motion, carries s c m → goes s c o m.dir → heldKind → passes → ¬staysPut s c o →
      s.orderGate c o = if m.origin = .held then
          withUnit (noted s c o) c fun u => { u with ctl := { u.ctl with
            hold := some (s.now + 2 * s.stg.image.glob.holdTimeout) } }
        else noted s c o) ∧
    (∀ m : Motion, carries s c m → goes s c o m.dir → ¬heldKind → passes → ¬staysPut s c o →
      let turned := fun x : Motion =>
        { x with origin := .latched, cls := o.source, target := if o.kind = .preset then some (presetTo s c o) else none }
      carries (s.orderGate c o) c (turned m) ∧
      ((s.chans.get c).ctl.st = .waiting → s.orderGate c o =
        { withUnit (noted s c o) c (fun u => { u with ctl := { u.ctl with hold := none } }) with
          arb := { s.arb with queue := s.arb.queue.map fun e =>
            if e.channel = c then { e with motion := turned e.motion } else e } }) ∧
      ((s.chans.get c).ctl.st ≠ .waiting → s.orderGate c o =
        withUnit (noted s c o) c fun u => { u with ctl := { u.ctl with hold := none, motion := some (turned m) } })) ∧
    (∀ d : Dir, (s.chans.get c).ctl.st ≠ .idle → (∀ m : Motion, carries s c m → d ≠ m.dir) → goes s c o d → passes →
      ¬staysPut s c o → s.orderGate c o = joined (idled (noted s c o) c fun u => u) c o d) ∧
    ((s.chans.get c).ctl.st ≠ .idle → passes → staysPut s c o → s.orderGate c o = idled (noted s c o) c fun u => u)

/-! ### READ items (09 R182) -/

/-- A channel argument above 7 is answered BAD_ARGUMENT by every command that takes a channel, and changes nothing. -/
def Obligations.BadChannelIsBadArgument : Prop :=
  ∀ (s : State) (path : Path) (ch : Byte), 7 < ch.toNat → dispatched path s →
    let read := Host.Outcome.next (φ := Fault) (ρ := Refusal) (delivered path (denied 1 .badArgument) s)
    exec (.readChannelStatus path ch) s = read ∧ exec (.readTripRecordPart1 path ch) s = read ∧
    exec (.readTripRecordPart2 path ch) s = read ∧ exec (.readPeakRatio path ch) s = read ∧
    exec (.readLinkGrade path ch) s = read ∧ (∀ b, exec (.readBaselineBin path ch b) s = read) ∧
    (∀ b, exec (.readWorkingBin path ch b) s = read) ∧ (∀ i, exec (.readZoneRecord path ch i) s = read) ∧
    exec (.readRefusalReason path ch) s = read ∧ exec (.readTeachResult path ch) s = read ∧
    (∀ id : Byte, id.toNat < 24 → exec (.readSettingValue path ch id) s = read) ∧
    (s.stg.phase ≠ .starting →
      ∀ v, exec (.restorePosition path ch v) s = .next (delivered path (denied 2 .badArgument) s)) ∧
    (s.stg.phase = .setup →
      (∀ (id : Byte) (v : BitVec 16), id.toNat < 24 →
        exec (.writeSetting path ch id v) s = .next (delivered path (denied 5 .badArgument) s)) ∧
      (∀ f v, exec (.loadBaseline .command ch f v) s = .next (delivered .command (denied 6 .badArgument) s)) ∧
      (∀ i x y k a, exec (.setZone path ch i x y k a) s = .next (delivered path (denied 7 .badArgument) s)) ∧
      exec (.clearZones path ch) s = .next (delivered path (denied 8 .badArgument) s) ∧
      exec (.teach path ch) s = .next (delivered path (denied 9 .badArgument) s))

/-- READ of channel status returns state, referenced, position, the full sets of inhibit causes and latched conditions, e and
the stroke mask count; READ of the refusal reason, of the teach result, of part status and of the check value return their
fields; none changes anything. That a yes is 1 and that an absent reason, locked value or last pass is carried as 0 is the
model's reading, log 12; that the inhibit causes come before the latched conditions is the model's choice, log 36. -/
def Obligations.ReadStatusItemsReturnTheirFields : Prop :=
  ∀ (s : State) (path : Path) (ch : Byte) (c : Chan), ch.toNat = c.val → dispatched path s →
    let u := s.chans.get c
    exec (.readChannelStatus path ch) s = .next (delivered path (ok 1
      (BitVec.ofNat 3 (ChanState.code u.ctl.st) ++ BitVec.ofBool u.ctl.referenced ++ BitVec.ofInt 13 u.ctl.pos ++
       BitVec.ofBool u.ctl.causes.nodeLost ++ BitVec.ofBool u.ctl.causes.nodeFault ++
       BitVec.ofBool u.ctl.causes.undervolt ++ BitVec.ofBool u.ctl.latched.blindStop ++
       BitVec.ofBool u.ctl.latched.drift ++ BitVec.ofBool u.ctl.latched.profileRepaired ++
       BitVec.ofBool u.ctl.latched.orderRefused ++ BitVec.ofBool u.ctl.latched.startTimeout ++
       BitVec.ofNat 2 u.rev.level ++ BitVec.ofNat 10 u.sup.strokeMask ++ 0#11)) s) ∧
    exec (.readRefusalReason path ch) s = .next (delivered path
      (ok 1 (BitVec.ofNat 4 (refusalCode u.ctl.refusal) ++ 0#44)) s) ∧
    exec (.readTeachResult path ch) s = .next (delivered path
      (ok 1 (BitVec.ofNat 2 (teachStateCode u.prof.teach) ++
        (match u.prof.teach with
          | .failed why => 1#1 ++ BitVec.ofNat 3 (TeachReason.code why)
          | _ => 0#4) ++ BitVec.ofNat 7 u.prof.teachVisited ++ 0#35)) s) ∧
    exec (.readPartStatus path) s = .next (delivered path
      (ok 1 (BitVec.ofNat 2 (Phase.code s.stg.phase) ++ BitVec.ofBool s.stg.write.isSome ++ BitVec.ofBool s.stg.configFault ++
        BitVec.ofBool s.stg.storeInvalid ++ BitVec.ofBool s.stg.storeFail ++ BitVec.ofBool s.enr.mismatch ++
        BitVec.ofBool s.trk.wasLost ++ BitVec.ofBool s.trk.sideAbort ++
        BitVec.ofNat 4 (s.enr.table.toList.countP Option.isSome) ++ BitVec.ofNat 2 (ResetCause.code s.rst.cause) ++ 0#33)) s) ∧
    exec (.readCheckValue path) s = .next (delivered path
      (ok 1 (BitVec.ofBool s.stg.locked.isSome ++ s.stg.locked.getD 0 ++ BitVec.ofBool s.stg.lastPass.isSome ++
        s.stg.lastPass.getD 0 ++ BitVec.ofNat 6 s.stg.scanPos ++ 0#8)) s)

/-- READ of trip record part 1 copies the record into the read copy and returns part 1 from it; part 2 is returned from
the read copy; neither changes the record or the trip flag. READ of the peak ratio returns it and sets it to 0; READ of the
link grade returns grade and worst grade of the bound node and sets the worst grade to the grade, and on an ABSENT channel
returns 0 and 0 and changes nothing. -/
def Obligations.ReadsThatChangeWhatTheyRead : Prop :=
  ∀ (s : State) (path : Path) (ch : Byte) (c : Chan), ch.toNat = c.val → dispatched path s →
    let r := (s.chans.get c).eng.trip
    let k := (s.chans.get c).readCopy
    exec (.readTripRecordPart1 path ch) s = .next (delivered path (ok 1
      (BitVec.ofNat 2 (tripCauseCode r.cause) ++ BitVec.ofInt 13 r.pos ++ BitVec.ofNat 6 r.bin ++ BitVec.ofNat 2 r.level ++
       BitVec.ofNat 8 r.speed ++ BitVec.ofNat 16 r.stamp ++ 0#1)) (withUnit s c fun u => { u with readCopy := r })) ∧
    exec (.readTripRecordPart2 path ch) s = .next (delivered path (ok 1
      (BitVec.ofNat 12 k.f ++ BitVec.ofNat 12 k.r ++ BitVec.ofNat 10 k.t ++ BitVec.ofNat 12 k.a ++ 0#2)) s) ∧
    exec (.readPeakRatio path ch) s = .next (delivered path (ok 1 (BitVec.ofNat 8 (s.chans.get c).eng.peak ++ 0#40))
      (withUnit s c fun u => { u with eng := { u.eng with peak := 0 } })) ∧
    ((s.chans.get c).ctl.st = .absent → exec (.readLinkGrade path ch) s = .next (delivered path (ok 1 0) s)) ∧
    (∀ a : Node, (s.chans.get c).ctl.st ≠ .absent → (s.stg.image.chan.get c).nodeAddr = a.val + 1 →
      let n := s.br.nodes.get a
      exec (.readLinkGrade path ch) s = .next (delivered path
        (ok 1 (BitVec.ofNat 3 n.grade ++ BitVec.ofNat 3 n.worst ++ 0#42))
        { s with br := { s.br with nodes := s.br.nodes.set a { n with worst := n.grade } } }))

/-- READ of node identity returns the record of an address 1..8 after a presence bit, or absent; READ of a setting value returns
the stored value, left-aligned, for per-channel ids 00h..17h and, whatever the channel, for global ids 20h..3Eh. Other addresses
and ids are answered BAD_ARGUMENT; nothing changes. The width of the value is the model's reading, log 13, and so are the zeros
of an absent record, log 12; that the record's state comes before its fields is the model's choice, log 36. -/
def Obligations.ReadIdentityAndSettingReturnWhatIsHeld : Prop :=
  ∀ (s : State) (path : Path), dispatched path s →
    (∀ address : Byte,
      (address.toNat = 0 ∨ 8 < address.toNat →
        exec (.readNodeIdentity path address) s = .next (delivered path (denied 1 .badArgument) s)) ∧
      (∀ a : Node, address.toNat = a.val + 1 → s.enr.table.get a = none →
        exec (.readNodeIdentity path address) s = .next (delivered path (ok 1 0) s)) ∧
      (∀ (a : Node) (r : NodeRecord), address.toNat = a.val + 1 → s.enr.table.get a = some r →
        exec (.readNodeIdentity path address) s = .next (delivered path (ok 1
          (1#1 ++ BitVec.ofNat 2 (RecordState.code r.st) ++ r.cls ++ r.tag ++ r.rated ++ 0#1)) s))) ∧
    (∀ ch id : Byte,
      (∀ (c : Chan) (k : ChanSetting), ch.toNat = c.val → ChanSetting.all[id.toNat]? = some k →
        exec (.readSettingValue path ch id) s = .next (delivered path (ok 1
          (BitVec.ofInt 48 ((s.stg.image.chan.get c).read k % 2 ^ rangeWidth k.range * 2 ^ (48 - rangeWidth k.range)))) s)) ∧
      (∀ k : GlobSetting, 32 ≤ id.toNat → GlobSetting.all[id.toNat - 32]? = some k →
        exec (.readSettingValue path ch id) s = .next (delivered path (ok 1
          (BitVec.ofInt 48 (s.stg.image.glob.read k % 2 ^ rangeWidth k.range * 2 ^ (48 - rangeWidth k.range)))) s)) ∧
      ((24 ≤ id.toNat ∧ id.toNat < 32) ∨ 0x3E < id.toNat →
        exec (.readSettingValue path ch id) s = .next (delivered path (denied 1 .badArgument) s)))

/-- READ of a baseline bin returns B[b], of a working bin W[b], and of a zone record the list's count, its validity and the
record at the index or absent; a channel above 7, a bin above 63 and an index above 5 are answered BAD_ARGUMENT; nothing
changes. That a yes is 1 and an absent record is carried as zeros is the model's reading, log 12. -/
def Obligations.ReadBinsAndZonesReturnTheProfileStore : Prop :=
  ∀ (s : State) (path : Path) (ch x : Byte) (c : Chan), ch.toNat = c.val → dispatched path s →
    let zs := s.stg.image.zones.get c
    (∀ b : Fin 64, x.toNat = b.val →
      exec (.readBaselineBin path ch x) s = .next (delivered path
        (ok 1 (BitVec.ofNat 12 ((s.stg.image.baseline.get c).get b) ++ 0#36)) s) ∧
      exec (.readWorkingBin path ch x) s = .next (delivered path
        (ok 1 (BitVec.ofNat 12 ((s.chans.get c).prof.working.get b) ++ 0#36)) s)) ∧
    (∀ wrong : Byte, 7 < wrong.toNat →
      exec (.readBaselineBin path wrong x) s = .next (delivered path (denied 1 .badArgument) s) ∧
      exec (.readWorkingBin path wrong x) s = .next (delivered path (denied 1 .badArgument) s) ∧
      exec (.readZoneRecord path wrong x) s = .next (delivered path (denied 1 .badArgument) s)) ∧
    (63 < x.toNat →
      exec (.readBaselineBin path ch x) s = .next (delivered path (denied 1 .badArgument) s) ∧
      exec (.readWorkingBin path ch x) s = .next (delivered path (denied 1 .badArgument) s)) ∧
    (5 < x.toNat → exec (.readZoneRecord path ch x) s = .next (delivered path (denied 1 .badArgument) s)) ∧
    (x.toNat ≤ 5 → zs.length ≤ x.toNat →
      exec (.readZoneRecord path ch x) s = .next (delivered path
        (ok 1 (BitVec.ofNat 3 zs.length ++ BitVec.ofBool (zonesValid zs) ++ 0#44)) s)) ∧
    (∀ z : Zone, x.toNat ≤ 5 → zs[x.toNat]? = some z →
      exec (.readZoneRecord path ch x) s = .next (delivered path
        (ok 1 (BitVec.ofNat 3 zs.length ++ BitVec.ofBool (zonesValid zs) ++ 1#1 ++ BitVec.ofInt 13 z.start ++
          BitVec.ofInt 13 z.stop ++ BitVec.ofNat 2 z.kind ++ BitVec.ofInt 8 z.adjust ++ 0#7)) s))

/-! ### Commands -/

/-- RESTORE POSITION on an IDLE unreferenced channel sets the clamped position and the reference and echoes it; on any
other channel it is answered NOT_APPLICABLE and changes nothing. That the echo has the 13 bits of a position is deduced, log
13. -/
def Obligations.RestorePositionReferencesAnIdleChannel : Prop :=
  ∀ (s : State) (path : Path) (ch : Byte) (c : Chan) (v : BitVec 16), ch.toNat = c.val → dispatched path s →
    s.stg.phase ≠ .starting →
    let p : Int := max 0 (min ((s.stg.image.chan.get c).travel : Int) v.toInt)
    ((s.chans.get c).ctl.st = .idle → (s.chans.get c).ctl.referenced = false →
      exec (.restorePosition path ch v) s = .next (delivered path (ok 2 (BitVec.ofInt 13 p ++ 0#35))
        (withUnit s c fun u => { u with ctl := { u.ctl with pos := p, referenced := true } }))) ∧
    ((s.chans.get c).ctl.st ≠ .idle ∨ (s.chans.get c).ctl.referenced = true →
      exec (.restorePosition path ch v) s = .next (delivered path (denied 2 .notApplicable) s))

/-- RESET PART is answered BUSY while a channel is waiting or moving or a run is in progress; otherwise OK, and a COMMAND
frame's RESPONSE carries the reset, one that finds 4 answers standing resets the part at once, and a side command arms the
reset for the REPORT of its frame. That the side row stands for the completion of the command alone, apart from its frame, is
the model's choice, log 10; that the reset taken at once empties the list with the answer on the line is too, log 37. -/
def Obligations.ResetPartArmsTheWarmReset : Prop :=
  ∀ (s : State) (path : Path), dispatched path s → s.stg.phase ≠ .starting →
    let busy := s.enr.st ≠ .idle ∨ ∃ c : Chan, (s.chans.get c).ctl.st = .waiting ∨ (s.chans.get c).ctl.st = .opening ∨
      (s.chans.get c).ctl.st = .closing ∨ (s.chans.get c).ctl.st = .reversing
    (busy → exec (.resetPart path) s = .next (delivered path (denied 3 .busy) s)) ∧
    (¬busy → path = .command → s.trk.answers.length < 4 →
      exec (.resetPart path) s = .next { s with trk := { s.trk with
        rx := .hunt, answers := s.trk.answers ++ [{ body := .response (ok 3 0), resets := true }] } }) ∧
    (¬busy → path = .command → 4 ≤ s.trk.answers.length →
      ∃ t, exec (.resetPart path) s = .next t ∧ t.rst = { s.rst with cause := .resetPart } ∧ t.trk.answers = [] ∧
        t.trk.rx = .hunt ∧ t.stg.phase = t.stg.chosen ∧ storeRead s.stg.store t.stg) ∧
    (¬busy → path = .side →
      exec (.resetPart path) s = .next { s with trk := { s.trk with
        collector := .idle, response := some { reply := ok 3 0, next := 1 }, resetArmed := true } })

/-- REOPEN in RUN begins its store write when every channel is at rest and a FRESH context says the vehicle stands; it is
BUSY otherwise, and WRONG_PHASE in SETUP. That the store is written and does not verify from the beginning of the write is the
model's, log 19. -/
def Obligations.ReopenNeedsRestAndStandstill : Prop :=
  ∀ (s : State), dispatched .side s →
    let ready := (∀ c : Chan, (s.chans.get c).ctl.st = .absent ∨ (s.chans.get c).ctl.st = .inhibited ∨
      (s.chans.get c).ctl.st = .idle) ∧ s.ctx.fresh = true ∧ s.ctx.speed = 0
    (s.stg.phase = .run → ready →
      exec (.reopen .side) s = .next (delivered .side (ok 4 0) { s with stg := { s.stg with
        write := some .reopen, storeFail := false, store := { s.stg.store with written := true, torn := true } } })) ∧
    (s.stg.phase = .run → ¬ready → exec (.reopen .side) s = .next (delivered .side (denied 4 .busy) s)) ∧
    (s.stg.phase = .run → exec (.reopen .command) s = .next (delivered .command (denied 4 .wrongPhase) s)) ∧
    (s.stg.phase = .setup → ∀ path, exec (.reopen path) s = .next (delivered path (denied 4 .wrongPhase) s))

/-- WRITE SETTING in SETUP stores the clamped value and echoes it; SLOTS while a slot is held and TRAVEL during a teach of
its channel are BUSY; BAND_LOW and BAND_HIGH copy the baseline; every other write changes the working image alone, but
NODE_ADDR, which also judges binding again, and then every channel is ABSENT exactly where it is not bound: one that becomes bound
is IDLE, or INHIBITED by its record, unreferenced at 0; one that becomes unbound has ended what it carried; the others stand. The
width of the echoed value is the model's reading, log 13; that a channel which goes from one bound address to another is unbound
and bound again, log 16 (the model's). -/
def Obligations.WriteSettingClampsAndStores : Prop :=
  ∀ (s : State) (path : Path) (ch id : Byte) (v : BitVec 16), dispatched path s → s.stg.phase = .setup →
    (∀ k : GlobSetting, 32 ≤ id.toNat → GlobSetting.all[id.toNat - 32]? = some k →
      let x : Int := max k.range.1 (min k.range.2 v.toInt)
      (k ≠ .slots ∨ (∀ c : Chan, s.arb.slots.get c = false) →
        ∃ g : GlobSettings, g.read k = x ∧ (∀ j, j ≠ k → g.read j = s.stg.image.glob.read j) ∧
          exec (.writeSetting path ch id v) s = .next (delivered path
            (ok 5 (BitVec.ofInt 48 (x % 2 ^ rangeWidth k.range * 2 ^ (48 - rangeWidth k.range))))
            (withImage s fun i => { i with glob := g }))) ∧
      (k = .slots → (∃ c : Chan, s.arb.slots.get c = true) →
        exec (.writeSetting path ch id v) s = .next (delivered path (denied 5 .busy) s))) ∧
    (∀ (c : Chan) (k : ChanSetting), ch.toNat = c.val → ChanSetting.all[id.toNat]? = some k →
      let x : Int := max k.range.1 (min k.range.2 v.toInt)
      (k = .travel → (s.chans.get c).prof.teach = .running →
        exec (.writeSetting path ch id v) s = .next (delivered path (denied 5 .busy) s)) ∧
      (k ≠ .travel ∨ (s.chans.get c).prof.teach ≠ .running →
        ∃ g : ChanSettings, g.read k = x ∧ (∀ j, j ≠ k → g.read j = (s.stg.image.chan.get c).read j) ∧
          let stored := withImage s fun i => { i with chan := i.chan.set c g }
          let echo := ok 5 (BitVec.ofInt 48 (x % 2 ^ rangeWidth k.range * 2 ^ (48 - rangeWidth k.range)))
          (k ≠ .bandLow → k ≠ .bandHigh → k ≠ .nodeAddr →
            exec (.writeSetting path ch id v) s = .next (delivered path echo stored)) ∧
          (k = .bandLow ∨ k = .bandHigh →
            exec (.writeSetting path ch id v) s = .next (delivered path echo
              (withUnit stored c fun u => { u with prof := { u.prof with working := s.stg.image.baseline.get c } }))) ∧
          (k = .nodeAddr → ∃ t : State, exec (.writeSetting path ch id v) s = .next (delivered path echo t) ∧
            bindingStands t ∧ t.stg = stored.stg ∧ t.ctx = s.ctx ∧ t.br = s.br ∧ t.enr = s.enr ∧ t.trk = s.trk ∧
            t.rst = s.rst ∧ t.now = s.now ∧ t.pending = s.pending ∧
            ∀ d : Chan, ((s.chans.get d).ctl.st = .absent ↔ ¬bound s d) →
              let stays := t.arb.slots.get d = s.arb.slots.get d ∧ t.entryOf d = s.entryOf d
              let leaves := t.arb.slots.get d = false ∧ t.entryOf d = none
              let moved := d = c ∧ ((s.stg.image.chan.get c).nodeAddr : Int) ≠ x
              (¬bound s d → ¬bound t d → t.chans.get d = s.chans.get d ∧ stays) ∧
              (bound s d → bound t d → ¬moved → t.chans.get d = s.chans.get d ∧ stays) ∧
              (bound s d → ¬bound t d → t.chans.get d = unboundUnit (s.chans.get d) ∧ leaves) ∧
              (∀ (a : Node) (r : NodeRecord), bound t d → (t.stg.image.chan.get d).nodeAddr = a.val + 1 →
                s.enr.table.get a = some r →
                (¬bound s d → t.chans.get d = boundUnit (s.chans.get d) r ∧ stays) ∧
                (bound s d → moved → t.chans.get d = boundUnit (unboundUnit (s.chans.get d)) r ∧ leaves))))) ∧
    ((24 ≤ id.toNat ∧ id.toNat < 32) ∨ 0x3E < id.toNat →
      exec (.writeSetting path ch id v) s = .next (delivered path (denied 5 .badArgument) s))

/-- LOAD BASELINE in SETUP writes eight clamped bins from the first and makes the working profile a copy of the whole
baseline; a first bin above 56 is BAD_ARGUMENT and a teach of the channel BUSY; it has no side form. -/
def Obligations.LoadBaselineWritesEightBins : Prop :=
  ∀ (s : State) (ch first : Byte) (c : Chan) (values : Oct (BitVec 16)), ch.toNat = c.val → dispatched .command s →
    s.stg.phase = .setup →
    (56 < first.toNat →
      exec (.loadBaseline .command ch first values) s = .next (delivered .command (denied 6 .badArgument) s)) ∧
    (first.toNat ≤ 56 → (s.chans.get c).prof.teach = .running →
      exec (.loadBaseline .command ch first values) s = .next (delivered .command (denied 6 .busy) s)) ∧
    (first.toNat ≤ 56 → (s.chans.get c).prof.teach ≠ .running →
      ∃ bins : Bins Nat,
        (∀ b : Fin 64, (b.val < first.toNat ∨ first.toNat + 8 ≤ b.val) →
          bins.get b = (s.stg.image.baseline.get c).get b) ∧
        (∀ (i : Fin 8) (b : Fin 64), b.val = first.toNat + i.val →
          (bins.get b : Int) = max 0 (min 4095 (values.get i).toInt)) ∧
        exec (.loadBaseline .command ch first values) s = .next (delivered .command
          (ok 6 (BitVec.ofNat 6 first.toNat ++ 0#42))
          (withUnit (withImage s fun i => { i with baseline := i.baseline.set c bins }) c fun u =>
            { u with prof := { u.prof with working := bins } }))) ∧
    exec (.loadBaseline .side ch first values) s = .next (delivered .side (denied 6 .unknownCommand) s)

/-- SET ZONE in SETUP replaces the record at an index below the count and appends otherwise, with its checks in order;
CLEAR ZONES empties the list; both are BUSY during a teach of the channel. -/
def Obligations.ZoneCommandsWriteTheList : Prop :=
  ∀ (s : State) (path : Path) (ch index : Byte) (c : Chan) (x y : BitVec 13) (kind : BitVec 4) (adjust : BitVec 8),
    ch.toNat = c.val → dispatched path s → s.stg.phase = .setup →
    let zs := s.stg.image.zones.get c
    let lo : Int := max (-255) x.toInt
    let hi : Int := max (-255) y.toInt
    let set := exec (.setZone path ch index x y kind adjust) s
    (5 < index.toNat ∨ 2 < kind.toNat ∨ hi < lo → set = .next (delivered path (denied 7 .badArgument) s)) ∧
    (index.toNat ≤ 5 → kind.toNat ≤ 2 → lo ≤ hi → (s.chans.get c).prof.teach = .running →
      set = .next (delivered path (denied 7 .busy) s)) ∧
    (∀ k : ZoneKind, index.toNat ≤ 5 → kind.toNat = ZoneKind.code k → lo ≤ hi → (s.chans.get c).prof.teach ≠ .running →
      let z : Zone := { start := lo, stop := hi, kind := ZoneKind.code k, adjust := adjust.toInt }
      (index.toNat < zs.length → set = .next (delivered path
        (ok 7 (BitVec.ofNat 3 index.toNat ++ BitVec.ofNat 3 zs.length ++ 0#42))
        (withImage s fun i => { i with zones := i.zones.set c (zs.set index.toNat z) }))) ∧
      (zs.length ≤ index.toNat → set = .next (delivered path
        (ok 7 (BitVec.ofNat 3 zs.length ++ BitVec.ofNat 3 (zs.length + 1) ++ 0#42))
        (withImage s fun i => { i with zones := i.zones.set c (zs ++ [z]) })))) ∧
    ((s.chans.get c).prof.teach = .running → exec (.clearZones path ch) s = .next (delivered path (denied 8 .busy) s)) ∧
    ((s.chans.get c).prof.teach ≠ .running →
      exec (.clearZones path ch) s = .next (delivered path (ok 8 0)
        (withImage s fun i => { i with zones := i.zones.set c [] })))

/-- TEACH in SETUP, on an IDLE referenced channel near its open end without CONFIG_FAULT, sets the teach RUNNING and queues
a latched USER close with no target; otherwise it is NOT_APPLICABLE and changes nothing. -/
def Obligations.TeachQueuesItsStroke : Prop :=
  ∀ (s : State) (path : Path) (ch : Byte) (c : Chan), ch.toNat = c.val → dispatched path s → s.stg.phase = .setup →
    let u := s.chans.get c
    let travel : Nat := (s.stg.image.chan.get c).travel
    let fits := u.ctl.st = .idle ∧ u.ctl.referenced = true ∧ (travel : Int) - (travel / 16 : Nat) ≤ u.ctl.pos ∧
      s.stg.configFault = false
    (fits → exec (.teach path ch) s = .next (delivered path (ok 9 0)
      { withUnit s c (fun u => { u with
          ctl := { u.ctl with
            st := .waiting, hold := none
            latched := { blindStop := false, drift := false, profileRepaired := false, orderRefused := false,
                         startTimeout := false } }
          prof := { u.prof with teach := .running, teachVisited := 0 } }) with
        arb := { s.arb with queue := s.arb.queue ++
          [{ channel := c, join := s.now, expiry := s.now + 100 * s.stg.image.glob.queueTimeout,
             motion := { dir := .toClosed, origin := .latched, cls := .user, target := none } }] } })) ∧
    (¬fits → exec (.teach path ch) s = .next (delivered path (denied 9 .notApplicable) s))

/-- LOCK-IN in SETUP: BUSY while a teach runs or an enrollment run is in progress, CHECK_FAILED with check and channel where
a check fails, and otherwise OK with its store write begun over the working image and its check value. The checks come in
order: the levels, the temperatures, the thresholds, each reported with channel 0; then over the used channels distinct
addresses, reported with the higher of a clashing pair, and valid zone lists, bins of at least 1, and presets and reverse
distance within the travel, each reported with the first failing channel. That the store is written and does not verify from
the beginning of the write is the model's, log 19, and so is that the image written is the one of that moment, log 38; which of
several clashing pairs is reported is a free value, log 5. -/
def Obligations.LockInChecksThenWrites : Prop :=
  (∀ (s : State) (path : Path), dispatched path s → s.stg.phase = .setup →
    let busy := s.enr.st ≠ .idle ∨ ∃ c : Chan, (s.chans.get c).prof.teach = .running
    (busy → exec (.lockIn path) s = .next (delivered path (denied 10 .busy) s)) ∧
    (∀ check channel : Nat, ¬busy → lockInFailure s.stg.image = some (check, channel) →
      exec (.lockIn path) s = .next (delivered path
        { code := 10, status := .checkFailed, data := BitVec.ofNat 8 check ++ BitVec.ofNat 8 channel ++ 0#32 } s)) ∧
    (¬busy → lockInFailure s.stg.image = none →
      exec (.lockIn path) s = .next (delivered path (ok 10 0) { s with stg := { s.stg with
        write := some (.lockIn s.stg.image (checkValue s.stg.image)), storeFail := false
        store := { s.stg.store with written := true, torn := true } } }))) ∧
  (∀ i : Image,
    let used := fun c : Chan => (i.chan.get c).nodeAddr ≠ 0
    let travels := fun c : Chan =>
      (i.chan.get c).preset0 ≤ (i.chan.get c).travel ∧ (i.chan.get c).preset1 ≤ (i.chan.get c).travel ∧
      (i.chan.get c).preset2 ≤ (i.chan.get c).travel ∧ (i.chan.get c).preset3 ≤ (i.chan.get c).travel ∧
      (i.chan.get c).reverseDist ≤ (i.chan.get c).travel
    let pass1 := i.glob.uvLevel0 < i.glob.uvLevel2
    let pass2 := i.glob.cold2Temp < i.glob.cold1Temp
    let pass3 := i.glob.q7 ≤ i.glob.q6 ∧ i.glob.q6 ≤ i.glob.q5 ∧ i.glob.q5 ≤ i.glob.q4 ∧ i.glob.q4 ≤ i.glob.q3 ∧
      i.glob.q3 ≤ i.glob.q2 ∧ i.glob.q2 ≤ i.glob.q1
    let pass4 := ∀ c d : Chan, used c → used d → (i.chan.get c).nodeAddr = (i.chan.get d).nodeAddr → c = d
    let pass5 := fun c : Chan => used c → zonesValid (i.zones.get c) = true
    let pass6 := fun c : Chan => used c → ∀ b : Fin 64, 1 ≤ (i.baseline.get c).get b
    let pass7 := fun c : Chan => used c → travels c
    (¬pass1 → lockInFailure i = some (1, 0)) ∧
    (pass1 → ¬pass2 → lockInFailure i = some (2, 0)) ∧
    (pass1 → pass2 → ¬pass3 → lockInFailure i = some (3, 0)) ∧
    (pass1 → pass2 → pass3 → ¬pass4 → ∃ c d : Chan, d < c ∧ used c ∧ used d ∧
      (i.chan.get c).nodeAddr = (i.chan.get d).nodeAddr ∧ lockInFailure i = some (4, c.val)) ∧
    (pass1 → pass2 → pass3 → pass4 → ∀ c : Chan, ¬pass5 c → (∀ d : Chan, d < c → pass5 d) →
      lockInFailure i = some (5, c.val)) ∧
    (pass1 → pass2 → pass3 → pass4 → (∀ d : Chan, pass5 d) → ∀ c : Chan, ¬pass6 c → (∀ d : Chan, d < c → pass6 d) →
      lockInFailure i = some (6, c.val)) ∧
    (pass1 → pass2 → pass3 → pass4 → (∀ d : Chan, pass5 d) → (∀ d : Chan, pass6 d) → ∀ c : Chan, ¬pass7 c →
      (∀ d : Chan, d < c → pass7 d) → lockInFailure i = some (7, c.val)) ∧
    (pass1 → pass2 → pass3 → pass4 → (∀ d : Chan, pass5 d) → (∀ d : Chan, pass6 d) → (∀ d : Chan, pass7 d) →
      lockInFailure i = none))

/-- ENROLL in SETUP: BUSY during a run; otherwise the node table and the schedule are emptied, every channel is ABSENT as one that
becomes unbound, with no inhibit cause and a running teach failed with INHIBITED, whatever state it was in; the queue is empty and
no slot is held, the bus power is off for 20 ms, and escalation, settings and store stand.
That the offers start at address 1 with miss count 0, and that slot 0 is judged for nothing and no reply slot is read any more
of a cycle in hand, is the model's, log 21. -/
def Obligations.EnrollStartsARun : Prop :=
  ∀ (s : State) (path : Path), dispatched path s → s.stg.phase = .setup →
    (s.enr.st ≠ .idle → exec (.enroll path) s = .next (delivered path (denied 11 .busy) s)) ∧
    (s.enr.st = .idle →
      ∃ t, exec (.enroll path) s = .next (delivered path (ok 11 0) t) ∧
        (∀ a : Node, t.enr.table.get a = none ∧ t.enr.schedule.get a = false) ∧ t.enr.rejoinCount = 0 ∧
        t.enr.st = .busOff ∧ t.enr.settle = some (s.now + 40) ∧ t.enr.offer = 0 ∧ t.enr.miss = 0 ∧
        t.enr.slot0 = .unused ∧ t.enr.reading = none ∧ t.enr.followUp = none ∧ t.enr.fromCold = false ∧
        t.enr.mismatch = s.enr.mismatch ∧ t.br = { s.br with busPower := false } ∧ t.arb.queue = [] ∧
        t.arb.stagger = s.arb.stagger ∧
        (∀ c : Chan, t.arb.slots.get c = false ∧ t.chans.get c = unboundUnit (s.chans.get c)) ∧
        t.stg = s.stg ∧ t.trk = s.trk ∧ t.ctx = s.ctx ∧ t.rst = s.rst ∧ t.now = s.now)

/-! ### The store and the configuration check -/

/-- The completion of a store write that verifies: LOCK-IN enters RUN with the value locked, every working profile a copy of
its baseline and the check at segment 0; REOPEN enters SETUP with the mark clear and no locked value. One that fails sets
STORE_FAIL and leaves the phase. That a completion may come at any time, and that a failed write leaves the store written and
not verifying, is the model's, log 19, and so is that the store takes the image of the beginning of the write, log 38. -/
def Obligations.StoreWriteCompletionsSetThePhase : Prop :=
  ∀ s : State, s.rst.active = false →
    (∀ (i : Image) (check : BitVec 16), s.stg.write = some (.lockIn i check) →
      exec (.lockInStoreWriteComplete false) s = .next { s with stg := { s.stg with write := none, storeFail := true } } ∧
      exec (.lockInStoreWriteComplete true) s = .next { s with
        chans := Oct.ofFn fun c =>
          { s.chans.get c with prof := { (s.chans.get c).prof with working := s.stg.image.baseline.get c } }
        stg := { s.stg with
          write := none, storeInvalid := false, locked := some check, phase := .run, scanPos := 0, scanCrc := 0xFFFF
          lastPass := none, checkTimer := some (s.now + 20)
          store := { written := true, torn := false, image := i, check := check, mark := true } } }) ∧
    (s.stg.write = some .reopen →
      exec (.reopenStoreWriteComplete false) s = .next { s with stg := { s.stg with write := none, storeFail := true } } ∧
      exec (.reopenStoreWriteComplete true) s = .next { s with stg := { s.stg with
        write := none, storeInvalid := false, locked := none, phase := .setup, lastPass := none, checkTimer := none
        store := { s.stg.store with torn := false, mark := false } } })

/-- A check step in RUN takes the segment of 15 values at the scan position into the running CRC-16; the step that completes
segment 63 compares the pass with the locked value, sets CONFIG_FAULT on a mismatch alone and starts a new pass. The 64 segments
are the 935 values in order, so a pass over an undisturbed image computes its check value. A row that comes before the timer has
been reached does nothing: the model's reading, log 1; that a missing locked value is a mismatch, the model's choice, log 33. -/
def Obligations.CheckStepsComputeTheCheckValue : Prop :=
  (∀ s : State, s.rst.active = false → ¬reached s.stg.checkTimer s.now → exec .checkStep s = .next s) ∧
  (∀ s : State, s.rst.active = false → s.stg.phase = .run → reached s.stg.checkTimer s.now →
    let crc := crc16From s.stg.scanCrc (valueBytes (((imageValues s.stg.image).drop (15 * s.stg.scanPos)).take 15))
    (s.stg.scanPos < 63 → exec .checkStep s = .next { s with stg := { s.stg with
      scanPos := s.stg.scanPos + 1, scanCrc := crc, checkTimer := some (s.now + 20) } }) ∧
    (s.stg.scanPos = 63 → exec .checkStep s = .next { s with stg := { s.stg with
      scanPos := 0, scanCrc := 0xFFFF, lastPass := some crc, checkTimer := some (s.now + 20)
      configFault := s.stg.configFault || decide (s.stg.locked ≠ some crc) } })) ∧
  (∀ i : Image, (imageValues i).length = 935 ∧
    (List.range 64).foldl (fun crc n => crc16From crc (valueBytes (((imageValues i).drop (15 * n)).take 15))) 0xFFFF =
      checkValue i)

/-- A storage fault puts any value into the place it disturbs, in every state of the part and whatever range the rules give the
value, and changes nothing else: each setting, zone list and bin of the image as any 16-bit value, each record of each block,
and the clock. That the numbers of the image are 16 bits wide, and that a number that is not, or a list longer than its
places, stops by name, is the model's choice, log 20. -/
def Obligations.StorageFaultChangesTheNamedValue : Prop :=
  ∀ s : State,
    let puts := fun (p : StoragePlace) (t : State) => exec (.storageFault p) s = .next t
    (∀ (c : Chan) (k : ChanSetting) (v : Int), 0 ≤ v → v ≤ 65535 →
      ∃ g : ChanSettings, g.read k = v ∧ (∀ j, j ≠ k → g.read j = (s.stg.image.chan.get c).read j) ∧
        puts (.chanSetting c k v) (withImage s fun i => { i with chan := i.chan.set c g })) ∧
    (∀ (k : GlobSetting) (v : Int), (0 ≤ v ∧ v ≤ 65535 ∧ 0 ≤ k.range.1) ∨ (-32768 ≤ v ∧ v ≤ 32767 ∧ k.range.1 < 0) →
      ∃ g : GlobSettings, g.read k = v ∧ (∀ j, j ≠ k → g.read j = s.stg.image.glob.read j) ∧
        puts (.globSetting k v) (withImage s fun i => { i with glob := g })) ∧
    (∀ (c : Chan) (zs : List Zone), zs.length ≤ 6 →
      (∀ z ∈ zs, -32768 ≤ z.start ∧ z.start ≤ 32767 ∧ -32768 ≤ z.stop ∧ z.stop ≤ 32767 ∧ z.kind ≤ 65535 ∧
        -32768 ≤ z.adjust ∧ z.adjust ≤ 32767) →
      puts (.zones c zs) (withImage s fun i => { i with zones := i.zones.set c zs })) ∧
    (∀ (c : Chan) (b : Fin 64) (v : Nat), v ≤ 65535 →
      puts (.baselineBin c b v)
        (withImage s fun i => { i with baseline := i.baseline.set c ((i.baseline.get c).set b v) }) ∧
      puts (.workingBin c b v)
        (withUnit s c fun u => { u with prof := { u.prof with working := u.prof.working.set b v } })) ∧
    (∀ (c : Chan) (b : Fin 64) (v : Nat), 65535 < v →
      exec (.storageFault (.baselineBin c b v)) s = .fault .valueNotHeld ∧
      exec (.storageFault (.workingBin c b v)) s = .fault .valueNotHeld) ∧
    (∀ (c : Chan) (r : ChannelRecord), puts (.channel c r) (withUnit s c fun u => { u with ctl := r })) ∧
    (∀ (c : Chan) (r : EngineContext), puts (.engine c r) (withUnit s c fun u => { u with eng := r })) ∧
    (∀ (c : Chan) (r : ProfileContext),
      puts (.profile c r) (withUnit s c fun u => { u with prof := r })) ∧
    (∀ (c : Chan) (r : ReversalContext),
      puts (.reversal c r) (withUnit s c fun u => { u with rev := r })) ∧
    (∀ (c : Chan) (r : SupplyContext), puts (.supply c r) (withUnit s c fun u => { u with sup := r })) ∧
    (∀ (c : Chan) (r : TripRecord),
      puts (.readCopy c r) (withUnit s c fun u => { u with readCopy := r })) ∧
    (∀ r : ContextUnit, puts (.context r) { s with ctx := r }) ∧
    (∀ r : SlotArbiter, r.queue.length ≤ 8 → puts (.arbiter r) { s with arb := r }) ∧
    (∀ (a : Node) (r : NodeContext),
      puts (.branchNode a r) { s with br := { s.br with nodes := s.br.nodes.set a r } }) ∧
    (∀ (timer : Option Nat) (power : Bool) (word : Option (BitVec 32)) (place : Nat),
      puts (.branchBus timer power word place)
        { s with br := { s.br with timer := timer, busPower := power, driveWord := word, place := place } }) ∧
    (∀ r : EnrollmentUnit, puts (.enrollment r) { s with enr := r }) ∧
    (∀ r : TrunkPort, r.answers.length ≤ 4 → (∀ got, r.collector = .collecting got → 1 ≤ got.length ∧ got.length ≤ 3) →
      puts (.trunk r) { s with trk := r }) ∧
    (∀ r : SettingsUnit, r.image.fits = true → r.store.image.fits = true →
      (∀ i check, r.write = some (.lockIn i check) → i.fits = true) → puts (.settings r) { s with stg := r }) ∧
    (∀ r : ResetUnit, puts (.resets r) { s with rst := r }) ∧
    (∀ now : Nat, puts (.clock now) { s with now := now })

/-! ### Timers -/

/-- The expiry of a running hold timer ends the held motion or entry the channel carries: its slot is released, its entry
removed, and it goes to IDLE. A queue timeout removes the entry, sends the channel to IDLE with START_TIMEOUT latched and its
hold timer stopped, and fails a teach entry with ORDER; an entry left to a channel that is not WAITING is removed alone; where
the channel has no entry it does nothing. That the first of several entries takes the others with it is the model's choice, log
33. That an expiry row does nothing while its timer is stopped or has not been reached is the model's reading, log 1; so an
expiry that a renewed order, a trip or a CYCLE frame has overtaken has no effect. -/
def Obligations.TimersActOnlyWhenReached : Prop :=
  ∀ (s : State) (c : Chan), s.rst.active = false →
    (∀ m : Motion, reached (s.chans.get c).ctl.hold s.now → carries s c m → m.origin = .held →
      exec (.holdTimerExpiry c) s = .next (idled s c fun u => u)) ∧
    (∀ e ∈ s.arb.queue, (s.chans.get c).ctl.st = .waiting → e.channel = c → e.expiry ≤ s.now →
      exec (.queueTimeout c) s = .next (idled s c fun u => { u with
        ctl := { u.ctl with latched := { u.ctl.latched with startTimeout := true } }
        prof := if u.prof.teach = .running then { u.prof with teach := .failed .order, teachVisited := 0 } else u.prof })) ∧
    (¬reached (s.chans.get c).ctl.hold s.now → exec (.holdTimerExpiry c) s = .next s) ∧
    ((s.chans.get c).ctl.st ≠ .waiting → exec (.queueTimeout c) s = .next { s with arb := { s.arb with
      queue := s.arb.queue.filter fun e => decide (¬(e.channel = c ∧ e.expiry ≤ s.now)) } }) ∧
    ((∀ e ∈ s.arb.queue, e.channel = c → s.now < e.expiry) → exec (.queueTimeout c) s = .next s) ∧
    (¬reached (s.chans.get c).rev.window s.now → exec (.escalationWindowExpiry c) s = .next s) ∧
    (¬reached s.trk.lossTimer s.now → exec .trunkLoss s = .next s) ∧
    (¬reached s.br.timer s.now → exec .branchCycleStart s = .next s)

/-- On expiry of a running escalation window timer e becomes 0 and the timer stops, in every channel state, and nothing
else changes. -/
def Obligations.EscalationWindowExpiryClearsE : Prop :=
  ∀ (s : State) (c : Chan), s.rst.active = false → reached (s.chans.get c).rev.window s.now →
    exec (.escalationWindowExpiry c) s =
      .next (withUnit s c fun u => { u with rev := { u.rev with level := 0, window := none } })

/-- Trunk loss: the stale defaults, last orders NONE, every entry flushed without START_TIMEOUT, a teach entry failing its teach
with ORDER, held motion ended, latched motion and reversals running on, the side channel at rest without SIDE_ABORT,
TRUNK_WAS_LOST latched, answers kept. That a WAITING channel which has no entry goes to IDLE too is the model's choice, log 33.
-/
def Obligations.TrunkLossActsOnItsOwners : Prop :=
  ∀ s : State, s.rst.active = false → reached s.trk.lossTimer s.now →
    ∃ t, exec .trunkLoss s = .next t ∧
      t.ctx = { speed := 0, rough := 0, temp := 25, crank := false, movingL := false, movingR := false, fresh := false } ∧
      t.trk = { s.trk with lossTimer := none, collector := .idle, response := none, wasLost := true } ∧
      t.arb.stagger = s.arb.stagger ∧ t.arb.queue = [] ∧ t.br = s.br ∧ t.enr = s.enr ∧ t.stg = s.stg ∧ t.rst = s.rst ∧
      t.now = s.now ∧
      ∀ c : Chan,
        (t.chans.get c).ctl.lastOrder = { kind := .none, source := .user, preset := 0 } ∧
        (t.chans.get c).ctl.latched = (s.chans.get c).ctl.latched ∧
        ((s.chans.get c).ctl.st = .waiting → (t.chans.get c).ctl.st = .idle ∧ (t.chans.get c).ctl.hold = none ∧
          ∀ e : Entry, s.entryOf c = some e → e.motion.origin = .latched → (t.chans.get c).prof =
            if (s.chans.get c).prof.teach = .running then
              { (s.chans.get c).prof with teach := .failed .order, teachVisited := 0 }
            else (s.chans.get c).prof) ∧
        (∀ m, ((s.chans.get c).ctl.st = .opening ∨ (s.chans.get c).ctl.st = .closing) →
          (s.chans.get c).ctl.motion = some m → m.origin = .held →
          (t.chans.get c).ctl.st = .idle ∧ t.arb.slots.get c = false) ∧
        (∀ m, ((s.chans.get c).ctl.st = .opening ∨ (s.chans.get c).ctl.st = .closing) →
          (s.chans.get c).ctl.motion = some m → m.origin = .latched →
          (t.chans.get c).ctl.st = (s.chans.get c).ctl.st ∧ t.arb.slots.get c = s.arb.slots.get c ∧
          (t.chans.get c).eng = (s.chans.get c).eng) ∧
        ((s.chans.get c).ctl.st = .reversing → (t.chans.get c).ctl.st = .reversing ∧
          t.arb.slots.get c = s.arb.slots.get c ∧ (t.chans.get c).rev = (s.chans.get c).rev)

/-! ### Branch port and enrollment -/

/-- A branch cycle starts where its timer has been reached: the timer restarts with the period as it stands, every node's
cycles since last good rise by 1 held at 255, the place in the cycle is slot 1, and the drive word carries CLOSE only for a
CLOSING, OPEN only for an OPENING or REVERSING channel, HOLD otherwise, and the assign value of the enrollment unit: 0, the
address offered, or the address of a rejoin. The channel bound to an address is the lowest that carries it and is not ABSENT. -/
def Obligations.BranchCycleStartBuildsTheDriveWord : Prop :=
  (∀ s : State, s.rst.active = false → reached s.br.timer s.now → s.br.place = 9 →
    ∃ (t : State) (cmds : Oct DriveCommand) (assign : Nat), exec .branchCycleStart s = .next t ∧
      (t.enr.slot0 = .unused → assign = 0) ∧ (t.enr.slot0 = .offer → assign = t.enr.offer.val + 1) ∧
      (∀ a : Node, t.enr.slot0 = .rejoin a → assign = a.val + 1) ∧
      t.br = { timer := some (s.now + s.stg.image.glob.branchPeriod), busPower := s.br.busPower, place := 0
               driveWord := some (driveWordOf cmds assign), nodes := t.br.nodes } ∧
      (∀ a : Node, t.br.nodes.get a = { s.br.nodes.get a with since := min 255 ((s.br.nodes.get a).since + 1) }) ∧
      (∀ a : Node, (cmds.get a = .closes ↔ ∃ c, t.channelOf a = some c ∧ (t.chans.get c).ctl.st = .closing) ∧
        (cmds.get a = .opens ↔ ∃ c, t.channelOf a = some c ∧
          ((t.chans.get c).ctl.st = .opening ∨ (t.chans.get c).ctl.st = .reversing))) ∧
      t.stg = s.stg ∧ t.ctx = s.ctx ∧ t.trk = s.trk ∧ t.rst = s.rst ∧ t.now = s.now) ∧
  (∀ (s : State) (a : Node) (c : Chan),
    let serves := fun d : Chan => (s.chans.get d).ctl.st ≠ .absent ∧ (s.stg.image.chan.get d).nodeAddr = a.val + 1
    s.channelOf a = some c ↔ serves c ∧ ∀ d : Chan, d < c → ¬serves d)

/-- The nine slots of a cycle end once each, the reply slots 1 to 8 in that order and slot 0 last, before the next cycle
starts: a row for a slot that has ended does nothing; a row for a later slot, the row of slot 0 and the next cycle start find
the slots passed over ended with nothing received. That a slot which no row has brought ends SILENT, and that a row for a slot
already ended has no effect, is the model's choice, log 32. -/
def Obligations.SlotsEndInTheirOrder : Prop :=
  ∀ (s : State) (content : SlotContent), s.rst.active = false →
    (∀ a : Node, a.val < s.br.place → exec (.replySlotEnd a content) s = .next s) ∧
    (8 < s.br.place → exec (.slot0End content) s = .next s) ∧
    (∀ a : Node, s.br.place ≤ a.val → ∃ t, exec (.replySlotEnd a content) s = .next t ∧ t.br.place = a.val + 1) ∧
    (s.br.place ≤ 8 → ∃ t, exec (.slot0End content) s = .next t ∧ t.br.place = 9) ∧
    (∀ a b : Node, s.br.place = a.val → a.val < b.val → ∃ u, exec (.replySlotEnd a .silent) s = .next u ∧
      exec (.replySlotEnd b content) s = exec (.replySlotEnd b content) u) ∧
    (∀ a : Node, s.br.place = a.val → ∃ u, exec (.replySlotEnd a .silent) s = .next u ∧
      exec (.slot0End content) s = exec (.slot0End content) u) ∧
    (s.br.place ≤ 8 → reached s.br.timer s.now → ∃ u, exec (.slot0End .silent) s = .next u ∧ u.br.place = 9 ∧
      exec .branchCycleStart s = exec .branchCycleStart u)

/-- The grant decision of a branch cycle start: with no entry eligible, no free slot, CRANK set or the stagger count short of
STAGGER nothing is granted. Otherwise the winner is the eligible entry of the best class, USER before RAIN before GLOBAL,
earliest in the queue; a SLIDER's entry is not eligible while its side's panel moves. The winner leaves the queue, takes a slot,
and starts its motion with the stagger count at 0. A grant into CLOSING opens the stroke: every entry of the stroke record
unvisited, and its marks set by the phase, the escalation level and the teach state at the grant; one into OPENING opens
nothing, and a stroke that a storage fault has left in hand closes. That the winner takes other entries of its channel with it,
where a storage fault has left several, is the model's choice, log 33. -/
def Obligations.GrantDecisionGrantsTheWinner : Prop :=
  ∀ s : State, s.rst.active = false → reached s.br.timer s.now → s.br.place = 9 →
    let stagger := min 16 (s.arb.stagger + 1)
    let held := s.arb.slots.toList.countP (fun b => b)
    ∃ t, exec .branchCycleStart s = .next t ∧
      ((s.stg.image.glob.slots ≤ held ∨ s.ctx.crank = true ∨ stagger < s.stg.image.glob.stagger ∨
          ∀ x ∈ s.arb.queue, sideMoving s x.channel) →
        t.arb = { s.arb with stagger := stagger } ∧ t.chans = s.chans) ∧
      (∀ (before later : List Entry) (e : Entry), held < s.stg.image.glob.slots → s.ctx.crank = false →
        s.stg.image.glob.stagger ≤ stagger → s.arb.queue = before ++ e :: later → ¬sideMoving s e.channel →
        (∀ x ∈ before, sideMoving s x.channel ∨ classRank e.motion.cls < classRank x.motion.cls) →
        (∀ x ∈ later, sideMoving s x.channel ∨ classRank e.motion.cls ≤ classRank x.motion.cls) →
        t.arb = { slots := s.arb.slots.set e.channel true, stagger := 0
                  queue := s.arb.queue.filter fun x => decide (x.channel ≠ e.channel) } ∧
        (t.chans.get e.channel).ctl = { (s.chans.get e.channel).ctl with
          st := if e.motion.dir = .toOpen then .opening else .closing, motion := some e.motion } ∧
        (e.motion.dir = .toClosed →
          (t.chans.get e.channel).eng = { (s.chans.get e.channel).eng with
            f16 := 0, first := true, acc := 0, blank := (s.stg.image.chan.get e.channel).blanking } ∧
          (t.chans.get e.channel).sup.strokeMask = 0 ∧
          (∀ b : Fin 64, (t.chans.get e.channel).prof.stroke.get b = none) ∧ (t.chans.get e.channel).prof.visited = 0 ∧
          ((t.chans.get e.channel).prof.marks.openedInRun = true ↔ s.stg.phase = .run) ∧
          ((t.chans.get e.channel).prof.marks.escZero = true ↔ (s.chans.get e.channel).rev.level = 0) ∧
          ((t.chans.get e.channel).prof.marks.teachStroke = true ↔ (s.chans.get e.channel).prof.teach = .running) ∧
          (t.chans.get e.channel).prof.working = (s.chans.get e.channel).prof.working ∧
          (t.chans.get e.channel).prof.teach = (s.chans.get e.channel).prof.teach) ∧
        (e.motion.dir = .toOpen → (t.chans.get e.channel).eng = (stopped (s.chans.get e.channel) .idle).eng ∧
          (t.chans.get e.channel).prof = (s.chans.get e.channel).prof) ∧
        (∀ d : Chan, d ≠ e.channel → t.chans.get d = s.chans.get d))

/-- The times of the enrollment unit: the bus-off time, where it has been reached, ends with the power on and SETTLE for 20 ms;
a settle time that has run out lets the next cycle start offer; a rejoin attempt, at the 64th cycle start or by its own row,
puts the lowest address of the schedule into slot 0 and into the assign field of the cycle's drive word, whose drive commands
stand and whose CRC-8 follows. A cycle that repeats an offer after a miss reads the reply slot of the address offered, and the
cycle after an unanswered rejoin that of its address. A cycle start with the bus off, or with no run in progress and no
schedule, assigns nothing. A time not reached, and an attempt during a run or with no schedule, does nothing. That the offers
begin at the first cycle start after the settle time is log 14, that the row of the attempt acts within the running cycle log
15, and that a row before its time does nothing log 1 (the model's). -/
def Obligations.EnrollmentTimesMoveTheUnit : Prop :=
  ∀ s : State, s.rst.active = false →
    (s.enr.st = .busOff → reached s.enr.settle s.now → exec .busOffExpiry s = .next { s with
      enr := { s.enr with st := .settle, settle := some (s.now + 40) }, br := { s.br with busPower := true } }) ∧
    (s.enr.st ≠ .busOff ∨ ¬reached s.enr.settle s.now → exec .busOffExpiry s = .next s) ∧
    (s.enr.st = .settle → reached s.enr.settle s.now →
      exec .nodeSettleExpiry s = .next { s with enr := { s.enr with settle := none } }) ∧
    (s.enr.st ≠ .settle ∨ ¬reached s.enr.settle s.now → exec .nodeSettleExpiry s = .next s) ∧
    (s.enr.st = .settle → s.enr.settle = none ∨ reached s.enr.settle s.now → reached s.br.timer s.now → s.br.place = 9 →
      ∃ t, exec .branchCycleStart s = .next t ∧ t.enr.st = .offering ∧ t.enr.slot0 = .offer ∧ t.enr.offer = s.enr.offer) ∧
    (∀ n : Nat, s.enr.st = .settle → s.enr.settle = some n → s.now < n → reached s.br.timer s.now → s.br.place = 9 →
      ∃ t, exec .branchCycleStart s = .next t ∧ t.enr.st = .settle ∧ t.enr.slot0 = .unused) ∧
    (∀ a : Node, s.enr.st = .idle → s.enr.schedule.get a = true → (∀ b : Node, b < a → s.enr.schedule.get b = false) →
      (∃ word : Option (BitVec 32), exec .rejoinAttempt s = .next { s with
          enr := { s.enr with rejoinCount := 0, slot0 := .rejoin a }, br := { s.br with driveWord := word } } ∧
        (s.br.driveWord = none → word = none) ∧
        (∀ w : BitVec 32, s.br.driveWord = some w → ∃ w' : BitVec 32, word = some w' ∧ assigns w w' (a.val + 1))) ∧
      (reached s.br.timer s.now → s.br.place = 9 → ∃ t, exec .branchCycleStart s = .next t ∧
        (s.enr.rejoinCount < 63 → t.enr.slot0 = .unused ∧ t.enr.rejoinCount = s.enr.rejoinCount + 1) ∧
        (s.enr.rejoinCount = 63 → t.enr.slot0 = .rejoin a ∧ t.enr.rejoinCount = 0))) ∧
    (s.enr.st = .offering → reached s.br.timer s.now → s.br.place = 9 →
      ∃ t, exec .branchCycleStart s = .next t ∧ t.enr.st = .offering ∧ t.enr.slot0 = .offer ∧ t.enr.offer = s.enr.offer ∧
        t.enr.miss = s.enr.miss ∧ (0 < s.enr.miss → t.enr.reading = some s.enr.offer)) ∧
    (s.enr.st = .idle → reached s.br.timer s.now → s.br.place = 9 →
      ∃ t, exec .branchCycleStart s = .next t ∧ t.enr.reading = s.enr.followUp ∧ t.enr.followUp = none) ∧
    (s.enr.st = .busOff ∨ (s.enr.st = .idle ∧ ∀ a : Node, s.enr.schedule.get a = false) →
      reached s.br.timer s.now → s.br.place = 9 → ∃ t, exec .branchCycleStart s = .next t ∧
        t.enr = { s.enr with slot0 := .unused, reading := s.enr.followUp, followUp := none }) ∧
    (s.enr.st ≠ .idle ∨ (∀ a : Node, s.enr.schedule.get a = false) → exec .rejoinAttempt s = .next s)

/-- The slot of an address with no record or a LOST one is not judged: whatever it carries is taken no further. A judged slot is
SILENT where nothing was received, CRC_BAD where its frame does not check, STALE where it carries no FRESH_START and repeats the
last good keep-alive, else GOOD; a GOOD sample of an address that no channel is bound to moves its node context alone. A bad
slot carries nothing on. Below the loss test and before a window end, the bad run and the window counts rise, and nothing else
changes below BLIND_COUNT or where no channel in motion is bound to the address; where the run has reached BLIND_COUNT, a
channel in motion on that address stops: IDLE, slot released, its stroke closed, BLIND_STOP latched, reference and position
kept, a running teach failed with BLIND. That the run is held at 63 and the window bad count at 512, and that a window above
GRADE_WINDOW 3 is as long as the formula says, is the model's choice, log 33. -/
def Obligations.BadSlotsCountAndStopBlindMotion : Prop :=
  (∀ keep : Option (BitVec 2), slotOutcome keep .silent = .silent ∧ ∀ bits : List Bool,
    (sampleOf bits = none → slotOutcome keep (.frame bits) = .crcBad) ∧
    ∀ m : Sample, sampleOf bits = some m →
      (m.freshStart = false ∧ keep = some m.keep → slotOutcome keep (.frame bits) = .stale) ∧
      (m.freshStart = true ∨ keep ≠ some m.keep → slotOutcome keep (.frame bits) = .good m)) ∧
  (∀ (s : State) (a : Node) (content : SlotContent), s.rst.active = false → s.br.place = a.val → s.enr.reading ≠ some a →
    ((∀ r : NodeRecord, s.enr.table.get a = some r → r.st = .lost) →
      exec (.replySlotEnd a content) s = .next (atPlace s (a.val + 1))) ∧
    (∀ (r : NodeRecord) (m : Sample), s.enr.table.get a = some r → r.st ≠ .lost →
      slotOutcome (s.br.nodes.get a).keep content = .good m → (∀ c : Chan, s.channelOf a ≠ some c) →
      (s.br.nodes.get a).winPos + 1 < 64 * 2 ^ s.stg.image.glob.gradeWindow →
      exec (.replySlotEnd a content) s = .next (atPlace { s with br := { s.br with
        nodes := s.br.nodes.set a { s.br.nodes.get a with
          badRun := 0, since := 0, keep := some m.keep, winPos := (s.br.nodes.get a).winPos + 1 } } } (a.val + 1)))) ∧
  ∀ (s : State) (a : Node) (r : NodeRecord) (content : SlotContent), s.rst.active = false → s.br.place = a.val →
    s.enr.reading ≠ some a → s.enr.table.get a = some r → r.st ≠ .lost →
    (∀ m, slotOutcome (s.br.nodes.get a).keep content ≠ .good m) →
    let n := s.br.nodes.get a
    n.winPos + 1 < 64 * 2 ^ s.stg.image.glob.gradeWindow → min 63 (n.badRun + 1) < s.stg.image.glob.lostCount →
    let n' := { n with badRun := min 63 (n.badRun + 1), winPos := n.winPos + 1, winBad := min 512 (n.winBad + 1) }
    (min 63 (n.badRun + 1) < s.stg.image.glob.blindCount ∨ (∀ c : Chan, s.channelOf a = some c → ¬moves s c) →
      exec (.replySlotEnd a content) s = .next { s with br := { s.br with nodes := s.br.nodes.set a n', place := a.val + 1 } }) ∧
    (∀ c : Chan, s.channelOf a = some c → moves s c → s.stg.image.glob.blindCount ≤ min 63 (n.badRun + 1) →
      exec (.replySlotEnd a content) s = .next { withUnit s c blindStopped with
        arb := { s.arb with slots := s.arb.slots.set c false
                            queue := s.arb.queue.filter fun e => decide (e.channel ≠ c) }
        br := { s.br with nodes := s.br.nodes.set a n', place := a.val + 1 } })

/-- The candidate grade of a window is the highest g in 1..7 whose threshold the count meets, 0 where it meets none; the grade
falls to it at once, or rises by one where the count clears the next threshold by GRADE_HYST. A bad slot that completes a window
sets the grade so, the worst grade to the lower where it changes, and the window to 0, and does what it does elsewhere. One that
brings the run to LOST_COUNT, or the grade to 0, loses the node: its record is LOST, with a mismatch mark if it was MISMATCH,
its address joins the schedule, its grades and window are 0, and the bound channel has NODE_LOST, is INHIBITED and keeps its
reference, unless it is still in motion. A GOOD slot that completes a window does what it does elsewhere, its sample applied
first, and then sets the grade in the same way from the bad count as it stands; one that brings it to 0 loses the node, judged
on the channel as the sample has left it. That the sample is applied before the slot is counted in the window is the model's
reading, log 18. That the run and the window bad count are held at 63 and 512, that a window above GRADE_WINDOW 3 is as long as
the formula says, and that a grade which a storage fault has left at 0 and which stays there loses the node as one brought to 0
does, is the model's choice, log 33. -/
def Obligations.GradesFallAndNodesAreLost : Prop :=
  (∀ (g : GlobSettings) (bad : Nat),
    (candidateGrade g bad = 0 ∧ ∀ k, 1 ≤ k → k ≤ 7 → g.q k < bad) ∨
    (1 ≤ candidateGrade g bad ∧ candidateGrade g bad ≤ 7 ∧ bad ≤ g.q (candidateGrade g bad) ∧
      ∀ k, candidateGrade g bad < k → k ≤ 7 → g.q k < bad)) ∧
  (∀ (g : GlobSettings) (grade bad : Nat),
    (candidateGrade g bad < grade → nextGrade g grade bad = candidateGrade g bad) ∧
    (grade < candidateGrade g bad →
      nextGrade g grade bad = if bad + g.gradeHyst ≤ g.q (grade + 1) then grade + 1 else grade) ∧
    (candidateGrade g bad = grade → nextGrade g grade bad = grade)) ∧
  (∀ (s : State) (a : Node) (r : NodeRecord) (content : SlotContent), s.rst.active = false → s.br.place = a.val →
    s.enr.reading ≠ some a → s.enr.table.get a = some r → r.st ≠ .lost →
    (∀ m, slotOutcome (s.br.nodes.get a).keep content ≠ .good m) →
    let n := s.br.nodes.get a
    let g := s.stg.image.glob
    let run := min 63 (n.badRun + 1)
    let ends := 64 * 2 ^ g.gradeWindow ≤ n.winPos + 1
    let grade := nextGrade g n.grade (min 512 (n.winBad + 1))
    let elsewhere : State := { s with br := { s.br with nodes := s.br.nodes.set a { n with winPos := 0 } } }
    let ended : NodeContext := { n with
      badRun := run, winPos := 0, winBad := 0, grade := grade
      worst := if grade = n.grade then n.worst else min n.worst grade }
    (run < g.lostCount → run < g.blindCount ∨ (∀ c : Chan, s.channelOf a = some c → ¬moves s c) → ends → grade ≠ 0 →
      exec (.replySlotEnd a content) s = .next { s with br := { s.br with
        place := a.val + 1, nodes := s.br.nodes.set a ended } }) ∧
    (run < g.lostCount → ends → grade ≠ 0 → ∃ u, exec (.replySlotEnd a content) elsewhere = .next u ∧
      exec (.replySlotEnd a content) s = .next { u with br := { u.br with nodes := u.br.nodes.set a ended } }) ∧
    (g.lostCount ≤ run ∨ (ends ∧ grade = 0) →
      ∃ t, exec (.replySlotEnd a content) s = .next t ∧
        t.enr = { s.enr with
          table := s.enr.table.set a (some { r with st := .lost, mark := r.mark || decide (r.st = .mismatch) })
          schedule := s.enr.schedule.set a true, rejoinCount := t.enr.rejoinCount } ∧
        ((∀ b : Node, s.enr.schedule.get b = false) → t.enr.rejoinCount = 0) ∧
        ((∃ b : Node, s.enr.schedule.get b = true) → t.enr.rejoinCount = s.enr.rejoinCount) ∧
        t.br = { s.br with
          place := a.val + 1
          nodes := s.br.nodes.set a { n with badRun := run, winPos := 0, winBad := 0, grade := 0, worst := 0 } } ∧
        t.stg = s.stg ∧ t.trk = s.trk ∧ t.ctx = s.ctx ∧
        (∀ d : Chan, s.channelOf a ≠ some d → t.chans.get d = s.chans.get d) ∧
        (∀ c : Chan, s.channelOf a = some c →
          (t.chans.get c).ctl.causes = { (s.chans.get c).ctl.causes with nodeLost := true } ∧
          ((s.chans.get c).ctl.causes = noCauses →
            (t.chans.get c).ctl.st = .inhibited ∧ t.arb.slots.get c = false ∧ t.entryOf c = none) ∧
          (moves s c → run < g.blindCount → (t.chans.get c).ctl.referenced = false) ∧
          (¬moves s c ∨ g.blindCount ≤ run →
            (t.chans.get c).ctl.referenced = (s.chans.get c).ctl.referenced)))) ∧
  (∀ (s : State) (a : Node) (r : NodeRecord) (content : SlotContent) (m : Sample), s.rst.active = false →
    s.br.place = a.val → s.enr.reading ≠ some a → s.enr.table.get a = some r → r.st ≠ .lost →
    slotOutcome (s.br.nodes.get a).keep content = .good m →
    let n := s.br.nodes.get a
    let elsewhere : State := { s with br := { s.br with nodes := s.br.nodes.set a { n with winPos := 0 } } }
    let grade := nextGrade s.stg.image.glob n.grade n.winBad
    let ended : NodeContext := { n with
      badRun := 0, since := 0, keep := some m.keep, winPos := 0, winBad := 0, grade := grade
      worst := if grade = n.grade then n.worst else min n.worst grade }
    64 * 2 ^ s.stg.image.glob.gradeWindow ≤ n.winPos + 1 → ∃ u, exec (.replySlotEnd a content) elsewhere = .next u ∧
      (grade ≠ 0 → exec (.replySlotEnd a content) s =
        .next { u with br := { u.br with nodes := u.br.nodes.set a ended } }) ∧
      (grade = 0 → ∃ t, exec (.replySlotEnd a content) s = .next t ∧ losesNode u t a r ended))

/-- A GOOD sample, without FRESH_START, of a bound IDLE or WAITING channel that stays free of faults, or of an INHIBITED channel
that has an inhibit cause after it as before, as that of a MISMATCH node has, whose NODE_FAULT stays: with a counter base and a
plausible delta it moves the position by the delta, saturated, and rebases the counter; with no base it sets the base alone. The
causes of the INHIBITED channel are those of the sample, and HALL_FAULT clears its reference. The node's run is 0 and k starts
again. That an UNDERVOLT cause which a storage fault has set apart from the supply monitor's flag takes that flag is the model's
choice, log 33. -/
def Obligations.GoodSampleMovesThePosition : Prop :=
  ∀ (mismatch : Bool) (s : State) (a : Node) (c : Chan) (content : SlotContent) (m : Sample),
    bringsOf mismatch s a c content m → m.freshStart = false →
    let u := s.chans.get c
    let supply := voltageStage s.stg.image.glob m.volt.toNat u.sup
    let causes : Causes := { u.ctl.causes with
      nodeFault := m.hallFault || m.overtemp || mismatch, undervolt := supply.undervolt }
    (healthy s c m ∧ mismatch = false ∧ (u.ctl.st = .idle ∨ u.ctl.st = .waiting)) ∨
      (u.ctl.st = .inhibited ∧ u.ctl.causes ≠ noCauses ∧ causes ≠ noCauses) →
    let record : ChannelRecord := if u.ctl.st = .inhibited then
        { u.ctl with causes := causes, referenced := u.ctl.referenced && !m.hallFault }
      else u.ctl
    let rests := fun t : State =>
      (t.chans.get c).eng = u.eng ∧ (t.chans.get c).prof = u.prof ∧ (t.chans.get c).rev = u.rev ∧
      (t.chans.get c).sup = supply ∧
      t.br = { s.br with place := a.val + 1, nodes := s.br.nodes.set a { s.br.nodes.get a with
        badRun := 0, since := 0, keep := some m.keep, winPos := (s.br.nodes.get a).winPos + 1 } } ∧
      sampleFrame s t c ∧ t.arb = s.arb ∧ t.stg = s.stg
    (∀ o : BitVec 12, u.ctl.base = some o → |deltaFrom m o| ≤ edgeBound s a c →
      ∃ t, exec (.replySlotEnd a content) s = .next t ∧ rests t ∧ (t.chans.get c).ctl = { record with
        pos := max (-255) (min 4095 (u.ctl.pos + deltaFrom m o)), base := some m.counter }) ∧
    (u.ctl.base = none → ∃ t, exec (.replySlotEnd a content) s = .next t ∧ rests t ∧
      (t.chans.get c).ctl = { record with base := some m.counter })

/-- A set of inhibit causes that becomes not empty inhibits the channel: its motion, reversal or entry ends, its slot is
released, its hold timer stops, and a running teach fails with INHIBITED; one that becomes empty lets an INHIBITED channel go to
IDLE; otherwise the set alone changes. A GOOD sample raises NODE_FAULT by HALL_FAULT or OVERTEMP, or where the node's record is
MISMATCH, and clears it without them, and takes UNDERVOLT from the supply monitor; HALL_FAULT also clears the reference of the
channel it inhibits. That the cause takes the monitor's flag without a change of it, where a storage fault has set the two
apart, is the model's choice, log 33. -/
def Obligations.InhibitCausesStopTheChannel : Prop :=
  (∀ (s : State) (c : Chan) (k : Causes),
    ((s.chans.get c).ctl.causes = noCauses → k ≠ noCauses →
      s.setCauses c k = { withUnit s c (fun u => { stopped u .inhibited with
          ctl := { (stopped u .inhibited).ctl with causes := k }
          prof := if u.prof.teach = .running then
              { u.prof with teach := .failed .inhibited
                            teachVisited := if u.ctl.st = .closing then u.prof.visited else 0 }
            else u.prof }) with
        arb := { s.arb with slots := s.arb.slots.set c false
                            queue := s.arb.queue.filter fun e => decide (e.channel ≠ c) } }) ∧
    ((s.chans.get c).ctl.causes ≠ noCauses → k = noCauses →
      s.setCauses c k = withUnit s c fun u => { u with ctl := { u.ctl with
        st := if u.ctl.st = .inhibited then .idle else u.ctl.st, causes := k } }) ∧
    (((s.chans.get c).ctl.causes = noCauses ↔ k = noCauses) →
      s.setCauses c k = withUnit s c fun u => { u with ctl := { u.ctl with causes := k } })) ∧
  (∀ (mismatch : Bool) (s : State) (a : Node) (c : Chan) (content : SlotContent) (m : Sample),
    bringsOf mismatch s a c content m →
    let k : Causes := { (s.chans.get c).ctl.causes with
      nodeFault := m.hallFault || m.overtemp || mismatch
      undervolt := (voltageStage s.stg.image.glob m.volt.toNat (s.chans.get c).sup).undervolt }
    ∃ t, exec (.replySlotEnd a content) s = .next t ∧ (t.chans.get c).ctl.causes = k ∧
      ((s.chans.get c).ctl.causes = noCauses → k ≠ noCauses →
        (t.chans.get c).ctl.st = .inhibited ∧ t.arb.slots.get c = false ∧ t.entryOf c = none ∧
        (t.chans.get c).ctl.motion = none ∧ (t.chans.get c).ctl.hold = none ∧ (t.chans.get c).rev.target = none ∧
        (m.hallFault = true → (t.chans.get c).ctl.referenced = false)) ∧
      ((s.chans.get c).ctl.causes ≠ noCauses → k = noCauses → (s.chans.get c).ctl.st = .inhibited →
        (t.chans.get c).ctl.st = .idle))

/-- What a GOOD sample ends on a channel in motion or WAITING: an implausible delta rebases the counter, leaves the position
and leaves the channel unreferenced, which stops it in motion and ends an entry that is not a held USER one; overtravel of a
CLOSING channel stops it unreferenced at -255; FRESH_START rebases and takes the reference of a channel in motion, which stops
a motion that is not a held USER one with UNREFERENCED, while a held USER motion and a reversal go on short of their ends: a
held USER close as an unreferenced one, referenced at 0 by END, tripping HARD, or else judged under flat protection on that
same sample, the model's choice, log 34; an OPENING channel stops at END, at its preset target, or with a reference and no
target at the travel; a CLOSING one at its preset target; a reversal at END or at its target, and on the first sample after a
trip at or above its target whatever the delta, a sample that the model tells by the position before it, log 35. -/
def Obligations.SampleEndsMotion : Prop :=
  ∀ (s : State) (a : Node) (c : Chan) (content : SlotContent) (m : Sample) (o : BitVec 12), brings s a c content m →
    healthy s c m → (s.chans.get c).ctl.base = some o →
    let u := s.chans.get c
    let delta := deltaFrom m o
    let p : Int := max (-255) (min 4095 (u.ctl.pos + delta))
    let supply := voltageStage s.stg.image.glob m.volt.toNat u.sup
    let based : ChannelRecord := { u.ctl with base := some m.counter }
    let moved : ChannelRecord := { based with pos := p }
    let stops := fun (t : State) (r : ChannelRecord) =>
      (t.chans.get c).ctl = { r with st := .idle, motion := none, hold := none } ∧
      t.arb.slots = s.arb.slots.set c false ∧ t.entryOf c = none ∧ (t.chans.get c).rev = { u.rev with target := none } ∧
      (t.chans.get c).eng = (stopped u .idle).eng ∧ (t.chans.get c).sup = supply ∧ sampleFrame s t c ∧ t.stg = s.stg
    let drifts := fun (t : State) => (t.chans.get c).prof =
      if u.prof.teach = .running then
        { u.prof with teach := .failed .drift, teachVisited := if u.ctl.st = .closing then u.prof.visited else 0 }
      else u.prof
    let goesOn := fun (t : State) (r : ChannelRecord) =>
      (t.chans.get c).ctl = r ∧ t.arb = s.arb ∧ (t.chans.get c).rev = u.rev ∧ (t.chans.get c).eng = u.eng ∧
      (t.chans.get c).prof = u.prof ∧ (t.chans.get c).sup = supply ∧ sampleFrame s t c ∧ t.stg = s.stg
    let refused : ChannelRecord := { based with
      referenced := false, refusal := some .unreferenced, latched := { u.ctl.latched with orderRefused := true } }
    ∃ t, exec (.replySlotEnd a content) s = .next t ∧
      (m.freshStart = false → edgeBound s a c < |delta| → moves s c →
        stops t { based with referenced := false } ∧ drifts t) ∧
      (m.freshStart = false → edgeBound s a c < |delta| → u.ctl.st = .idle → goesOn t { based with referenced := false }) ∧
      (m.freshStart = false → |delta| ≤ edgeBound s a c → u.ctl.st = .closing → u.ctl.pos + delta < -255 →
        stops t { moved with referenced := false } ∧ drifts t) ∧
      (∀ mo : Motion, m.freshStart = true → u.ctl.st = .opening ∨ u.ctl.st = .closing → u.ctl.referenced = true →
        u.ctl.motion = some mo → mo.origin = .latched ∨ mo.cls ≠ .user →
        stops t refused ∧ drifts t) ∧
      (∀ mo : Motion, m.freshStart = false → edgeBound s a c < |delta| → u.ctl.st = .waiting → carries s c mo →
        (u.ctl.referenced = true → mo.origin = .latched ∨ mo.cls ≠ .user → stops t refused ∧ drifts t) ∧
        (u.ctl.referenced = false ∨ (mo.origin = .held ∧ mo.cls = .user) → goesOn t { based with referenced := false })) ∧
      (∀ mo : Motion, m.freshStart = true → u.ctl.st = .opening → u.ctl.motion = some mo → mo.origin = .held →
        mo.cls = .user → (∀ g, mo.target = some g → u.ctl.pos < g) → m.atEnd = false →
        goesOn t { based with referenced := false }) ∧
      (∀ mo : Motion, m.freshStart = true → u.ctl.st = .closing → u.ctl.motion = some mo → mo.origin = .held →
        mo.cls = .user → targetAhead s c u.ctl.pos →
        let cs := s.stg.image.chan.get c
        let sealed := (s.effectiveZone c u.ctl.pos).1 = .seal
        let limit := if s.stg.configFault = true then 800 else cs.hardLimit
        let counted := closingSupply s.stg.image.glob m.volt.toNat u.sup
        let f16 := filterStep u.eng.first u.eng.f16 m.current.toNat
        (m.atEnd = true → (t.chans.get c).ctl =
            { based with st := .idle, motion := none, hold := none, pos := 0, referenced := true } ∧
          t.arb.slots = s.arb.slots.set c false ∧ (t.chans.get c).prof = u.prof ∧ (t.chans.get c).sup = supply ∧
          (t.chans.get c).rev = if s.stg.phase = .run then { target := none, level := 0, window := none }
            else { u.rev with target := none }) ∧
        (m.atEnd = false → limit ≤ m.current.toNat → ¬sealed →
          (t.chans.get c).ctl = { based with referenced := false, st := .reversing, motion := none, hold := none } ∧
          (t.chans.get c).eng.trip.cause = some .hard ∧ (t.chans.get c).rev.level = min 3 (u.rev.level + 1) ∧
          (t.chans.get c).sup = counted ∧ t.arb = s.arb ∧ sampleFrame s t c ∧ t.stg = s.stg) ∧
        (m.atEnd = false → m.current.toNat < limit ∨ sealed → 0 < cs.tripLevel →
          (t.chans.get c).ctl = { based with referenced := false } ∧ (t.chans.get c).rev = u.rev ∧ t.arb = s.arb ∧
          (t.chans.get c).eng = { u.eng with
            f16 := f16, first := false, blank := u.eng.blank - 1, peak := peakAfter u cs u.eng.acc } ∧
          strokeTakes u.prof (t.chans.get c).prof (binOfPos u.ctl.pos cs.travel) (f16 / 16)
            (0 < u.eng.blank ∨ 0 < supply.mask) ∧
          (t.chans.get c).prof.working = u.prof.working ∧ (t.chans.get c).sup = counted ∧ sampleFrame s t c ∧
          t.stg = s.stg)) ∧
      (∀ g : Int, m.freshStart = true → u.ctl.st = .reversing → u.rev.target = some g →
        (m.atEnd = true ∨ g ≤ u.ctl.pos → stops t { based with referenced := false }) ∧
        (m.atEnd = false → u.ctl.pos < g → goesOn t { based with referenced := false })) ∧
      (m.freshStart = true → u.ctl.st = .idle ∨ u.ctl.st = .waiting → goesOn t based) ∧
      (m.freshStart = false → |delta| ≤ edgeBound s a c →
        (∀ mo : Motion, u.ctl.st = .opening → u.ctl.motion = some mo → mo.target = none →
          (m.atEnd = true ∨ (u.ctl.referenced = true ∧ ((s.stg.image.chan.get c).travel : Int) ≤ p) → stops t moved) ∧
          (m.atEnd = false → u.ctl.referenced = false ∨ p < (s.stg.image.chan.get c).travel → goesOn t moved)) ∧
        (∀ (mo : Motion) (g : Int), u.ctl.st = .opening → u.ctl.motion = some mo → mo.target = some g →
          (m.atEnd = true ∨ g ≤ p → stops t moved) ∧ (m.atEnd = false → p < g → goesOn t moved)) ∧
        (∀ (mo : Motion) (g : Int), u.ctl.st = .closing → u.ctl.motion = some mo → mo.target = some g → p ≤ g →
          -255 ≤ u.ctl.pos + delta → stops t moved) ∧
        (∀ g : Int, u.ctl.st = .reversing → u.rev.target = some g →
          (m.atEnd = true ∨ g ≤ p ∨ g ≤ u.ctl.pos → stops t moved) ∧
          (m.atEnd = false → p < g → u.ctl.pos < g → goesOn t moved)))

/-- The end of slot 0, after the reply slots: a GOOD reply to an offer makes an ENROLLED record with the reply's identity and
grade 7, and short of address 8 the run goes on at the next address; a first or second miss counts. A reply to a rejoin with the
record's serial tag makes it ENROLLED, another tag MISMATCH, at grade 4 and out of the schedule, and NODE_LOST leaves the bound
channel, with NODE_FAULT in its place for MISMATCH; an unanswered rejoin has the address's reply slot read in the next cycle. A
slot 0 that assigns nothing is not judged. The reply slot that the unit reads counts for nothing where its frame does not check.
One that checks makes, for a repeated offer, a MISMATCH record with identity 0, slot 0 of the cycle set aside; and for a rejoin
it brings the record back MISMATCH where it carries FRESH_START or the record had the mismatch mark, else ENROLLED. That slot 0
is unused and nothing is being read once it has ended is the model's bookkeeping, log 23; that the switch settle runs from the
end of the slot, log 30 (the model's choice). That a slot the unit reads is not judged, also where its address holds an ENROLLED
or MISMATCH record, and that an unanswered rejoin of such an address has it read too, is the model's choice, log 39. -/
def Obligations.SlotZeroMakesRecords : Prop :=
  (∀ (s : State) (content : SlotContent), s.rst.active = false → s.br.place = 8 →
    (s.enr.slot0 = .unused → exec (.slot0End content) s = .next (atPlace s 9)) ∧
    (∀ id : Identity, slotIdentity content = some id → s.enr.slot0 = .offer → s.enr.st = .offering → s.enr.offer < 7 →
      exec (.slot0End content) s = .next { s with
        enr := { s.enr with
          table := s.enr.table.set s.enr.offer
            (some { cls := id.cls, tag := id.tag, rated := id.rated, st := .enrolled, mark := false })
          offer := s.enr.offer + 1, miss := 0, st := .settle, settle := some (s.now + 40), slot0 := .unused, reading := none }
        br := { s.br with
          place := 9
          nodes := s.br.nodes.set s.enr.offer { s.br.nodes.get s.enr.offer with
            grade := 7, worst := 7, badRun := 0, winPos := 0, winBad := 0, keep := none } } }) ∧
    (slotIdentity content = none → s.enr.slot0 = .offer → s.enr.st = .offering → s.enr.miss < 2 →
      exec (.slot0End content) s = .next (atPlace { s with
        enr := { s.enr with slot0 := .unused, reading := none, miss := s.enr.miss + 1 } } 9)) ∧
    (∀ a : Node, slotIdentity content = none → s.enr.slot0 = .rejoin a →
      exec (.slot0End content) s = .next (atPlace { s with
        enr := { s.enr with slot0 := .unused, reading := none, followUp := some a } } 9)) ∧
    (∀ (a : Node) (id : Identity) (r : NodeRecord), slotIdentity content = some id → s.enr.slot0 = .rejoin a →
      s.enr.table.get a = some r → r.st = .lost → bindingStands s →
      ∃ t, exec (.slot0End content) s = .next t ∧ rejoined s t a r (r.tag = id.tag ∧ r.mark = false) 9)) ∧
  (∀ (s : State) (a : Node) (content : SlotContent), s.rst.active = false → s.br.place = a.val → s.enr.reading = some a →
    (slotSample content = none → exec (.replySlotEnd a content) s =
      .next (atPlace { s with enr := { s.enr with reading := none } } (a.val + 1))) ∧
    (∀ m : Sample, slotSample content = some m → s.enr.st = .offering → s.enr.offer = a → a < 7 →
      exec (.replySlotEnd a content) s = .next { s with
        enr := { s.enr with
          table := s.enr.table.set a (some { cls := 0, tag := 0, rated := 0, st := .mismatch, mark := false })
          offer := a + 1, miss := 0, st := .settle, settle := some (s.now + 40), slot0 := .unused, reading := none }
        br := { s.br with
          place := a.val + 1
          nodes := s.br.nodes.set a { s.br.nodes.get a with
            grade := 7, worst := 7, badRun := 0, winPos := 0, winBad := 0, keep := none } } }) ∧
    (∀ (m : Sample) (r : NodeRecord), slotSample content = some m → s.enr.st = .idle → s.enr.table.get a = some r →
      r.st = .lost → bindingStands s →
      ∃ t, exec (.replySlotEnd a content) s = .next t ∧ t.enr.reading = none ∧
        rejoined s t a r (m.freshStart = false ∧ r.mark = false) (a.val + 1)))

/-- An enrollment run ends with the record of address 8, made at slot 0 or by the reading of reply slot 8, or with the third
miss of one address: the unit is IDLE, binding is judged, ENROLL_MISMATCH says whether the node count differs from
EXPECTED_NODES, and after a cold start the chosen phase is entered. A channel that was ABSENT and is then bound is IDLE, or
INHIBITED with NODE_FAULT by a MISMATCH record, unreferenced at position 0 without a counter base. That slot 0 is unused, and no
slot is being read, once the run has ended is the model's bookkeeping, log 23. -/
def Obligations.EnrollmentRunEnds : Prop :=
  ∀ (s : State) (content : SlotContent), s.rst.active = false → s.enr.slot0 = .offer → s.enr.st = .offering →
    let ended := fun (t : State) (place : Nat) =>
      t.enr.st = .idle ∧ t.enr.settle = none ∧ t.enr.slot0 = .unused ∧ t.enr.reading = none ∧
      t.enr.mismatch = decide (t.enr.table.toList.countP Option.isSome ≠ s.stg.image.glob.expectedNodes) ∧
      t.enr.schedule = s.enr.schedule ∧ bindingStands t ∧
      (s.enr.fromCold = true → t.stg.phase = s.stg.chosen ∧ t.stg.image = s.stg.image ∧ t.stg.store = s.stg.store) ∧
      (s.enr.fromCold = false → t.stg = s.stg) ∧ t.br.place = place ∧ t.br.timer = s.br.timer ∧ t.ctx = s.ctx ∧ t.trk = s.trk ∧
      t.rst = s.rst ∧ t.now = s.now ∧
      ∀ (c : Chan) (a : Node) (r : NodeRecord), (s.chans.get c).ctl.st = .absent → bound t c →
        (s.stg.image.chan.get c).nodeAddr = a.val + 1 → t.enr.table.get a = some r →
        t.chans.get c = boundUnit (s.chans.get c) r
    (∀ id : Identity, slotIdentity content = some id → s.br.place = 8 → s.enr.offer = 7 →
      ∃ t, exec (.slot0End content) s = .next t ∧ ended t 9 ∧ t.enr.miss = 0 ∧
        t.enr.table = s.enr.table.set 7
          (some { cls := id.cls, tag := id.tag, rated := id.rated, st := .enrolled, mark := false })) ∧
    (∀ m : Sample, slotSample content = some m → s.br.place = 7 → s.enr.offer = 7 → s.enr.reading = some 7 →
      ∃ t, exec (.replySlotEnd 7 content) s = .next t ∧ ended t 8 ∧ t.enr.miss = 0 ∧
        t.enr.table = s.enr.table.set 7 (some { cls := 0, tag := 0, rated := 0, st := .mismatch, mark := false })) ∧
    (slotIdentity content = none → s.br.place = 8 → s.enr.miss = 2 →
      ∃ t, exec (.slot0End content) s = .next t ∧ ended t 9 ∧ t.enr.miss = 3 ∧ t.enr.table = s.enr.table)

/-! ### Sample path: supply, engine, reversal, profile -/

/-- The voltage stage: the run counters and UNDERVOLT by the bands, then the mask counter and the previous voltage. That a run
standing at 4 with UNDERVOLT the other way, as a storage fault alone leaves it, moves it as well is the model's choice, log 33. -/
def Obligations.VoltageStageStepsTheSupplyMonitor : Prop :=
  ∀ (g : GlobSettings) (v : Nat) (u : SupplyContext),
    let t := voltageStage g v u
    (t.lowRun = if v < g.uvLevel0 then min 4 (u.lowRun + 1) else 0) ∧
    (t.highRun = if v < g.uvLevel0 then 0 else if g.uvLevel2 ≤ v then min 4 (u.highRun + 1) else 0) ∧
    (t.undervolt = if v < g.uvLevel0 ∧ 3 ≤ u.lowRun then true
      else if ¬v < g.uvLevel0 ∧ g.uvLevel2 ≤ v ∧ 3 ≤ u.highRun then false else u.undervolt) ∧
    (t.mask = if v < g.dipLevel ∨ (∃ p, u.prev = some p ∧ (g.dipStep : Int) ≤ |(v : Int) - p|) then g.maskLength
      else u.mask - 1) ∧
    t.prev = some v ∧ t.strokeMask = u.strokeMask

/-- The bin of a position, the excess, the accumulator step, the filter step, and the margin stack: the sum of MARGIN_BASE,
the zone's adjust, and the road, cold, wind, load and escalation terms, clamped to 8..1023. -/
def Obligations.TripArithmeticFollowsItsFormulas : Prop :=
  (∀ (p : Int) (l : Nat), 64 ≤ l →
    (p ≤ 0 → (binOfPos p l).val = 0) ∧ ((l : Int) ≤ p → (binOfPos p l).val = 63) ∧
    (0 < p → p < l → ((binOfPos p l).val : Int) = min 63 (p * 64 / l))) ∧
  (∀ f16 r t : Nat, excessOf f16 r t = (f16 : Int) - 16 * ((r : Int) + t)) ∧
  (∀ (cs : ChanSettings) (acc : Nat) (e : Int),
    (0 < e → (accStep cs acc e : Int) = min 4095 ((acc : Int) + e / 16)) ∧
    (e ≤ 0 → (accStep cs acc e : Int) = max 0 ((acc : Int) - cs.decay))) ∧
  (∀ (first : Bool) (f16 i : Nat), f16 ≤ 65520 → i ≤ 4095 →
    (filterStep first f16 i : Int) = if first then 16 * (i : Int) else (f16 : Int) + (16 * (i : Int) - f16) / 4) ∧
  (∀ (s : State) (c : Chan) (moving : Bool), (moving = true ↔ sideMoving s c) →
    let cs := s.stg.image.chan.get c
    let g := s.stg.image.glob
    let adjust := (s.effectiveZone c (s.chans.get c).ctl.pos).2
    let road : Int := (if moving then 15 else s.ctx.rough) * cs.roadFactor / 4
    let cold : Int := if s.ctx.fresh = false then 0 else if s.ctx.temp ≤ g.cold2Temp then cs.cold2Margin
      else if s.ctx.temp ≤ g.cold1Temp then cs.cold1Margin else 0
    let wind : Int :=
      if cs.closure = .roof then cs.windFactor * (max 0 ((s.ctx.speed : Int) - g.windOnset)) ^ 2 / 256 else 0
    let load : Int := max 0 ((s.arb.slots.toList.countP (fun b => b) : Int) - 2) * g.loadStep
    let escal : Int := (s.chans.get c).rev.level * cs.escalStep
    (s.marginStack c : Int) = max 8 (min 1023 (cs.marginBase + adjust + road + cold + wind + load + escal)))

/-- A trip of a CLOSING channel: e rises to at most 3, the window restarts, the target is set, the channel reverses with its
slot kept, the stroke closes, and the trip record and trip flag are written. -/
def Obligations.TripReversesTheChannel : Prop :=
  ∀ (s : State) (c : Chan) (cause : TripCause) (r t acc : Nat), (s.chans.get c).ctl.st = .closing →
    let u := s.chans.get c
    let cs := s.stg.image.chan.get c
    let s' := s.trip c cause r t acc
    (s'.chans.get c).ctl = { u.ctl with st := .reversing, motion := none, hold := none } ∧
    (s'.chans.get c).rev = { target := some (min (cs.travel : Int) (u.ctl.pos + cs.reverseDist))
                             level := min 3 (u.rev.level + 1), window := some (s.now + 2000 * cs.escalWindow) } ∧
    (s'.chans.get c).eng = { u.eng with
      acc := 0, first := false, blank := 0, tripFlag := true
      trip := { cause := some cause, pos := u.ctl.pos, bin := (binOfPos u.ctl.pos cs.travel).val, f := u.eng.f16 / 16,
                r := r, t := t, a := acc, level := min 3 (u.rev.level + 1), speed := s.ctx.speed,
                stamp := s.now / 20 % 65536 } } ∧
    (u.prof.teach = .running → (s'.chans.get c).prof.teach = .failed .trip) ∧
    (u.prof.teach ≠ .running → (s'.chans.get c).prof = u.prof) ∧
    (∀ d : Chan, d ≠ c → s'.chans.get d = s.chans.get d) ∧ s'.arb = s.arb ∧ s'.stg = s.stg

/-- A GOOD sample of a CLOSING channel, short of a preset target where it has one, outside its SEAL zone that reaches the flat
limit trips HARD, and one that carries END on a referenced channel trips STALL; the hard test comes first. The position is
brought up to date first, the trip record holds it with the filtered effort and the accumulator as found, and the channel
reverses with its slot kept; the stroke record takes the sample's entry, the stroke mask count its count and the peak ratio the
accumulator's candidate all the same. The zone is SEAL up to 16 counts and PROTECT with adjust 0 above under CONFIG_FAULT, and
else that of the zone lookup. -/
def Obligations.ClosingSampleTripsOnHardOrStall : Prop :=
  (∀ (s : State) (c : Chan) (p : Int),
    (s.stg.configFault = true → p ≤ 16 → s.effectiveZone c p = (.seal, 0)) ∧
    (s.stg.configFault = true → 16 < p → s.effectiveZone c p = (.protect, 0)) ∧
    (s.stg.configFault = false → s.effectiveZone c p = zoneLookup (s.stg.image.zones.get c) p)) ∧
  ∀ (s : State) (a : Node) (c : Chan) (content : SlotContent) (m : Sample) (o : BitVec 12), brings s a c content m →
    healthy s c m → (s.chans.get c).ctl.st = .closing → (s.chans.get c).ctl.base = some o →
    m.freshStart = false →
    let u := s.chans.get c
    let cs := s.stg.image.chan.get c
    |deltaFrom m o| ≤ edgeBound s a c → -255 ≤ u.ctl.pos + deltaFrom m o →
    let p : Int := min 4095 (u.ctl.pos + deltaFrom m o)
    let limit := if s.stg.configFault = true then 800 else cs.hardLimit
    targetAhead s c p → (s.effectiveZone c p).1 ≠ .seal →
    (limit ≤ m.current.toNat ∧ (u.ctl.referenced = true ∨ m.atEnd = false)) ∨
      (u.ctl.referenced = true ∧ m.atEnd = true) →
    let f16 := filterStep u.eng.first u.eng.f16 m.current.toNat
    ∃ t, exec (.replySlotEnd a content) s = .next t ∧
      (t.chans.get c).ctl = { u.ctl with st := .reversing, motion := none, hold := none, pos := p, base := some m.counter } ∧
      (t.chans.get c).rev = { target := some (min (cs.travel : Int) (p + cs.reverseDist)), level := min 3 (u.rev.level + 1)
                              window := some (s.now + 2000 * cs.escalWindow) } ∧
      (t.chans.get c).eng.trip =
        { cause := some (if limit ≤ m.current.toNat then .hard else .stall), pos := p, bin := (binOfPos p cs.travel).val,
          f := f16 / 16, r := 0, t := 0, a := u.eng.acc, level := min 3 (u.rev.level + 1), speed := s.ctx.speed,
          stamp := s.now / 20 % 65536 } ∧
      (t.chans.get c).eng = { u.eng with
        f16 := f16, first := false, acc := 0, blank := 0, tripFlag := true, trip := (t.chans.get c).eng.trip
        peak := (t.chans.get c).eng.peak } ∧
      (0 < cs.tripLevel → (t.chans.get c).eng.peak = peakAfter u cs u.eng.acc) ∧
      (u.prof.teach = .running → (t.chans.get c).prof.teach = .failed .trip) ∧
      strokeTakes u.prof (t.chans.get c).prof (binOfPos p cs.travel) (f16 / 16)
        (0 < u.eng.blank ∨ 0 < (voltageStage s.stg.image.glob m.volt.toNat u.sup).mask) ∧
      (t.chans.get c).sup = closingSupply s.stg.image.glob m.volt.toNat u.sup ∧
      sampleFrame s t c ∧ t.arb = s.arb ∧ t.stg = s.stg

/-- A GOOD sample of a CLOSING channel short of HARD and STALL, and of a preset target where it has one. Where no suspension
holds (not blanked, outside SEAL, no mask within its budget, no flat protection), a working bin outside its band is repaired
from the baseline and PROFILE_REPAIRED latched, the excess over reference and margin stack steps the accumulator, and at
TRIP_LEVEL the channel trips ACCUM and reverses; below it the stroke goes on. Where one holds, the accumulator and the bins
stand. The peak ratio takes the candidate of the accumulator, which counts a trip's own, and the stroke record takes the
sample's entry, and the stroke mask count its count, under every suspension. -/
def Obligations.ClosingSampleAccumulatesOrIsSuspended : Prop :=
  ∀ (s : State) (a : Node) (c : Chan) (content : SlotContent) (m : Sample) (o : BitVec 12), brings s a c content m →
    healthy s c m → (s.chans.get c).ctl.st = .closing → (s.chans.get c).ctl.base = some o →
    m.freshStart = false → m.atEnd = false →
    let u := s.chans.get c
    let cs := s.stg.image.chan.get c
    let g := s.stg.image.glob
    |deltaFrom m o| ≤ edgeBound s a c → -255 ≤ u.ctl.pos + deltaFrom m o → 0 < cs.tripLevel →
    let p : Int := min 4095 (u.ctl.pos + deltaFrom m o)
    let limit := if s.stg.configFault = true then 800 else cs.hardLimit
    let zone := (s.effectiveZone c p).1
    targetAhead s c p → (m.current.toNat < limit ∨ zone = .seal) →
    let f16 := filterStep u.eng.first u.eng.f16 m.current.toNat
    let masked := 0 < (voltageStage g m.volt.toNat u.sup).mask
    let suspended := 0 < u.eng.blank ∨ zone = .seal ∨ (masked ∧ min 1023 (u.sup.strokeMask + 1) ≤ g.maskBudget) ∨
      s.stg.phase = .setup ∨ u.ctl.referenced = false ∨ u.rev.level = 3 ∨ u.prof.teach = .running ∨ s.stg.configFault = true
    let here := withUnit s c fun u => { u with ctl := { u.ctl with pos := p } }
    let b := binOfPos p cs.travel
    let base : Nat := (s.stg.image.baseline.get c).get b
    let bin : Nat := u.prof.working.get b
    let kept := max 0 ((base : Int) - cs.bandLow) ≤ bin ∧ (bin : Int) ≤ min 4095 ((base : Int) + cs.bandHigh)
    let r := if kept then bin else base
    let t' := here.marginStack c
    let acc := accStep cs u.eng.acc (excessOf f16 r t')
    let record : ChannelRecord := { u.ctl with pos := p, base := some m.counter }
    let repaired : ChannelRecord := { record with latched := { u.ctl.latched with
      profileRepaired := u.ctl.latched.profileRepaired || decide (¬kept) } }
    ∃ t, exec (.replySlotEnd a content) s = .next t ∧ sampleFrame s t c ∧ t.arb = s.arb ∧ t.stg = s.stg ∧
      (t.chans.get c).sup = closingSupply g m.volt.toNat u.sup ∧ (t.chans.get c).eng.f16 = f16 ∧ (t.chans.get c).eng.first = false ∧
      strokeTakes u.prof (t.chans.get c).prof b (f16 / 16) (0 < u.eng.blank ∨ masked) ∧
      (suspended → (t.chans.get c).ctl = record ∧ (t.chans.get c).rev = u.rev ∧
        (t.chans.get c).eng = { u.eng with f16 := f16, first := false, blank := u.eng.blank - 1, peak := peakAfter u cs u.eng.acc } ∧
        (t.chans.get c).prof.working = u.prof.working) ∧
      (¬suspended → (t.chans.get c).prof.working.get b = r ∧
        (∀ x : Fin 64, x ≠ b → (t.chans.get c).prof.working.get x = u.prof.working.get x) ∧
        (t.chans.get c).eng.peak = peakAfter u cs acc) ∧
      (¬suspended → acc < cs.tripLevel → (t.chans.get c).ctl = repaired ∧ (t.chans.get c).rev = u.rev ∧
        (t.chans.get c).eng.acc = acc ∧ (t.chans.get c).eng.trip = u.eng.trip) ∧
      (¬suspended → cs.tripLevel ≤ acc →
        (t.chans.get c).ctl = { repaired with st := .reversing, motion := none, hold := none } ∧
        (t.chans.get c).rev = { target := some (min (cs.travel : Int) (p + cs.reverseDist)), level := min 3 (u.rev.level + 1)
                                window := some (s.now + 2000 * cs.escalWindow) } ∧
        (t.chans.get c).eng.acc = 0 ∧ (t.chans.get c).eng.tripFlag = true ∧ (t.chans.get c).eng.trip =
          { cause := some .accum, pos := p, bin := b.val, f := f16 / 16, r := r, t := t', a := acc
            level := min 3 (u.rev.level + 1), speed := s.ctx.speed, stamp := s.now / 20 % 65536 })

/-- The closed end. A referenced CLOSING channel whose sample carries END in its SEAL zone, at p, is referenced at 0 and IDLE,
with DRIFT latched where |p| exceeds DRIFT_TOL, the sample's entry in the stroke record, the candidate of the accumulator in the
peak ratio, and the stroke closed; in RUN its escalation clears. Its
profile and the settings unit are then those of `State.closedEndStop` on the state with the sample applied: position, stroke
record, supply and stroke mask count. There a stroke that is no teach stroke is judged for learning, and a teach stroke then
ends its teach: FAILED by DRIFT or SHORT, or DONE with the baseline and the working profile made of its peaks, an unvisited bin
taking the nearest visited one above it, or the highest. An unreferenced CLOSING channel with END is referenced at 0 and IDLE,
wherever it stands, with no DRIFT and its profile as it was. -/
def Obligations.ClosedEndStopsAndReferences : Prop :=
  let cleared := fun (s : State) (c : Chan) => if s.stg.phase = .run then
      ({ target := none, level := 0, window := none } : ReversalContext)
    else { (s.chans.get c).rev with target := none }
  (∀ (s : State) (a : Node) (c : Chan) (content : SlotContent) (m : Sample) (o : BitVec 12), brings s a c content m →
    healthy s c m → (s.chans.get c).ctl.st = .closing → (s.chans.get c).ctl.base = some o →
    m.freshStart = false → m.atEnd = true →
    let u := s.chans.get c
    let cs := s.stg.image.chan.get c
    |deltaFrom m o| ≤ edgeBound s a c → -255 ≤ u.ctl.pos + deltaFrom m o →
    let p : Int := min 4095 (u.ctl.pos + deltaFrom m o)
    let f16 := filterStep u.eng.first u.eng.f16 m.current.toNat
    targetAhead s c p → ∃ t, exec (.replySlotEnd a content) s = .next t ∧ sampleFrame s t c ∧
      (u.ctl.referenced = true → (s.effectiveZone c p).1 = .seal →
        (t.chans.get c).ctl = { u.ctl with
          st := .idle, motion := none, hold := none, pos := 0, base := some m.counter
          latched := { u.ctl.latched with
            drift := u.ctl.latched.drift || decide (((s.stg.image.chan.get c).driftTol : Int) < |p|) } } ∧
        (t.chans.get c).rev = cleared s c ∧ t.arb.slots = s.arb.slots.set c false ∧
        strokeTakes u.prof (t.chans.get c).prof (binOfPos p (s.stg.image.chan.get c).travel)
          (f16 / 16) (0 < u.eng.blank ∨ 0 < (voltageStage s.stg.image.glob m.volt.toNat u.sup).mask) ∧
        (t.chans.get c).eng = { u.eng with
          f16 := f16, first := false, acc := 0, blank := 0, peak := (t.chans.get c).eng.peak } ∧
        (0 < cs.tripLevel → (t.chans.get c).eng.peak = peakAfter u cs u.eng.acc) ∧
        (t.chans.get c).sup = closingSupply s.stg.image.glob m.volt.toNat u.sup ∧
        (let applied := withUnit s c fun u => { u with
          ctl := { u.ctl with pos := p }
          prof := { u.prof with stroke := (t.chans.get c).prof.stroke, visited := (t.chans.get c).prof.visited }
          sup := closingSupply s.stg.image.glob m.volt.toNat u.sup }
         (t.chans.get c).prof = ((applied.closedEndStop c).chans.get c).prof ∧ t.stg = (applied.closedEndStop c).stg)) ∧
      (u.ctl.referenced = false →
        (t.chans.get c).ctl = { u.ctl with
          st := .idle, motion := none, hold := none, pos := 0, referenced := true, base := some m.counter } ∧
        (t.chans.get c).rev = cleared s c ∧ t.arb.slots = s.arb.slots.set c false ∧ (t.chans.get c).prof = u.prof ∧
        (t.chans.get c).eng = (stopped u .idle).eng ∧
        (t.chans.get c).sup = voltageStage s.stg.image.glob m.volt.toNat u.sup ∧ t.stg = s.stg)) ∧
  (∀ (s : State) (c : Chan), (s.chans.get c).ctl.st = .closing →
    let u := s.chans.get c
    let t := s.closedEndStop c
    let tol : Int := (s.stg.image.chan.get c).driftTol
    let ends := fun (result : TeachState) => t.stg = s.stg ∧
      (t.chans.get c).prof = { u.prof with teach := result, teachVisited := u.prof.visited }
    (u.prof.marks.teachStroke = false → t.stg = s.stg ∧ (t.chans.get c).prof = ((s.learn c u.ctl.pos).chans.get c).prof) ∧
    (u.prof.marks.teachStroke = true → u.prof.teach ≠ .running → t.stg = s.stg ∧ (t.chans.get c).prof = u.prof) ∧
    (u.prof.marks.teachStroke = true → u.prof.teach = .running →
      (tol < |u.ctl.pos| → ends (.failed .drift)) ∧
      (|u.ctl.pos| ≤ tol → u.prof.visited < 8 → ends (.failed .short)) ∧
      (|u.ctl.pos| ≤ tol → 8 ≤ u.prof.visited → ∃ bins : Bins Nat,
        t.stg = (withImage s fun i => { i with baseline := i.baseline.set c bins }).stg ∧
        (t.chans.get c).prof = { u.prof with teach := .done, teachVisited := u.prof.visited, working := bins } ∧
        (∀ (b x : Fin 64) (v : Nat), b ≤ x → u.prof.stroke.get x = some v →
          (∀ y : Fin 64, b ≤ y → y < x → u.prof.stroke.get y = none) → bins.get b = v) ∧
        (∀ (b x : Fin 64) (v : Nat), x < b → u.prof.stroke.get x = some v →
          (∀ y : Fin 64, x < y → u.prof.stroke.get y = none) → bins.get b = v))))

/-- A stroke lets the working profile learn where it was opened in RUN and at e = 0, its correction is within DRIFT_TOL, its
stroke mask count within LEARN_MASK, the temperature above COLD1_TEMP and the roughness within LEARN_ROUGH, CONFIG_FAULT absent,
and at least 8 bins visited; otherwise nothing changes. The learning update: each visited bin moves an eighth of the way to its
peak, truncated toward zero, at least one unit, clamped to its band; an unvisited bin stands, each bin is updated from its own
values alone, and nothing else changes. -/
def Obligations.LearningMovesAnEighthOfTheWay : Prop :=
  (∀ (cs : ChanSettings) (b w p : Nat), b ≤ 4095 →
    learnBin cs b w none = w ∧
    (let delta : Int := (p : Int) - w
     let step : Int := if delta = 0 then 0 else if |delta| < 8 then delta.sign else delta.tdiv 8
     (learnBin cs b w (some p) : Int) =
       max (max 0 ((b : Int) - cs.bandLow)) (min (min 4095 ((b : Int) + cs.bandHigh)) (w + step)))) ∧
  (∀ (s : State) (c : Chan) (k : Int),
    let u := s.chans.get c
    let g := s.stg.image.glob
    let learns := u.prof.marks.openedInRun = true ∧ |k| ≤ ((s.stg.image.chan.get c).driftTol : Int) ∧
      u.sup.strokeMask ≤ g.learnMask ∧ g.cold1Temp < s.ctx.temp ∧ s.ctx.rough ≤ g.learnRough ∧
      u.prof.marks.escZero = true ∧ s.stg.configFault = false ∧ 8 ≤ u.prof.visited
    (¬learns → s.learn c k = s) ∧
    (learns → ∃ w : Bins Nat,
      s.learn c k = withUnit s c (fun u => { u with prof := { u.prof with working := w } }) ∧
      ∀ b : Fin 64, w.get b = learnBin (s.stg.image.chan.get c) ((s.stg.image.baseline.get c).get b)
        ((s.chans.get c).prof.working.get b) ((s.chans.get c).prof.stroke.get b)))

/-- The zone lookup, over lists of records whose end is not below their start, as every zone record is (03 R67). A list is valid
where it holds a record, record 0 is SEAL from -255 to an end of 0 to 255, no other is SEAL, and each starts above the end of
the one before it (03 R68). In a valid list the one record that covers the position gives kind and adjust, and PROTECT with
adjust 0 stands in the gaps; an invalid list gives SEAL up to 16 counts and PROTECT with adjust 0 above. -/
def Obligations.ZoneLookupUsesValidListsOnly : Prop :=
  ∀ (zs : List Zone) (p : Int), (∀ z ∈ zs, z.start ≤ z.stop) →
    ((∀ z ∈ zs, z.kind ≤ 2) → (zonesValid zs = true ↔
      (∃ z, zs[0]? = some z ∧ z.kind = 2 ∧ z.start = -255 ∧ 0 ≤ z.stop ∧ z.stop ≤ 255) ∧
      (∀ (n : Nat) (z : Zone), zs[n + 1]? = some z → z.kind ≠ 2) ∧
      (∀ (n : Nat) (x y : Zone), zs[n]? = some x → zs[n + 1]? = some y → x.stop < y.start))) ∧
    (zonesValid zs = true → ∀ z ∈ zs, z.start ≤ p → p ≤ z.stop → ∀ k : ZoneKind, z.kind = ZoneKind.code k →
      zoneLookup zs p = (k, z.adjust)) ∧
    (zonesValid zs = true → (∀ z ∈ zs, ¬(z.start ≤ p ∧ p ≤ z.stop)) → zoneLookup zs p = (.protect, 0)) ∧
    (zonesValid zs = false → p ≤ 16 → zoneLookup zs p = (.seal, 0)) ∧
    (zonesValid zs = false → 16 < p → zoneLookup zs p = (.protect, 0))

/-! ### Layouts -/

/-- A sample frame and an identity frame are their fields in the order of their layouts, zero bits and CRC-8, most significant
bit first, and nothing else is read as that content. The bytes of every CYCLE frame and of every COMMAND frame of either length,
taken one by one from HUNT, come to GOOD_CYCLE_FRAME or GOOD_COMMAND_FRAME with the payload and leave the receiver hunting, and
so they do bit by bit off the line, each byte's least significant bit first. A byte that starts no frame is dropped; an unknown
kind, a wrong length and a CRC that does not check discard the frame. A REPORT and a RESPONSE go on the line as the bytes of
their layouts, with length and CRC-16, each byte's least significant bit first. A drive word holds two bits for each address
from bit 31 downward, the assign field and the CRC-8 of the 24 bits before it, and goes on the bus most significant bit first. -/
def Obligations.FramesReadBack : Prop :=
  (∀ m : Sample, Sample.bits m = branchFrame (sampleBody m) ∧
    ∀ bits : List Bool, sampleOf bits = some m ↔ bits = branchFrame (sampleBody m)) ∧
  (∀ m : Identity, Identity.bits m = branchFrame (identityBody m) ∧
    ∀ bits : List Bool, identityOf bits = some m ↔ bits = branchFrame (identityBody m)) ∧
  (∀ b : Byte, lineBitsOfByte b = [b.getLsbD 0, b.getLsbD 1, b.getLsbD 2, b.getLsbD 3, b.getLsbD 4, b.getLsbD 5, b.getLsbD 6,
    b.getLsbD 7]) ∧
  (∀ (kind : Byte) (payload : List Byte) (row : Instr),
    (∃ p : CyclePayload, kind = 1 ∧ payload = cyclePayload p ∧ row = .goodCycleFrame p) ∨
      (∃ p : CommandPayload, kind = 3 ∧ payload = commandPayload p ∧ row = .goodCommandFrame p) →
    let frame := frameWith (frameCrc kind payload) kind payload
    receiverFeed .hunt frame = [row] ∧ receiverAfter .hunt frame = .hunt ∧
    lineFeed .hunt (frame.flatMap lineBitsOfByte) = [row] ∧
    (∀ crc : BitVec 16, crc ≠ frameCrc kind payload →
      receiverFeed .hunt (frameWith crc kind payload) = [.frameDiscarded .badCrc] ∧
      receiverAfter .hunt (frameWith crc kind payload) = .hunt)) ∧
  (∀ b : Byte, (b ≠ 0xA5 → receiverByte .hunt b = (.hunt, none)) ∧
    (b ≠ 1 → b ≠ 3 → receiverByte .kind b = (.hunt, some (.frameDiscarded .unknownKind))) ∧
    (b ≠ 16 → receiverByte (.length 1) b = (.hunt, some (.frameDiscarded .wrongLength))) ∧
    (b ≠ 8 → b ≠ 19 → receiverByte (.length 3) b = (.hunt, some (.frameDiscarded .wrongLength)))) ∧
  (∀ a : Answer, Answer.lineBits a = (Answer.lineBytes a).flatMap lineBitsOfByte ∧
    (∀ (side : SideField) (b : ReportBody), a.body = .report side (some b) →
      Answer.lineBytes a = frameWith (frameCrc 2 (reportPayload side b)) 2 (reportPayload side b)) ∧
    (∀ r : Reply, a.body = .response r →
      Answer.lineBytes a = frameWith (frameCrc 4 (responsePayload r)) 4 (responsePayload r))) ∧
  (∀ w : BitVec 32, (driveLineBits w).length = 32 ∧ ∀ i : Nat, i < 32 → (driveLineBits w)[i]? = some (w.getLsbD (31 - i))) ∧
  (∀ (cmds : Oct DriveCommand) (assign : Nat), assign ≤ 8 →
    let w := driveWordOf cmds assign
    (∀ a : Node, w.extractLsb' (30 - 2 * a.val) 2 = match cmds.get a with
      | .hold => 0
      | .opens => 1
      | .closes => 2) ∧
    w.extractLsb' 8 8 = BitVec.ofNat 8 assign ∧ w.extractLsb' 0 8 = crc8 ((driveLineBits w).take 24))

/-! ### Invariants -/

/-- Every step keeps every value in the range its rule gives it, whatever command is taken; a storage fault does where the
value it leaves stands in its range. -/
def Obligations.EveryStepKeepsTheRanges : Prop :=
  ∀ s t : State, s.inRange = true → (∀ p rest, s.pending = .storageFault p :: rest → p.inRange = true) →
    step s = .next t → t.inRange = true

/-- Every step but a storage fault keeps the blocks in agreement: slots with motion, entries with WAITING, the hold timer
with held motion, binding with the node table, causes with INHIBITED, e with its window, grades, phase and store. -/
def Obligations.EveryStepKeepsTheBlocksConsistent : Prop :=
  ∀ s t : State, s.inRange = true → s.consistent = true →
    (∀ p rest, s.pending ≠ .storageFault p :: rest) → step s = .next t → t.consistent = true
end

