-- ==== Sys2Proof/Laws/Oct.lean ====
section
/-! SUPPORT. Laws of the eight-fold records and of profile bins: reading what was put, and checks over all items. -/

namespace Sys2Proof

/-- A property of every index is a property of the eight numerals. -/
theorem fin8_cases {P : Fin 8 → Prop} (h0 : P 0) (h1 : P 1) (h2 : P 2) (h3 : P 3) (h4 : P 4) (h5 : P 5) (h6 : P 6)
    (h7 : P 7) (i : Fin 8) : P i := by
  match i with
  | 0 => exact h0
  | 1 => exact h1
  | 2 => exact h2
  | 3 => exact h3
  | 4 => exact h4
  | 5 => exact h5
  | 6 => exact h6
  | 7 => exact h7

@[simp] theorem Oct.get_set_self {α : Type} (o : Oct α) (i : Fin 8) (x : α) : (o.set i x).get i = x := by
  revert i; exact fin8_cases rfl rfl rfl rfl rfl rfl rfl rfl

theorem Oct.get_set_ne {α : Type} (o : Oct α) {i j : Fin 8} (x : α) (h : j ≠ i) : (o.set i x).get j = o.get j := by
  fin_cases i <;> fin_cases j <;> first | rfl | exact absurd rfl h

theorem Oct.get_set {α : Type} (o : Oct α) (i j : Fin 8) (x : α) :
    (o.set i x).get j = if j = i then x else o.get j := by
  by_cases h : j = i
  · subst h; simp
  · simp [h, Oct.get_set_ne o x h]

@[simp] theorem Oct.get_ofFn {α : Type} (f : Fin 8 → α) (i : Fin 8) : (Oct.ofFn f).get i = f i := by
  revert i; exact fin8_cases rfl rfl rfl rfl rfl rfl rfl rfl

@[simp] theorem Oct.get_const {α : Type} (x : α) (i : Fin 8) : (Oct.const x).get i = x := by simp [Oct.const]

@[simp] theorem Oct.get_map {α β : Type} (f : α → β) (o : Oct α) (i : Fin 8) : (o.map f).get i = f (o.get i) := by
  simp [Oct.map]

/-- Two records that read alike at every index are equal. -/
theorem Oct.ext_get {α : Type} {a b : Oct α} (h : ∀ i, a.get i = b.get i) : a = b := by
  cases a; cases b
  simp only [Oct.mk.injEq]
  exact ⟨h 0, h 1, h 2, h 3, h 4, h 5, h 6, h 7⟩

@[simp] theorem Oct.set_get_self {α : Type} (o : Oct α) (i : Fin 8) : o.set i (o.get i) = o := by
  apply Oct.ext_get; intro j; rw [Oct.get_set]; split
  · next h => rw [h]
  · rfl

@[simp] theorem Oct.set_set {α : Type} (o : Oct α) (i : Fin 8) (x y : α) : (o.set i x).set i y = o.set i y := by
  apply Oct.ext_get; intro j; simp only [Oct.get_set]; split <;> rfl

@[simp] theorem Oct.ofFn_get {α : Type} (o : Oct α) : Oct.ofFn o.get = o := by apply Oct.ext_get; intro i; simp

theorem Oct.toList_eq {α : Type} (o : Oct α) : o.toList = octIndexes.map o.get := rfl

theorem mem_octIndexes (i : Fin 8) : i ∈ octIndexes := by revert i; decide

/-- A check over the eight indexes holds when it holds at each. -/
theorem octIndexes_all {p : Fin 8 → Bool} : octIndexes.all p = true ↔ ∀ i, p i = true := by
  rw [List.all_eq_true]
  exact ⟨fun h i => h i (mem_octIndexes i), fun h i _ => h i⟩

theorem Oct.allGood_iff {α : Type} (p : α → Bool) (o : Oct α) : o.allGood p = true ↔ ∀ i, p (o.get i) = true := by
  rw [Oct.allGood, Oct.toList_eq, List.all_map, octIndexes_all]; rfl

/-- Some item of the eight meets a check exactly when the item of some index does. -/
theorem Oct.any_iff {α : Type} (p : α → Bool) (o : Oct α) : o.toList.any p = true ↔ ∃ i, p (o.get i) = true := by
  rw [Oct.toList_eq, List.any_map, List.any_eq_true]
  exact ⟨fun ⟨i, _, h⟩ => ⟨i, h⟩, fun ⟨i, h⟩ => ⟨i, mem_octIndexes i, h⟩⟩

theorem Oct.all_iff {α : Type} (p : α → Bool) (o : Oct α) : o.toList.all p = true ↔ ∀ i, p (o.get i) = true :=
  Oct.allGood_iff p o

/-- A check over the eight items is kept by a good item put at any index. -/
theorem Oct.allGood_set {α : Type} {p : α → Bool} {o : Oct α} {x : α} (i : Fin 8) (ho : o.allGood p = true)
    (hx : p x = true) : (o.set i x).allGood p = true := by
  rw [Oct.allGood_iff] at *
  intro j; rw [Oct.get_set]; split
  · exact hx
  · exact ho j

@[simp] theorem Bins.get_ofFn {α : Type} (f : Fin 64 → α) (b : Fin 64) : (Bins.ofFn f).get b = f b := by
  have h : 8 * (b.val / 8) + b.val % 8 = b.val := by omega
  simp only [Bins.ofFn, Bins.get, Oct.get_ofFn]
  congr 1
  exact Fin.ext h

@[simp] theorem Bins.get_const {α : Type} (x : α) (b : Fin 64) : (Bins.const x).get b = x := by
  simp [Bins.const, Bins.get]

theorem Bins.get_set {α : Type} (o : Bins α) (a b : Fin 64) (x : α) :
    (o.set a x).get b = if b = a then x else o.get b := by
  simp only [Bins.set, Bins.get, Oct.get_set]
  by_cases h : b = a
  · subst h; simp
  · rw [if_neg h]
    by_cases h1 : b.val / 8 = a.val / 8
    · have h2 : b.val % 8 ≠ a.val % 8 := fun h2 => h (Fin.ext (by omega))
      have h3 : (⟨b.val % 8, by omega⟩ : Fin 8) ≠ ⟨a.val % 8, by omega⟩ := fun e => h2 (Fin.mk.inj e)
      simp [h1, Oct.get_set_ne _ _ h3]
    · simp [h1]

theorem Bins.allGood_iff {α : Type} (p : α → Bool) (o : Bins α) :
    Bins.allGood p o = true ↔ ∀ b : Fin 64, p (o.get b) = true := by
  unfold Bins.allGood
  simp only [Oct.allGood_iff]
  constructor
  · intro h b; exact h _ _
  · intro h i j
    have := h ⟨8 * i.val + j.val, by omega⟩
    simp only [Bins.get] at this
    have e1 : (8 * i.val + j.val) / 8 = i.val := by omega
    have e2 : (8 * i.val + j.val) % 8 = j.val := by omega
    simpa [e1, e2] using this

/-- Two profiles that read alike at every bin are equal. -/
theorem Bins.ext_get {α : Type} {a b : Bins α} (h : ∀ i, a.get i = b.get i) : a = b := by
  apply Oct.ext_get; intro i; apply Oct.ext_get; intro j
  have := h ⟨8 * i.val + j.val, by omega⟩
  simp only [Bins.get] at this
  have e1 : (8 * i.val + j.val) / 8 = i.val := by omega
  have e2 : (8 * i.val + j.val) % 8 = j.val := by omega
  simpa [e1, e2] using this

end Sys2Proof
end

