-- ==== Sys2Proof/Laws/State.lean ====
section
/-! SUPPORT. What each update of the state does to each field: one lemma per field and update, true by definition. -/

namespace Sys2Proof.Machine

/-! ### `State.modChan` -/

@[simp] theorem State.chans_modChan (s : State) (c : Chan) (f : ChannelUnit → ChannelUnit) :
    (s.modChan c f).chans = s.chans.set c (f (s.chans.get c)) := rfl
@[simp] theorem State.ctx_modChan (s : State) (c : Chan) (f : ChannelUnit → ChannelUnit) :
    (s.modChan c f).ctx = s.ctx := rfl
@[simp] theorem State.arb_modChan (s : State) (c : Chan) (f : ChannelUnit → ChannelUnit) :
    (s.modChan c f).arb = s.arb := rfl
@[simp] theorem State.br_modChan (s : State) (c : Chan) (f : ChannelUnit → ChannelUnit) :
    (s.modChan c f).br = s.br := rfl
@[simp] theorem State.enr_modChan (s : State) (c : Chan) (f : ChannelUnit → ChannelUnit) :
    (s.modChan c f).enr = s.enr := rfl
@[simp] theorem State.trk_modChan (s : State) (c : Chan) (f : ChannelUnit → ChannelUnit) :
    (s.modChan c f).trk = s.trk := rfl
@[simp] theorem State.stg_modChan (s : State) (c : Chan) (f : ChannelUnit → ChannelUnit) :
    (s.modChan c f).stg = s.stg := rfl
@[simp] theorem State.rst_modChan (s : State) (c : Chan) (f : ChannelUnit → ChannelUnit) :
    (s.modChan c f).rst = s.rst := rfl
@[simp] theorem State.now_modChan (s : State) (c : Chan) (f : ChannelUnit → ChannelUnit) :
    (s.modChan c f).now = s.now := rfl
@[simp] theorem State.freeCount_modChan (s : State) (c : Chan) (f : ChannelUnit → ChannelUnit) :
    (s.modChan c f).freeCount = s.freeCount := rfl
@[simp] theorem State.pending_modChan (s : State) (c : Chan) (f : ChannelUnit → ChannelUnit) :
    (s.modChan c f).pending = s.pending := rfl

/-! ### `State.modCtl` -/

@[simp] theorem State.chans_modCtl (s : State) (c : Chan) (f : ChannelRecord → ChannelRecord) :
    (s.modCtl c f).chans = s.chans.set c { s.chans.get c with ctl := f (s.chans.get c).ctl } := rfl
@[simp] theorem State.ctx_modCtl (s : State) (c : Chan) (f : ChannelRecord → ChannelRecord) :
    (s.modCtl c f).ctx = s.ctx := rfl
@[simp] theorem State.arb_modCtl (s : State) (c : Chan) (f : ChannelRecord → ChannelRecord) :
    (s.modCtl c f).arb = s.arb := rfl
@[simp] theorem State.br_modCtl (s : State) (c : Chan) (f : ChannelRecord → ChannelRecord) :
    (s.modCtl c f).br = s.br := rfl
@[simp] theorem State.enr_modCtl (s : State) (c : Chan) (f : ChannelRecord → ChannelRecord) :
    (s.modCtl c f).enr = s.enr := rfl
@[simp] theorem State.trk_modCtl (s : State) (c : Chan) (f : ChannelRecord → ChannelRecord) :
    (s.modCtl c f).trk = s.trk := rfl
@[simp] theorem State.stg_modCtl (s : State) (c : Chan) (f : ChannelRecord → ChannelRecord) :
    (s.modCtl c f).stg = s.stg := rfl
@[simp] theorem State.rst_modCtl (s : State) (c : Chan) (f : ChannelRecord → ChannelRecord) :
    (s.modCtl c f).rst = s.rst := rfl
@[simp] theorem State.now_modCtl (s : State) (c : Chan) (f : ChannelRecord → ChannelRecord) :
    (s.modCtl c f).now = s.now := rfl
@[simp] theorem State.freeCount_modCtl (s : State) (c : Chan) (f : ChannelRecord → ChannelRecord) :
    (s.modCtl c f).freeCount = s.freeCount := rfl
@[simp] theorem State.pending_modCtl (s : State) (c : Chan) (f : ChannelRecord → ChannelRecord) :
    (s.modCtl c f).pending = s.pending := rfl

/-! ### `State.modEng` -/

@[simp] theorem State.chans_modEng (s : State) (c : Chan) (f : EngineContext → EngineContext) :
    (s.modEng c f).chans = s.chans.set c { s.chans.get c with eng := f (s.chans.get c).eng } := rfl
@[simp] theorem State.ctx_modEng (s : State) (c : Chan) (f : EngineContext → EngineContext) :
    (s.modEng c f).ctx = s.ctx := rfl
@[simp] theorem State.arb_modEng (s : State) (c : Chan) (f : EngineContext → EngineContext) :
    (s.modEng c f).arb = s.arb := rfl
@[simp] theorem State.br_modEng (s : State) (c : Chan) (f : EngineContext → EngineContext) :
    (s.modEng c f).br = s.br := rfl
@[simp] theorem State.enr_modEng (s : State) (c : Chan) (f : EngineContext → EngineContext) :
    (s.modEng c f).enr = s.enr := rfl
@[simp] theorem State.trk_modEng (s : State) (c : Chan) (f : EngineContext → EngineContext) :
    (s.modEng c f).trk = s.trk := rfl
@[simp] theorem State.stg_modEng (s : State) (c : Chan) (f : EngineContext → EngineContext) :
    (s.modEng c f).stg = s.stg := rfl
@[simp] theorem State.rst_modEng (s : State) (c : Chan) (f : EngineContext → EngineContext) :
    (s.modEng c f).rst = s.rst := rfl
@[simp] theorem State.now_modEng (s : State) (c : Chan) (f : EngineContext → EngineContext) :
    (s.modEng c f).now = s.now := rfl
@[simp] theorem State.freeCount_modEng (s : State) (c : Chan) (f : EngineContext → EngineContext) :
    (s.modEng c f).freeCount = s.freeCount := rfl
@[simp] theorem State.pending_modEng (s : State) (c : Chan) (f : EngineContext → EngineContext) :
    (s.modEng c f).pending = s.pending := rfl

/-! ### `State.modProf` -/

@[simp] theorem State.chans_modProf (s : State) (c : Chan) (f : ProfileContext → ProfileContext) :
    (s.modProf c f).chans = s.chans.set c { s.chans.get c with prof := f (s.chans.get c).prof } := rfl
@[simp] theorem State.ctx_modProf (s : State) (c : Chan) (f : ProfileContext → ProfileContext) :
    (s.modProf c f).ctx = s.ctx := rfl
@[simp] theorem State.arb_modProf (s : State) (c : Chan) (f : ProfileContext → ProfileContext) :
    (s.modProf c f).arb = s.arb := rfl
@[simp] theorem State.br_modProf (s : State) (c : Chan) (f : ProfileContext → ProfileContext) :
    (s.modProf c f).br = s.br := rfl
@[simp] theorem State.enr_modProf (s : State) (c : Chan) (f : ProfileContext → ProfileContext) :
    (s.modProf c f).enr = s.enr := rfl
@[simp] theorem State.trk_modProf (s : State) (c : Chan) (f : ProfileContext → ProfileContext) :
    (s.modProf c f).trk = s.trk := rfl
@[simp] theorem State.stg_modProf (s : State) (c : Chan) (f : ProfileContext → ProfileContext) :
    (s.modProf c f).stg = s.stg := rfl
@[simp] theorem State.rst_modProf (s : State) (c : Chan) (f : ProfileContext → ProfileContext) :
    (s.modProf c f).rst = s.rst := rfl
@[simp] theorem State.now_modProf (s : State) (c : Chan) (f : ProfileContext → ProfileContext) :
    (s.modProf c f).now = s.now := rfl
@[simp] theorem State.freeCount_modProf (s : State) (c : Chan) (f : ProfileContext → ProfileContext) :
    (s.modProf c f).freeCount = s.freeCount := rfl
@[simp] theorem State.pending_modProf (s : State) (c : Chan) (f : ProfileContext → ProfileContext) :
    (s.modProf c f).pending = s.pending := rfl

/-! ### `State.modRev` -/

@[simp] theorem State.chans_modRev (s : State) (c : Chan) (f : ReversalContext → ReversalContext) :
    (s.modRev c f).chans = s.chans.set c { s.chans.get c with rev := f (s.chans.get c).rev } := rfl
@[simp] theorem State.ctx_modRev (s : State) (c : Chan) (f : ReversalContext → ReversalContext) :
    (s.modRev c f).ctx = s.ctx := rfl
@[simp] theorem State.arb_modRev (s : State) (c : Chan) (f : ReversalContext → ReversalContext) :
    (s.modRev c f).arb = s.arb := rfl
@[simp] theorem State.br_modRev (s : State) (c : Chan) (f : ReversalContext → ReversalContext) :
    (s.modRev c f).br = s.br := rfl
@[simp] theorem State.enr_modRev (s : State) (c : Chan) (f : ReversalContext → ReversalContext) :
    (s.modRev c f).enr = s.enr := rfl
@[simp] theorem State.trk_modRev (s : State) (c : Chan) (f : ReversalContext → ReversalContext) :
    (s.modRev c f).trk = s.trk := rfl
@[simp] theorem State.stg_modRev (s : State) (c : Chan) (f : ReversalContext → ReversalContext) :
    (s.modRev c f).stg = s.stg := rfl
@[simp] theorem State.rst_modRev (s : State) (c : Chan) (f : ReversalContext → ReversalContext) :
    (s.modRev c f).rst = s.rst := rfl
@[simp] theorem State.now_modRev (s : State) (c : Chan) (f : ReversalContext → ReversalContext) :
    (s.modRev c f).now = s.now := rfl
@[simp] theorem State.freeCount_modRev (s : State) (c : Chan) (f : ReversalContext → ReversalContext) :
    (s.modRev c f).freeCount = s.freeCount := rfl
@[simp] theorem State.pending_modRev (s : State) (c : Chan) (f : ReversalContext → ReversalContext) :
    (s.modRev c f).pending = s.pending := rfl

/-! ### `State.modSup` -/

@[simp] theorem State.chans_modSup (s : State) (c : Chan) (f : SupplyContext → SupplyContext) :
    (s.modSup c f).chans = s.chans.set c { s.chans.get c with sup := f (s.chans.get c).sup } := rfl
@[simp] theorem State.ctx_modSup (s : State) (c : Chan) (f : SupplyContext → SupplyContext) :
    (s.modSup c f).ctx = s.ctx := rfl
@[simp] theorem State.arb_modSup (s : State) (c : Chan) (f : SupplyContext → SupplyContext) :
    (s.modSup c f).arb = s.arb := rfl
@[simp] theorem State.br_modSup (s : State) (c : Chan) (f : SupplyContext → SupplyContext) :
    (s.modSup c f).br = s.br := rfl
@[simp] theorem State.enr_modSup (s : State) (c : Chan) (f : SupplyContext → SupplyContext) :
    (s.modSup c f).enr = s.enr := rfl
@[simp] theorem State.trk_modSup (s : State) (c : Chan) (f : SupplyContext → SupplyContext) :
    (s.modSup c f).trk = s.trk := rfl
@[simp] theorem State.stg_modSup (s : State) (c : Chan) (f : SupplyContext → SupplyContext) :
    (s.modSup c f).stg = s.stg := rfl
@[simp] theorem State.rst_modSup (s : State) (c : Chan) (f : SupplyContext → SupplyContext) :
    (s.modSup c f).rst = s.rst := rfl
@[simp] theorem State.now_modSup (s : State) (c : Chan) (f : SupplyContext → SupplyContext) :
    (s.modSup c f).now = s.now := rfl
@[simp] theorem State.freeCount_modSup (s : State) (c : Chan) (f : SupplyContext → SupplyContext) :
    (s.modSup c f).freeCount = s.freeCount := rfl
@[simp] theorem State.pending_modSup (s : State) (c : Chan) (f : SupplyContext → SupplyContext) :
    (s.modSup c f).pending = s.pending := rfl

/-! ### `State.setSt` -/

@[simp] theorem State.chans_setSt (s : State) (c : Chan) (dst : ChanState) :
    (s.setSt c dst).chans = s.chans.set c { s.chans.get c with ctl := { (s.chans.get c).ctl with st := dst } } := rfl
@[simp] theorem State.ctx_setSt (s : State) (c : Chan) (dst : ChanState) : (s.setSt c dst).ctx = s.ctx := rfl
@[simp] theorem State.arb_setSt (s : State) (c : Chan) (dst : ChanState) : (s.setSt c dst).arb = s.arb := rfl
@[simp] theorem State.br_setSt (s : State) (c : Chan) (dst : ChanState) : (s.setSt c dst).br = s.br := rfl
@[simp] theorem State.enr_setSt (s : State) (c : Chan) (dst : ChanState) : (s.setSt c dst).enr = s.enr := rfl
@[simp] theorem State.trk_setSt (s : State) (c : Chan) (dst : ChanState) : (s.setSt c dst).trk = s.trk := rfl
@[simp] theorem State.stg_setSt (s : State) (c : Chan) (dst : ChanState) : (s.setSt c dst).stg = s.stg := rfl
@[simp] theorem State.rst_setSt (s : State) (c : Chan) (dst : ChanState) : (s.setSt c dst).rst = s.rst := rfl
@[simp] theorem State.now_setSt (s : State) (c : Chan) (dst : ChanState) : (s.setSt c dst).now = s.now := rfl
@[simp] theorem State.freeCount_setSt (s : State) (c : Chan) (dst : ChanState) :
    (s.setSt c dst).freeCount = s.freeCount := rfl
@[simp] theorem State.pending_setSt (s : State) (c : Chan) (dst : ChanState) :
    (s.setSt c dst).pending = s.pending := rfl

/-! ### `State.vacate` -/

@[simp] theorem State.chans_vacate (s : State) (c : Chan) (dst : ChanState) :
    (s.vacate c dst).chans = s.chans.set c (ChannelUnit.leave (s.chans.get c) dst) := rfl
@[simp] theorem State.ctx_vacate (s : State) (c : Chan) (dst : ChanState) : (s.vacate c dst).ctx = s.ctx := rfl
@[simp] theorem State.arb_vacate (s : State) (c : Chan) (dst : ChanState) :
    (s.vacate c dst).arb = SlotArbiter.drop s.arb c := rfl
@[simp] theorem State.br_vacate (s : State) (c : Chan) (dst : ChanState) : (s.vacate c dst).br = s.br := rfl
@[simp] theorem State.enr_vacate (s : State) (c : Chan) (dst : ChanState) : (s.vacate c dst).enr = s.enr := rfl
@[simp] theorem State.trk_vacate (s : State) (c : Chan) (dst : ChanState) : (s.vacate c dst).trk = s.trk := rfl
@[simp] theorem State.stg_vacate (s : State) (c : Chan) (dst : ChanState) : (s.vacate c dst).stg = s.stg := rfl
@[simp] theorem State.rst_vacate (s : State) (c : Chan) (dst : ChanState) : (s.vacate c dst).rst = s.rst := rfl
@[simp] theorem State.now_vacate (s : State) (c : Chan) (dst : ChanState) : (s.vacate c dst).now = s.now := rfl
@[simp] theorem State.freeCount_vacate (s : State) (c : Chan) (dst : ChanState) :
    (s.vacate c dst).freeCount = s.freeCount := rfl
@[simp] theorem State.pending_vacate (s : State) (c : Chan) (dst : ChanState) :
    (s.vacate c dst).pending = s.pending := rfl

/-! ### `State.refuse` -/

@[simp] theorem State.chans_refuse (s : State) (c : Chan) (why : RefusalReason) :
    (s.refuse c why).chans =
      s.chans.set c { s.chans.get c with ctl := { (s.chans.get c).ctl with refusal := some why, latched := { (s.chans.get c).ctl.latched with orderRefused := true } } } := rfl
@[simp] theorem State.ctx_refuse (s : State) (c : Chan) (why : RefusalReason) : (s.refuse c why).ctx = s.ctx := rfl
@[simp] theorem State.arb_refuse (s : State) (c : Chan) (why : RefusalReason) : (s.refuse c why).arb = s.arb := rfl
@[simp] theorem State.br_refuse (s : State) (c : Chan) (why : RefusalReason) : (s.refuse c why).br = s.br := rfl
@[simp] theorem State.enr_refuse (s : State) (c : Chan) (why : RefusalReason) : (s.refuse c why).enr = s.enr := rfl
@[simp] theorem State.trk_refuse (s : State) (c : Chan) (why : RefusalReason) : (s.refuse c why).trk = s.trk := rfl
@[simp] theorem State.stg_refuse (s : State) (c : Chan) (why : RefusalReason) : (s.refuse c why).stg = s.stg := rfl
@[simp] theorem State.rst_refuse (s : State) (c : Chan) (why : RefusalReason) : (s.refuse c why).rst = s.rst := rfl
@[simp] theorem State.now_refuse (s : State) (c : Chan) (why : RefusalReason) : (s.refuse c why).now = s.now := rfl
@[simp] theorem State.freeCount_refuse (s : State) (c : Chan) (why : RefusalReason) :
    (s.refuse c why).freeCount = s.freeCount := rfl
@[simp] theorem State.pending_refuse (s : State) (c : Chan) (why : RefusalReason) :
    (s.refuse c why).pending = s.pending := rfl

/-! ### `State.modEntry` -/

@[simp] theorem State.chans_modEntry (s : State) (c : Chan) (f : Motion → Motion) :
    (s.modEntry c f).chans = s.chans := rfl
@[simp] theorem State.ctx_modEntry (s : State) (c : Chan) (f : Motion → Motion) : (s.modEntry c f).ctx = s.ctx := rfl
@[simp] theorem State.arb_modEntry (s : State) (c : Chan) (f : Motion → Motion) :
    (s.modEntry c f).arb =
      { s.arb with queue := s.arb.queue.map fun e => if e.channel = c then { e with motion := f e.motion } else e } := rfl
@[simp] theorem State.br_modEntry (s : State) (c : Chan) (f : Motion → Motion) : (s.modEntry c f).br = s.br := rfl
@[simp] theorem State.enr_modEntry (s : State) (c : Chan) (f : Motion → Motion) : (s.modEntry c f).enr = s.enr := rfl
@[simp] theorem State.trk_modEntry (s : State) (c : Chan) (f : Motion → Motion) : (s.modEntry c f).trk = s.trk := rfl
@[simp] theorem State.stg_modEntry (s : State) (c : Chan) (f : Motion → Motion) : (s.modEntry c f).stg = s.stg := rfl
@[simp] theorem State.rst_modEntry (s : State) (c : Chan) (f : Motion → Motion) : (s.modEntry c f).rst = s.rst := rfl
@[simp] theorem State.now_modEntry (s : State) (c : Chan) (f : Motion → Motion) : (s.modEntry c f).now = s.now := rfl
@[simp] theorem State.freeCount_modEntry (s : State) (c : Chan) (f : Motion → Motion) :
    (s.modEntry c f).freeCount = s.freeCount := rfl
@[simp] theorem State.pending_modEntry (s : State) (c : Chan) (f : Motion → Motion) :
    (s.modEntry c f).pending = s.pending := rfl

/-! ### `State.bump` -/

@[simp] theorem State.chans_bump (s : State) : (s.bump).chans = s.chans := rfl
@[simp] theorem State.ctx_bump (s : State) : (s.bump).ctx = s.ctx := rfl
@[simp] theorem State.arb_bump (s : State) : (s.bump).arb = s.arb := rfl
@[simp] theorem State.br_bump (s : State) : (s.bump).br = s.br := rfl
@[simp] theorem State.enr_bump (s : State) : (s.bump).enr = s.enr := rfl
@[simp] theorem State.trk_bump (s : State) : (s.bump).trk = s.trk := rfl
@[simp] theorem State.stg_bump (s : State) : (s.bump).stg = s.stg := rfl
@[simp] theorem State.rst_bump (s : State) : (s.bump).rst = s.rst := rfl
@[simp] theorem State.now_bump (s : State) : (s.bump).now = s.now := rfl
@[simp] theorem State.freeCount_bump (s : State) : (s.bump).freeCount = s.freeCount + 1 := rfl
@[simp] theorem State.pending_bump (s : State) : (s.bump).pending = s.pending := rfl

/-! ### `State.modImage` -/

@[simp] theorem State.chans_modImage (s : State) (f : Image → Image) : (s.modImage f).chans = s.chans := rfl
@[simp] theorem State.ctx_modImage (s : State) (f : Image → Image) : (s.modImage f).ctx = s.ctx := rfl
@[simp] theorem State.arb_modImage (s : State) (f : Image → Image) : (s.modImage f).arb = s.arb := rfl
@[simp] theorem State.br_modImage (s : State) (f : Image → Image) : (s.modImage f).br = s.br := rfl
@[simp] theorem State.enr_modImage (s : State) (f : Image → Image) : (s.modImage f).enr = s.enr := rfl
@[simp] theorem State.trk_modImage (s : State) (f : Image → Image) : (s.modImage f).trk = s.trk := rfl
@[simp] theorem State.stg_modImage (s : State) (f : Image → Image) :
    (s.modImage f).stg = { s.stg with image := f s.stg.image } := rfl
@[simp] theorem State.rst_modImage (s : State) (f : Image → Image) : (s.modImage f).rst = s.rst := rfl
@[simp] theorem State.now_modImage (s : State) (f : Image → Image) : (s.modImage f).now = s.now := rfl
@[simp] theorem State.freeCount_modImage (s : State) (f : Image → Image) :
    (s.modImage f).freeCount = s.freeCount := rfl
@[simp] theorem State.pending_modImage (s : State) (f : Image → Image) : (s.modImage f).pending = s.pending := rfl

/-! ### `State.modNode` -/

@[simp] theorem State.chans_modNode (s : State) (a : Node) (f : NodeContext → NodeContext) :
    (s.modNode a f).chans = s.chans := rfl
@[simp] theorem State.ctx_modNode (s : State) (a : Node) (f : NodeContext → NodeContext) :
    (s.modNode a f).ctx = s.ctx := rfl
@[simp] theorem State.arb_modNode (s : State) (a : Node) (f : NodeContext → NodeContext) :
    (s.modNode a f).arb = s.arb := rfl
@[simp] theorem State.br_modNode (s : State) (a : Node) (f : NodeContext → NodeContext) :
    (s.modNode a f).br = { s.br with nodes := s.br.nodes.set a (f (s.br.nodes.get a)) } := rfl
@[simp] theorem State.enr_modNode (s : State) (a : Node) (f : NodeContext → NodeContext) :
    (s.modNode a f).enr = s.enr := rfl
@[simp] theorem State.trk_modNode (s : State) (a : Node) (f : NodeContext → NodeContext) :
    (s.modNode a f).trk = s.trk := rfl
@[simp] theorem State.stg_modNode (s : State) (a : Node) (f : NodeContext → NodeContext) :
    (s.modNode a f).stg = s.stg := rfl
@[simp] theorem State.rst_modNode (s : State) (a : Node) (f : NodeContext → NodeContext) :
    (s.modNode a f).rst = s.rst := rfl
@[simp] theorem State.now_modNode (s : State) (a : Node) (f : NodeContext → NodeContext) :
    (s.modNode a f).now = s.now := rfl
@[simp] theorem State.freeCount_modNode (s : State) (a : Node) (f : NodeContext → NodeContext) :
    (s.modNode a f).freeCount = s.freeCount := rfl
@[simp] theorem State.pending_modNode (s : State) (a : Node) (f : NodeContext → NodeContext) :
    (s.modNode a f).pending = s.pending := rfl

/-! ### `State.modRst` -/

@[simp] theorem State.chans_modRst (s : State) (f : ResetUnit → ResetUnit) : (s.modRst f).chans = s.chans := rfl
@[simp] theorem State.ctx_modRst (s : State) (f : ResetUnit → ResetUnit) : (s.modRst f).ctx = s.ctx := rfl
@[simp] theorem State.arb_modRst (s : State) (f : ResetUnit → ResetUnit) : (s.modRst f).arb = s.arb := rfl
@[simp] theorem State.br_modRst (s : State) (f : ResetUnit → ResetUnit) : (s.modRst f).br = s.br := rfl
@[simp] theorem State.enr_modRst (s : State) (f : ResetUnit → ResetUnit) : (s.modRst f).enr = s.enr := rfl
@[simp] theorem State.trk_modRst (s : State) (f : ResetUnit → ResetUnit) : (s.modRst f).trk = s.trk := rfl
@[simp] theorem State.stg_modRst (s : State) (f : ResetUnit → ResetUnit) : (s.modRst f).stg = s.stg := rfl
@[simp] theorem State.rst_modRst (s : State) (f : ResetUnit → ResetUnit) : (s.modRst f).rst = f s.rst := rfl
@[simp] theorem State.now_modRst (s : State) (f : ResetUnit → ResetUnit) : (s.modRst f).now = s.now := rfl
@[simp] theorem State.freeCount_modRst (s : State) (f : ResetUnit → ResetUnit) :
    (s.modRst f).freeCount = s.freeCount := rfl
@[simp] theorem State.pending_modRst (s : State) (f : ResetUnit → ResetUnit) : (s.modRst f).pending = s.pending := rfl

/-! ### `State.setReceiver` -/

@[simp] theorem State.chans_setReceiver (s : State) (r : Receiver) : (s.setReceiver r).chans = s.chans := rfl
@[simp] theorem State.ctx_setReceiver (s : State) (r : Receiver) : (s.setReceiver r).ctx = s.ctx := rfl
@[simp] theorem State.arb_setReceiver (s : State) (r : Receiver) : (s.setReceiver r).arb = s.arb := rfl
@[simp] theorem State.br_setReceiver (s : State) (r : Receiver) : (s.setReceiver r).br = s.br := rfl
@[simp] theorem State.enr_setReceiver (s : State) (r : Receiver) : (s.setReceiver r).enr = s.enr := rfl
@[simp] theorem State.trk_setReceiver (s : State) (r : Receiver) :
    (s.setReceiver r).trk = { s.trk with rx := r } := rfl
@[simp] theorem State.stg_setReceiver (s : State) (r : Receiver) : (s.setReceiver r).stg = s.stg := rfl
@[simp] theorem State.rst_setReceiver (s : State) (r : Receiver) : (s.setReceiver r).rst = s.rst := rfl
@[simp] theorem State.now_setReceiver (s : State) (r : Receiver) : (s.setReceiver r).now = s.now := rfl
@[simp] theorem State.freeCount_setReceiver (s : State) (r : Receiver) :
    (s.setReceiver r).freeCount = s.freeCount := rfl
@[simp] theorem State.pending_setReceiver (s : State) (r : Receiver) : (s.setReceiver r).pending = s.pending := rfl

/-! ### `State.restartLoss` -/

@[simp] theorem State.chans_restartLoss (s : State) : (s.restartLoss).chans = s.chans := rfl
@[simp] theorem State.ctx_restartLoss (s : State) : (s.restartLoss).ctx = s.ctx := rfl
@[simp] theorem State.arb_restartLoss (s : State) : (s.restartLoss).arb = s.arb := rfl
@[simp] theorem State.br_restartLoss (s : State) : (s.restartLoss).br = s.br := rfl
@[simp] theorem State.enr_restartLoss (s : State) : (s.restartLoss).enr = s.enr := rfl
@[simp] theorem State.trk_restartLoss (s : State) :
    (s.restartLoss).trk = { s.trk with lossTimer := some (s.inMs (2 * s.glob.trunkLoss)) } := rfl
@[simp] theorem State.stg_restartLoss (s : State) : (s.restartLoss).stg = s.stg := rfl
@[simp] theorem State.rst_restartLoss (s : State) : (s.restartLoss).rst = s.rst := rfl
@[simp] theorem State.now_restartLoss (s : State) : (s.restartLoss).now = s.now := rfl
@[simp] theorem State.freeCount_restartLoss (s : State) : (s.restartLoss).freeCount = s.freeCount := rfl
@[simp] theorem State.pending_restartLoss (s : State) : (s.restartLoss).pending = s.pending := rfl

/-! ### `State.toPlace` -/

@[simp] theorem State.chans_toPlace (s : State) (n : Nat) : (s.toPlace n).chans = s.chans := rfl
@[simp] theorem State.ctx_toPlace (s : State) (n : Nat) : (s.toPlace n).ctx = s.ctx := rfl
@[simp] theorem State.arb_toPlace (s : State) (n : Nat) : (s.toPlace n).arb = s.arb := rfl
@[simp] theorem State.br_toPlace (s : State) (n : Nat) : (s.toPlace n).br = { s.br with place := n } := rfl
@[simp] theorem State.enr_toPlace (s : State) (n : Nat) : (s.toPlace n).enr = s.enr := rfl
@[simp] theorem State.trk_toPlace (s : State) (n : Nat) : (s.toPlace n).trk = s.trk := rfl
@[simp] theorem State.stg_toPlace (s : State) (n : Nat) : (s.toPlace n).stg = s.stg := rfl
@[simp] theorem State.rst_toPlace (s : State) (n : Nat) : (s.toPlace n).rst = s.rst := rfl
@[simp] theorem State.now_toPlace (s : State) (n : Nat) : (s.toPlace n).now = s.now := rfl
@[simp] theorem State.freeCount_toPlace (s : State) (n : Nat) : (s.toPlace n).freeCount = s.freeCount := rfl
@[simp] theorem State.pending_toPlace (s : State) (n : Nat) : (s.toPlace n).pending = s.pending := rfl

/-! ### `State.regainRecord` -/

@[simp] theorem State.chans_regainRecord (s : State) (a : Node) (r : NodeRecord) : (s.regainRecord a r).chans = s.chans := rfl
@[simp] theorem State.ctx_regainRecord (s : State) (a : Node) (r : NodeRecord) : (s.regainRecord a r).ctx = s.ctx := rfl
@[simp] theorem State.arb_regainRecord (s : State) (a : Node) (r : NodeRecord) : (s.regainRecord a r).arb = s.arb := rfl
@[simp] theorem State.trk_regainRecord (s : State) (a : Node) (r : NodeRecord) : (s.regainRecord a r).trk = s.trk := rfl
@[simp] theorem State.stg_regainRecord (s : State) (a : Node) (r : NodeRecord) : (s.regainRecord a r).stg = s.stg := rfl
@[simp] theorem State.rst_regainRecord (s : State) (a : Node) (r : NodeRecord) : (s.regainRecord a r).rst = s.rst := rfl
@[simp] theorem State.now_regainRecord (s : State) (a : Node) (r : NodeRecord) : (s.regainRecord a r).now = s.now := rfl
@[simp] theorem State.freeCount_regainRecord (s : State) (a : Node) (r : NodeRecord) : (s.regainRecord a r).freeCount = s.freeCount := rfl
@[simp] theorem State.pending_regainRecord (s : State) (a : Node) (r : NodeRecord) : (s.regainRecord a r).pending = s.pending := rfl
@[simp] theorem State.br_regainRecord (s : State) (a : Node) (r : NodeRecord) :
    (s.regainRecord a r).br = { s.br with nodes := s.br.nodes.set a (NodeContext.rejoined (s.br.nodes.get a)) } := rfl

/-! ### Reading through an update of one channel -/

@[simp] theorem State.chan_modChan_self (s : State) (c : Chan) (f : ChannelUnit → ChannelUnit) :
    (s.modChan c f).chan c = f (s.chan c) := by simp [State.chan]

theorem State.chan_modChan_ne (s : State) {c d : Chan} (f : ChannelUnit → ChannelUnit) (h : d ≠ c) :
    (s.modChan c f).chan d = s.chan d := by simp [State.chan, Oct.get_set_ne _ _ h]

@[simp] theorem State.chan_vacate_self (s : State) (c : Chan) (dst : ChanState) :
    (s.vacate c dst).chan c = ChannelUnit.leave (s.chan c) dst := by simp [State.chan]

theorem State.chan_vacate_ne (s : State) {c d : Chan} (dst : ChanState) (h : d ≠ c) :
    (s.vacate c dst).chan d = s.chan d := by simp [State.chan, Oct.get_set_ne _ _ h]

/-- Two states that agree in every field are equal. -/
theorem State.ext_fields {s t : State} (chans : s.chans = t.chans) (ctx : s.ctx = t.ctx) (arb : s.arb = t.arb)
    (br : s.br = t.br) (enr : s.enr = t.enr) (trk : s.trk = t.trk) (stg : s.stg = t.stg) (rst : s.rst = t.rst)
    (now : s.now = t.now) (freeCount : s.freeCount = t.freeCount) (pending : s.pending = t.pending) : s = t := by
  cases s; cases t; simp_all

end Sys2Proof.Machine
end

