-- ==== Sys2Proof/Laws/Ops.lean ====
section
/-! SUPPORT. What the shared operations of Machine/Ops.lean do, said once each, and which blocks an operation on one channel
leaves alone. -/

namespace Sys2Proof.Machine

/-! ### Operations that reach one channel alone -/

/-- `t` is `s` after something that happened to channel `c` alone: the other channels, their slots and entries, and every
block but the channels and the arbiter stand. -/
structure OnlyChannel (c : Chan) (s t : State) : Prop where
  chans : ∀ d : Chan, d ≠ c → t.chans.get d = s.chans.get d
  slots : ∀ d : Chan, d ≠ c → t.arb.slots.get d = s.arb.slots.get d
  entries : ∀ d : Chan, d ≠ c → t.entryOf d = s.entryOf d
  stagger : t.arb.stagger = s.arb.stagger
  ctx : t.ctx = s.ctx
  br : t.br = s.br
  enr : t.enr = s.enr
  trk : t.trk = s.trk
  stg : t.stg = s.stg
  rst : t.rst = s.rst
  now : t.now = s.now
  freeCount : t.freeCount = s.freeCount
  pending : t.pending = s.pending

theorem OnlyChannel.refl (c : Chan) (s : State) : OnlyChannel c s s :=
  ⟨fun _ _ => rfl, fun _ _ => rfl, fun _ _ => rfl, rfl, rfl, rfl, rfl, rfl, rfl, rfl, rfl, rfl, rfl⟩

theorem OnlyChannel.trans {c : Chan} {s t u : State} (h : OnlyChannel c s t) (k : OnlyChannel c t u) :
    OnlyChannel c s u :=
  ⟨fun d hd => (k.chans d hd).trans (h.chans d hd), fun d hd => (k.slots d hd).trans (h.slots d hd),
   fun d hd => (k.entries d hd).trans (h.entries d hd), k.stagger.trans h.stagger, k.ctx.trans h.ctx, k.br.trans h.br,
   k.enr.trans h.enr, k.trk.trans h.trk, k.stg.trans h.stg, k.rst.trans h.rst, k.now.trans h.now,
   k.freeCount.trans h.freeCount, k.pending.trans h.pending⟩

theorem onlyChannel_modChan (s : State) (c : Chan) (f : ChannelUnit → ChannelUnit) : OnlyChannel c s (s.modChan c f) :=
  ⟨fun _ hd => Oct.get_set_ne _ _ hd, fun _ _ => rfl, fun _ _ => rfl, rfl, rfl, rfl, rfl, rfl, rfl, rfl, rfl, rfl, rfl⟩

theorem onlyChannel_modCtl (s : State) (c : Chan) (f : ChannelRecord → ChannelRecord) : OnlyChannel c s (s.modCtl c f) :=
  onlyChannel_modChan s c _

theorem onlyChannel_modEng (s : State) (c : Chan) (f : EngineContext → EngineContext) : OnlyChannel c s (s.modEng c f) :=
  onlyChannel_modChan s c _

theorem onlyChannel_modProf (s : State) (c : Chan) (f : ProfileContext → ProfileContext) :
    OnlyChannel c s (s.modProf c f) := onlyChannel_modChan s c _

theorem onlyChannel_modRev (s : State) (c : Chan) (f : ReversalContext → ReversalContext) :
    OnlyChannel c s (s.modRev c f) := onlyChannel_modChan s c _

theorem onlyChannel_modSup (s : State) (c : Chan) (f : SupplyContext → SupplyContext) : OnlyChannel c s (s.modSup c f) :=
  onlyChannel_modChan s c _

/-- An entry of another channel is found in the queue with one channel's entries removed just as before. -/
theorem find_entry_filter (q : List Entry) {c d : Chan} (h : d ≠ c) :
    (q.filter fun e => decide (e.channel ≠ c)).find? (fun e => decide (e.channel = d)) =
      q.find? fun e => decide (e.channel = d) := by
  induction q with
  | nil => rfl
  | cons e q ih =>
    by_cases he : e.channel = c
    · rw [List.filter_cons_of_neg (by simpa using he), ih, List.find?_cons_of_neg]
      simpa using fun h' => h (h'.symm.trans he)
    · rw [List.filter_cons_of_pos (by simpa using he)]
      by_cases hd : e.channel = d
      · rw [List.find?_cons_of_pos (by simpa using hd), List.find?_cons_of_pos (by simpa using hd)]
      · rw [List.find?_cons_of_neg (by simpa using hd), List.find?_cons_of_neg (by simpa using hd), ih]

/-- With its entries removed a channel has no entry. -/
theorem find_entry_filter_self (q : List Entry) (c : Chan) :
    (q.filter fun e => decide (e.channel ≠ c)).find? (fun e => decide (e.channel = c)) = none := by
  rw [List.find?_eq_none]
  intro e he
  have := (List.mem_filter.mp he).2
  simpa using this

theorem onlyChannel_vacate (s : State) (c : Chan) (dst : ChanState) : OnlyChannel c s (s.vacate c dst) :=
  ⟨fun _ hd => Oct.get_set_ne _ _ hd, fun _ hd => Oct.get_set_ne _ _ hd, fun _ hd => find_entry_filter _ hd, rfl, rfl, rfl,
   rfl, rfl, rfl, rfl, rfl, rfl, rfl⟩

/-- A CLOSING channel closes its stroke as it leaves (02 R32). -/
theorem ChannelUnit.engLeaving_closing (u : ChannelUnit) (h : u.ctl.st = .closing) :
    ChannelUnit.engLeaving u = closeStroke u.eng := if_pos h

/-- A channel that is not CLOSING has no stroke to close. -/
theorem ChannelUnit.engLeaving_of_ne (u : ChannelUnit) (h : u.ctl.st ≠ .closing) : ChannelUnit.engLeaving u = u.eng := if_neg h

@[simp] theorem State.entryOf_vacate_self (s : State) (c : Chan) (dst : ChanState) : (s.vacate c dst).entryOf c = none :=
  find_entry_filter_self _ _

@[simp] theorem State.slots_vacate_self (s : State) (c : Chan) (dst : ChanState) :
    (s.vacate c dst).arb.slots.get c = false := Oct.get_set_self _ _ _

/-! ### Teach failure, refusals, causes, the reference -/

/-- A change of a unit that leaves it as it is changes nothing. -/
theorem State.modChan_id (s : State) (c : Chan) (f : ChannelUnit → ChannelUnit) (h : f (s.chans.get c) = s.chans.get c) :
    s.modChan c f = s := by
  apply State.ext_fields <;> first | rfl | (show s.chans.set c (f (s.chans.get c)) = s.chans; rw [h, Oct.set_get_self])

theorem State.teachFail_running (s : State) (c : Chan) (why : TeachReason) (h : (s.chan c).prof.teach = .running) :
    s.teachFail c why = s.modProf c fun p =>
      { p with teach := .failed why, teachVisited := if (s.chan c).ctl.st = .closing then p.visited else 0 } := by
  rw [State.teachFail, if_pos h]

theorem State.teachFail_idle (s : State) (c : Chan) (why : TeachReason) (h : (s.chan c).prof.teach ≠ .running) :
    s.teachFail c why = s := by rw [State.teachFail, if_neg h]

theorem onlyChannel_teachFail (s : State) (c : Chan) (why : TeachReason) : OnlyChannel c s (s.teachFail c why) := by
  unfold State.teachFail; split
  · exact onlyChannel_modProf s c _
  · exact OnlyChannel.refl c s

/-- Teach failure writes the teach state and count of its channel and nothing else. -/
theorem State.teachFail_chan (s : State) (c : Chan) (why : TeachReason) :
    ∃ p : ProfileContext, (s.teachFail c why).chan c = { s.chan c with prof := p } ∧
      p.working = (s.chan c).prof.working ∧ p.stroke = (s.chan c).prof.stroke ∧ p.marks = (s.chan c).prof.marks ∧
      p.visited = (s.chan c).prof.visited := by
  by_cases h : (s.chan c).prof.teach = .running
  · rw [State.teachFail_running s c why h]
    refine ⟨{ (s.chan c).prof with
      teach := .failed why, teachVisited := if (s.chan c).ctl.st = .closing then (s.chan c).prof.visited else 0 },
      ?_, rfl, rfl, rfl, rfl⟩
    simp [State.chan]
  · rw [State.teachFail_idle s c why h]
    exact ⟨_, rfl, rfl, rfl, rfl, rfl⟩

@[simp] theorem State.arb_teachFail (s : State) (c : Chan) (why : TeachReason) : (s.teachFail c why).arb = s.arb := by
  unfold State.teachFail; split <;> rfl

@[simp] theorem State.ctl_teachFail (s : State) (c : Chan) (why : TeachReason) :
    ((s.teachFail c why).chan c).ctl = (s.chan c).ctl := by
  obtain ⟨p, h, _⟩ := State.teachFail_chan s c why; rw [h]

/-- The set of causes as it stands changes nothing but itself. -/
theorem State.setCauses_same (s : State) (c : Chan) (k : Causes) (h : k = (s.chan c).ctl.causes) : s.setCauses c k = s := by
  subst h
  simp only [State.setCauses]
  rw [if_neg (by rintro ⟨h1, h2⟩; rw [h1] at h2; exact Bool.false_ne_true h2),
    if_neg (by rintro ⟨h1, h2, _⟩; rw [h1] at h2; exact Bool.false_ne_true h2.symm)]
  exact State.modChan_id s c _ rfl

theorem onlyChannel_setCauses (s : State) (c : Chan) (k : Causes) : OnlyChannel c s (s.setCauses c k) := by
  simp only [State.setCauses]
  split
  · exact ((onlyChannel_modCtl s c _).trans (onlyChannel_teachFail _ c _)).trans (onlyChannel_vacate _ c _)
  · split
    · exact (onlyChannel_modCtl s c _).trans (onlyChannel_modCtl _ c _)
    · exact onlyChannel_modCtl s c _

theorem onlyChannel_refuse (s : State) (c : Chan) (why : RefusalReason) : OnlyChannel c s (s.refuse c why) :=
  onlyChannel_modCtl s c _

theorem onlyChannel_loseReference (s : State) (c : Chan) : OnlyChannel c s (s.loseReference c) := by
  unfold State.loseReference
  split
  · have h1 : OnlyChannel c s (s.modCtl c fun r => { r with referenced := false }) := onlyChannel_modCtl s c _
    dsimp only
    split
    · split
      · exact ((h1.trans (onlyChannel_teachFail _ c _)).trans (onlyChannel_vacate _ c _)).trans (onlyChannel_refuse _ c _)
      · exact h1
    · exact h1
  · exact OnlyChannel.refl c s

/-! ### Binding -/

theorem onlyChannel_becomeBound (s : State) (c : Chan) (r : NodeRecord) : OnlyChannel c s (s.becomeBound c r) := by
  unfold State.becomeBound; exact onlyChannel_modChan s c _

theorem onlyChannel_becomeUnbound (s : State) (c : Chan) : OnlyChannel c s (s.becomeUnbound c) :=
  ((onlyChannel_teachFail s c _).trans (onlyChannel_vacate _ c _)).trans (onlyChannel_modChan _ c _)

theorem onlyChannel_judgeBinding (old : Oct Nat) (s : State) (c : Chan) : OnlyChannel c s (s.judgeBinding old c) := by
  simp only [State.judgeBinding]
  have h1 : OnlyChannel c s (if (decide ((s.chan c).ctl.st ≠ .absent) &&
      !(s.isBound c && decide ((s.cset c).nodeAddr = old.get c))) = true then s.becomeUnbound c else s) := by
    split
    · exact onlyChannel_becomeUnbound s c
    · exact OnlyChannel.refl c s
  split
  · split
    · exact h1.trans (onlyChannel_becomeBound _ c _)
    · exact h1
  · exact h1

/-! ### The start queue -/

theorem find_entry_append {q : List Entry} {e : Entry} {d : Chan} (h : d ≠ e.channel) :
    (q ++ [e]).find? (fun x => decide (x.channel = d)) = q.find? fun x => decide (x.channel = d) := by
  rw [List.find?_append, List.find?_cons_of_neg (by simpa using fun h' => h h'.symm)]
  simp

theorem onlyChannel_joinQueue (s : State) (c : Chan) (m : Motion) : OnlyChannel c s (s.joinQueue c m) :=
  ⟨fun _ hd => Oct.get_set_ne _ _ hd, fun _ _ => rfl, fun _ hd => find_entry_append hd, rfl, rfl, rfl, rfl, rfl, rfl, rfl,
   rfl, rfl, rfl⟩

/-- Changing items of one channel's entry leaves the entries of the others, and which channels have entries. -/
theorem find_entry_map (q : List Entry) (c d : Chan) (f : Motion → Motion) :
    (q.map fun e => if e.channel = c then { e with motion := f e.motion } else e).find? (fun e => decide (e.channel = d)) =
      (q.find? fun e => decide (e.channel = d)).map fun e => if d = c then { e with motion := f e.motion } else e := by
  induction q with
  | nil => rfl
  | cons e q ih =>
    have hc : (if e.channel = c then { e with motion := f e.motion } else e).channel = e.channel := by split <;> rfl
    rw [List.map_cons]
    by_cases hd : e.channel = d
    · rw [List.find?_cons_of_pos (by simpa [hc] using hd), List.find?_cons_of_pos (by simpa using hd)]
      subst hd; rfl
    · rw [List.find?_cons_of_neg (by simpa [hc] using hd), List.find?_cons_of_neg (by simpa using hd), ih]

theorem onlyChannel_modEntry (s : State) (c : Chan) (f : Motion → Motion) : OnlyChannel c s (s.modEntry c f) := by
  refine ⟨fun _ _ => rfl, fun _ _ => rfl, fun d hd => ?_, rfl, rfl, rfl, rfl, rfl, rfl, rfl, rfl, rfl, rfl⟩
  show List.find? _ (List.map _ _) = _
  rw [find_entry_map]
  simp [hd, State.entryOf]

/-! ### Operations on each channel in turn -/

/-- What an operation on one channel leaves alone, the same operation on each channel in turn leaves alone. -/
theorem foldl_octIndexes_field {α : Type} (op : State → Chan → State) (field : State → α)
    (h : ∀ (s : State) (c : Chan), field (op s c) = field s) (s : State) : field (octIndexes.foldl op s) = field s := by
  simp only [octIndexes, List.foldl, h]

/-- What holds of a channel stays so through an operation on each of some other channels. -/
theorem foldl_keeps (op : State → Chan → State) (P : Chan → State → Prop)
    (keep : ∀ (s : State) (c d : Chan), d ≠ c → P d s → P d (op s c)) (d : Chan) :
    ∀ (l : List Chan) (s : State), d ∉ l → P d s → P d (l.foldl op s) := by
  intro l
  induction l with
  | nil => exact fun _ _ h => h
  | cons c l ih =>
    intro s hd h
    rw [List.mem_cons, not_or] at hd
    exact ih (op s c) hd.2 (keep s c d hd.1 h)

/-- After an operation on each channel in turn, a channel shows what its own operation did in a state that agrees on it:
the operations on the others do not reach it. -/
theorem foldl_octIndexes_chan (op : State → Chan → State) (P : Chan → State → Prop)
    (own : ∀ (s : State) (c : Chan), P c (op s c)) (keep : ∀ (s : State) (c d : Chan), d ≠ c → P d s → P d (op s c))
    (s : State) (c : Chan) : P c (octIndexes.foldl op s) := by
  have key : ∀ (l : List Chan) (s : State), l.Nodup → c ∈ l → P c (l.foldl op s) := by
    intro l
    induction l with
    | nil => exact fun _ _ h => absurd h (List.not_mem_nil)
    | cons d l ih =>
      intro s hn hc
      rw [List.nodup_cons] at hn
      rcases List.mem_cons.mp hc with rfl | hc
      · exact foldl_keeps op P keep c l _ hn.1 (own s c)
      · exact ih _ hn.2 hc
  exact key octIndexes s (by decide) ((by decide : ∀ c : Chan, c ∈ octIndexes) c)

/-! ### Commands of a running part -/

/-- A command of a running part is its function. -/
theorem whileRunning_running (s : State) (f : State → State) (h : s.rst.active = false) :
    whileRunning s f = .next (f s) := by simp [whileRunning, h]

/-- While a cold reset is held it does nothing. -/
theorem whileRunning_held (s : State) (f : State → State) (h : s.rst.active = true) : whileRunning s f = .next s := by
  simp [whileRunning, h]

end Sys2Proof.Machine
end

