-- ==== Sys2Proof/Laws/Branch.lean ====
section
/-! SUPPORT. When a timer row acts, and the slots of a branch cycle in their order: which rows of a cycle end which slots. -/

namespace Sys2Proof.Machine

/-! ### Timer rows -/

theorem isDue_iff (timer : Option Nat) (now : Nat) : isDue timer now = true ↔ ∃ t, timer = some t ∧ t ≤ now := by
  cases timer <;> simp [isDue]

theorem isDue_eq_false_iff (timer : Option Nat) (now : Nat) : isDue timer now = false ↔ ∀ t, timer = some t → now < t := by
  cases timer <;> simp [isDue]

/-! ### The slots of a cycle (07 R143) -/

/-- With the reply slots before place `n` over, none is left to end before it. -/
theorem State.silentUpTo_done {s : State} {n : Nat} (h : n ≤ s.br.place) : s.silentUpTo n = s := by
  have key : ∀ l : List Node,
      l.foldl (fun s a => if s.br.place ≤ a.val ∧ a.val < n then s.endReplySlot a .silent else s) s = s := by
    intro l
    induction l with
    | nil => rfl
    | cons a l ih => rw [List.foldl_cons, if_neg (by omega), ih]
  exact key _

/-- The row of the slot whose turn it is ends that slot alone. -/
theorem State.replySlotRow_next {s : State} {a : Node} (content : SlotContent) (h : s.br.place = a.val) :
    s.replySlotRow a content = s.endReplySlot a content := by
  rw [State.replySlotRow, if_pos (by omega), State.silentUpTo_done (by omega)]

/-- The row of a slot that has ended does nothing. -/
theorem State.replySlotRow_past {s : State} {a : Node} (content : SlotContent) (h : a.val < s.br.place) :
    s.replySlotRow a content = s := by
  rw [State.replySlotRow, if_neg (by omega)]

/-- With the reply slots over, the row of slot 0 ends it alone. -/
theorem State.slot0Row_next {s : State} (content : SlotContent) (h : s.br.place = 8) :
    s.slot0Row content = (s.slot0Ends content).toPlace 9 := by
  rw [State.slot0Row, if_pos (by omega), State.silentUpTo_done (by omega)]

/-- With slot 0 over, its row does nothing. -/
theorem State.slot0Row_past {s : State} (content : SlotContent) (h : 8 < s.br.place) : s.slot0Row content = s := by
  rw [State.slot0Row, if_neg (by omega)]

theorem execReplySlotEnd_next {s : State} {a : Node} (content : SlotContent) (h : s.rst.active = false)
    (hp : s.br.place = a.val) :
    execReplySlotEnd a content s = .next ((s.replySlotEnds a content).toPlace (a.val + 1)) := by
  rw [execReplySlotEnd, whileRunning_running _ _ h, State.replySlotRow_next content hp]; rfl

theorem execSlot0End_next {s : State} (content : SlotContent) (h : s.rst.active = false) (hp : s.br.place = 8) :
    execSlot0End content s = .next ((s.slot0Ends content).toPlace 9) := by
  rw [execSlot0End, whileRunning_running _ _ h, State.slot0Row_next content hp]

/-- A cycle start whose timer has been reached, with every slot of the cycle before it over. -/
theorem execBranchCycleStart_next {s : State} (h : s.rst.active = false) (ht : isDue s.br.timer s.now = true)
    (hp : 8 < s.br.place) : execBranchCycleStart s = .next s.cycleStart := by
  rw [execBranchCycleStart, whileRunning_running _ _ h, if_pos ht, State.slot0Row_past _ hp]

theorem execBranchCycleStart_early {s : State} (ht : isDue s.br.timer s.now = false) : execBranchCycleStart s = .next s := by
  simp [execBranchCycleStart, whileRunning, ht]

/-! ### The end of slot 0 -/

theorem State.slot0Ends_unused {s : State} (content : SlotContent) (h : s.enr.slot0 = .unused) : s.slot0Ends content = s := by
  simp [State.slot0Ends, h]

/-- An unanswered rejoin: the reply slot of its address is read in the next cycle (08 R172). -/
theorem State.slot0Ends_rejoin_missed {s : State} {a : Node} {content : SlotContent} (h : s.enr.slot0 = .rejoin a)
    (hc : slotIdentity content = none) :
    s.slot0Ends content = { s with enr := { s.enr with slot0 := .unused, reading := none, followUp := some a } } := by
  simp [State.slot0Ends, h, hc]

end Sys2Proof.Machine
end

