-- ==== Sys2Proof/Laws/Channel.lean ====
section
/-! SUPPORT. The order gate and the trunk port: handling order fields reads nothing of the trunk port and leaves it alone
(01 R18, 09 R175). The start queue: when a timeout is due, and what empties the queue (06 R137, R139, R140). -/

namespace Sys2Proof.Machine

/-- The state with another trunk port. -/
def State.withTrk (s : State) (k : TrunkPort) : State := { s with trk := k }

@[simp] theorem State.withTrk_chans (s : State) (k : TrunkPort) : (s.withTrk k).chans = s.chans := rfl
@[simp] theorem State.withTrk_arb (s : State) (k : TrunkPort) : (s.withTrk k).arb = s.arb := rfl
@[simp] theorem State.withTrk_trk (s : State) (k : TrunkPort) : (s.withTrk k).trk = k := rfl

theorem State.heldEnd_withTrk (s : State) (k : TrunkPort) (c : Chan) (o : Order) :
    (s.withTrk k).heldEnd c o = (s.heldEnd c o).withTrk k := by
  show (match s.carried c with
    | some m => if m.origin = Origin.held ∧ s.orderDir c o ≠ some m.dir then (s.withTrk k).vacate c .idle else s.withTrk k
    | none => s.withTrk k) = (match s.carried c with
    | some m => if m.origin = Origin.held ∧ s.orderDir c o ≠ some m.dir then s.vacate c .idle else s
    | none => s).withTrk k
  cases s.carried c with
  | none => rfl
  | some m => dsimp only; split <;> rfl

theorem State.teachFail_withTrk (s : State) (k : TrunkPort) (c : Chan) (why : TeachReason) :
    (s.withTrk k).teachFail c why = (s.teachFail c why).withTrk k := by
  simp only [State.teachFail]
  show (if (s.chan c).prof.teach = .running then _ else _) = _
  split <;> rfl

theorem State.endCarried_withTrk (s : State) (k : TrunkPort) (c : Chan) :
    (s.withTrk k).endCarried c = (s.endCarried c).withTrk k := by
  simp only [State.endCarried]
  show (if (s.chan c).ctl.st = .idle then _ else _) = _
  split <;> rfl

theorem State.sameDirection_withTrk (s : State) (k : TrunkPort) (c : Chan) (o : Order) (m : Motion) :
    (s.withTrk k).sameDirection c o m = (s.sameDirection c o m).withTrk k := by
  simp only [State.sameDirection, State.modCarried]
  split
  · split <;> rfl
  · show State.modCtl (if (s.chan c).ctl.st = .waiting then _ else _) c _ = _
    split <;> rfl

theorem State.actInMotion_withTrk (s : State) (k : TrunkPort) (c : Chan) (o : Order) :
    (s.withTrk k).actInMotion c o = (s.actInMotion c o).withTrk k := by
  simp only [State.actInMotion, State.endCarried_withTrk]
  show (if s.takesNoMotion c o then _ else
    match s.orderDir c o with
    | none => _
    | some d => match s.carried c with
      | none => _
      | some m => if m.dir = d then _ else _) = _
  split
  · rfl
  · cases s.orderDir c o with
    | none => rfl
    | some d =>
      cases s.carried c with
      | none => rfl
      | some m =>
        dsimp only
        split
        · exact s.sameDirection_withTrk k c o m
        · rfl

theorem State.takeOrder_withTrk (s : State) (k : TrunkPort) (c : Chan) (o : Order) :
    (s.withTrk k).takeOrder c o = (s.takeOrder c o).withTrk k := by
  simp only [State.takeOrder, State.teachFail_withTrk]
  show (match (s.teachFail c .order).refusalOf c o with
    | some why => _
    | none => _) = _
  cases (s.teachFail c .order).refusalOf c o with
  | some why => rfl
  | none =>
    dsimp only
    split
    · exact State.endCarried_withTrk _ k c
    · exact State.actInMotion_withTrk _ k c o

/-- The order gate of a channel reads nothing of the trunk port and leaves it alone. -/
theorem State.orderGate_withTrk (s : State) (k : TrunkPort) (c : Chan) (o : Order) :
    (s.withTrk k).orderGate c o = (s.orderGate c o).withTrk k := by
  simp only [State.orderGate]
  rw [show (s.withTrk k).modCtl c (fun r => { r with lastOrder := o }) =
    (s.modCtl c fun r => { r with lastOrder := o }).withTrk k from rfl, State.heldEnd_withTrk]
  show (if isTaken o (decide (o ≠ (s.chan c).ctl.lastOrder)) then _ else _) = _
  split
  · exact State.takeOrder_withTrk _ k c o
  · rfl

/-- The order gates read nothing of the trunk port and leave it alone: the channels and the arbiter after the order fields of a
frame are the same whatever the trunk port holds. -/
theorem State.orderGates_withTrk (s : State) (k : TrunkPort) (orders : Oct Byte) :
    (s.withTrk k).orderGates orders = (s.orderGates orders).withTrk k := by
  simp only [State.orderGates]
  induction octIndexes generalizing s with
  | nil => rfl
  | cons c l ih => rw [List.foldl_cons, List.foldl_cons, State.orderGate_withTrk, ih]

/-! ### What a channel carries ends -/

theorem State.endCarried_of_idle {s : State} {c : Chan} (h : (s.chan c).ctl.st = .idle) : s.endCarried c = s := if_pos h
theorem State.endCarried_of_ne {s : State} {c : Chan} (h : (s.chan c).ctl.st ≠ .idle) : s.endCarried c = s.vacate c .idle :=
  if_neg h

/-! ### The start queue -/

@[simp] theorem SlotArbiter.queue_flushed (a : SlotArbiter) : (SlotArbiter.flushed a).queue = [] := rfl
@[simp] theorem SlotArbiter.slots_flushed (a : SlotArbiter) : (SlotArbiter.flushed a).slots = a.slots := rfl
@[simp] theorem SlotArbiter.stagger_flushed (a : SlotArbiter) : (SlotArbiter.flushed a).stagger = a.stagger := rfl

@[simp] theorem State.queue_trunkLost (s : State) : s.trunkLost.arb.queue = [] := rfl
@[simp] theorem State.queue_startEnroll (s : State) : s.startEnroll.arb.queue = [] := rfl
@[simp] theorem State.slots_startEnroll (s : State) : s.startEnroll.arb.slots = Oct.const false := rfl

/-- A queue timeout is due exactly where an entry of the channel has reached its expiry. -/
theorem State.queueDue_iff (s : State) (c : Chan) :
    s.queueDue c = true ↔ ∃ e ∈ s.arb.queue, e.channel = c ∧ e.expiry ≤ s.now := by
  simp [State.queueDue, State.expired]

end Sys2Proof.Machine
end

