-- ==== Sys2Proof/Laws/Layout.lean ====
section
/-! SUPPORT. Laws of the layouts: bit fields as numbers, and the bytes that read back off the line. -/

namespace Sys2Proof.Machine

/-- Two bit vectors laid side by side, as a number. -/
theorem toNat_append_add {v w : Nat} (x : BitVec v) (y : BitVec w) : (x ++ y).toNat = x.toNat * 2 ^ w + y.toNat := by
  rw [BitVec.toNat_append, ← Nat.shiftLeft_add_eq_or_of_lt y.isLt, Nat.shiftLeft_eq]

/-- A one-bit vector of a Boolean, as the number a one-bit field holds. -/
theorem toNat_ofBool (b : Bool) : (BitVec.ofBool b).toNat = ((if b then (1 : Int) else 0) % 2 ^ 1).toNat := by
  cases b <;> rfl

/-- A signed value in `w` bits, as the number its field holds. -/
theorem toNat_ofInt_field (w : Nat) (v : Int) : (BitVec.ofInt w v).toNat = (v % (2 : Int) ^ w).toNat := by
  rw [BitVec.toNat_ofInt]; norm_cast

/-- A natural value in `w` bits, as the number its field holds. -/
theorem toNat_ofNat_field (w n : Nat) : (BitVec.ofNat w n).toNat = ((n : Int) % (2 : Int) ^ w).toNat := by
  rw [BitVec.toNat_ofNat]; norm_cast

/-- What a field holds fits its width. -/
theorem field_lt (w : Nat) (v : Int) : (v % (2 : Int) ^ w).toNat < 2 ^ w := by
  have h : (0 : Int) < 2 ^ w := by positivity
  have h1 := Int.emod_nonneg v (ne_of_gt h)
  have h2 := Int.emod_lt_of_pos v h
  have h3 : ((v % (2 : Int) ^ w).toNat : Int) < ((2 ^ w : Nat) : Int) := by
    rw [Int.toNat_of_nonneg h1]; push_cast; exact h2
  exact_mod_cast h3

/-- Fields laid one after another from a start value. -/
theorem packFields_fold (fields : List (Nat × Int)) (a b : Nat) :
    fields.foldl (fun acc f => (acc.1 + f.1, acc.2 * 2 ^ f.1 + (f.2 % (2 : Int) ^ f.1).toNat)) (a, b) =
      (a + (fields.map Prod.fst).sum,
       b * 2 ^ (fields.map Prod.fst).sum +
        (fields.foldl (fun acc f => (acc.1 + f.1, acc.2 * 2 ^ f.1 + (f.2 % (2 : Int) ^ f.1).toNat)) (0, 0)).2) := by
  induction fields generalizing a b with
  | nil => simp
  | cons f rest ih =>
    simp only [List.foldl_cons, List.map_cons, List.sum_cons]
    rw [ih, ih (0 + f.1)]
    ext
    · simp only; omega
    · simp only [Nat.pow_add, Nat.zero_mul, Nat.zero_add]; ring

/-- What the fields hold fits the sum of their widths. -/
theorem packFields_lt (fields : List (Nat × Int)) :
    (fields.foldl (fun acc f => (acc.1 + f.1, acc.2 * 2 ^ f.1 + (f.2 % (2 : Int) ^ f.1).toNat)) (0, 0)).2 <
      2 ^ (fields.map Prod.fst).sum := by
  induction fields with
  | nil => simp
  | cons f rest ih =>
    simp only [List.foldl_cons, List.map_cons, List.sum_cons]
    rw [packFields_fold, Nat.pow_add]
    have h := field_lt f.1 f.2
    generalize (f.2 % (2 : Int) ^ f.1).toNat = x at h ⊢
    simp only [Nat.zero_mul, Nat.zero_add]
    calc _ < x * 2 ^ (rest.map Prod.fst).sum + 2 ^ (rest.map Prod.fst).sum := by omega
      _ = (x + 1) * 2 ^ (rest.map Prod.fst).sum := by ring
      _ ≤ _ := Nat.mul_le_mul_right _ h

/-- Fields that fit their total width leave room below that total. -/
theorem packFields_lt_total (total : Nat) (fields : List (Nat × Int)) (h : (fields.map Prod.fst).sum ≤ total) :
    packFields total fields < 2 ^ total := by
  unfold packFields
  rw [packFields_fold]
  simp only [Nat.zero_mul, Nat.zero_add]
  have := packFields_lt fields
  calc _ < 2 ^ (fields.map Prod.fst).sum * 2 ^ (total - (fields.map Prod.fst).sum) :=
        Nat.mul_lt_mul_of_pos_right this (by positivity)
    _ = 2 ^ total := by rw [← Nat.pow_add]; congr 1; omega

theorem toNat_packFields (total : Nat) (fields : List (Nat × Int)) (h : (fields.map Prod.fst).sum ≤ total) :
    (BitVec.ofNat total (packFields total fields)).toNat = packFields total fields := by
  rw [BitVec.toNat_ofNat, Nat.mod_eq_of_lt (packFields_lt_total total fields h)]

/-! ### Bytes on the line (11 R190) -/

/-- A byte put on the line bit by bit reads back. -/
@[simp] theorem byteOfLineBits_lineBitsOfByte (b : Byte) : byteOfLineBits (lineBitsOfByte b) = b := by
  revert b; decide +kernel

@[simp] theorem length_lineBitsOfByte (b : Byte) : (lineBitsOfByte b).length = 8 := by simp [lineBitsOfByte]

/-- Bytes put on the line bit by bit read back. -/
theorem bytesOfLine_flatMap (l : List Byte) : ∀ n, l.length ≤ n → bytesOfLine n (l.flatMap lineBitsOfByte) = l := by
  induction l with
  | nil => intro n _; cases n <;> rfl
  | cons b l ih =>
    intro n h
    cases n with
    | zero => simp at h
    | succ n =>
      have hb := length_lineBitsOfByte b
      rw [List.flatMap_cons, bytesOfLine, if_neg (by simp [hb]), List.take_left' hb, List.drop_left' hb,
        byteOfLineBits_lineBitsOfByte, ih n (by simpa using h)]

theorem length_flatMap_lineBits (l : List Byte) : (l.flatMap lineBitsOfByte).length = 8 * l.length := by
  induction l with
  | nil => rfl
  | cons b l ih => rw [List.flatMap_cons, List.length_append, ih, length_lineBitsOfByte, List.length_cons]; omega

/-- Whole bytes sent bit by bit come to what they come to byte by byte (11 R190). -/
theorem lineFeed_flatMap (r : Receiver) (l : List Byte) : lineFeed r (l.flatMap lineBitsOfByte) = receiverFeed r l := by
  rw [lineFeed, bytesOfLine_flatMap l _ (by rw [length_flatMap_lineBits]; omega)]

/-! ### Bits on the branch bus (11 R192) -/

@[simp] theorem length_bitsOfNat (w n : Nat) : (bitsOfNat w n).length = w := by simp [bitsOfNat]

/-- Bit `i` of a field laid out most significant first is bit `w - 1 - i` of its number. -/
theorem getElem?_bitsOfNat {w i : Nat} (n : Nat) (h : i < w) : (bitsOfNat w n)[i]? = some (n.testBit (w - 1 - i)) := by
  simp [bitsOfNat, h]

@[simp] theorem length_driveLineBits (w : BitVec 32) : (driveLineBits w).length = 32 := length_bitsOfNat _ _

end Sys2Proof.Machine
end

