-- ==== Sys2Proof/Laws/Resets.lean ====
section
/-! SUPPORT. What the reset operations do: the counts of the supply monitor, cold resets, and the cases that bar a warm reset. -/

namespace Sys2Proof.Machine

/-- The counts leave the hold of the reset, the recorded cause and the reset line alone. -/
theorem supplyCounts_frame (v : Nat) (r : ResetUnit) :
    (supplyCounts v r).active = r.active ∧ (supplyCounts v r).cause = r.cause ∧
    (supplyCounts v r).lineLow = r.lineLow := by
  simp only [supplyCounts]
  by_cases h : r.supplyHold = true
  · rw [if_pos h]
    by_cases h4 : (if Config.vbatHigh ≤ v then min 4 (r.highCount + 1) else 0) = 4
    · rw [if_pos h4]; exact ⟨rfl, rfl, rfl⟩
    · rw [if_neg h4]; exact ⟨rfl, rfl, rfl⟩
  · rw [if_neg h]; exact ⟨rfl, rfl, rfl⟩

theorem supplyCounts_free (v : Nat) (r : ResetUnit) (h : r.supplyHold = false) :
    supplyCounts v r = { r with lowCount := if v < 6000 then min 4 (r.lowCount + 1) else 0 } := by
  rw [supplyCounts, if_neg (by simp [h])]; rfl

theorem supplyCounts_holding_low (v : Nat) (r : ResetUnit) (h : r.supplyHold = true) (hv : v < 7000) :
    supplyCounts v r = { r with highCount := 0 } := by
  have : ¬ Config.vbatHigh ≤ v := by simp [Config.vbatHigh]; omega
  simp [supplyCounts, h, this]

theorem supplyCounts_holding_high (v : Nat) (r : ResetUnit) (h : r.supplyHold = true) (hv : 7000 ≤ v)
    (hc : r.highCount < 3) : supplyCounts v r = { r with highCount := r.highCount + 1 } := by
  have h1 : Config.vbatHigh ≤ v := hv
  have h2 : min 4 (r.highCount + 1) = r.highCount + 1 := by omega
  have h3 : ¬ r.highCount + 1 = 4 := by omega
  simp only [supplyCounts, h, if_pos h1, h2, if_neg h3, if_true]

theorem supplyCounts_holding_fourth (v : Nat) (r : ResetUnit) (h : r.supplyHold = true) (hv : 7000 ≤ v)
    (hc : r.highCount = 3) : supplyCounts v r = { r with highCount := 4, supplyHold := false, lowCount := 0 } := by
  have h1 : Config.vbatHigh ≤ v := hv
  have h2 : min 4 (r.highCount + 1) = 4 := by omega
  simp only [supplyCounts, h, if_pos h1, h2, if_true]

/-- A sample that completes no run of four low ones only counts. -/
theorem State.supplySample_counts (s : State) (v : Nat)
    (h : ¬((supplyCounts v s.rst).supplyHold = false ∧ (supplyCounts v s.rst).lowCount = 4)) :
    s.supplySample v = { s with rst := supplyCounts v s.rst } := by
  unfold State.supplySample
  rw [if_neg (by simpa using h)]; rfl

/-- The fourth low sample takes a cold reset and begins the hold. -/
theorem State.supplySample_resets (s : State) (v : Nat)
    (h : (supplyCounts v s.rst).supplyHold = false ∧ (supplyCounts v s.rst).lowCount = 4) :
    s.supplySample v = ((s.modRst (supplyCounts v)).coldReset .supplyLow).modRst ResetUnit.beginHold := by
  unfold State.supplySample
  rw [if_pos (by simpa using h)]

/-- What the read at the release gives or clears stands while a cold reset is held (10 R186, log 26). -/
theorem SettingsUnit.underReset_keeps (u : SettingsUnit) :
    (SettingsUnit.underReset u).image = u.image ∧ (SettingsUnit.underReset u).locked = u.locked ∧
    (SettingsUnit.underReset u).storeInvalid = u.storeInvalid ∧ (SettingsUnit.underReset u).storeFail = u.storeFail ∧
    (SettingsUnit.underReset u).configFault = u.configFault := ⟨rfl, rfl, rfl, rfl, rfl⟩

/-- No write is in flight under a cold reset, and one that was leaves the store written and not verifying (10 R186 to R188). -/
theorem SettingsUnit.underReset_store (u : SettingsUnit) : (SettingsUnit.underReset u).write = none ∧
    (SettingsUnit.underReset u).store = Store.interrupted u.store u.write.isSome := ⟨rfl, rfl⟩

theorem State.coldReset_active (s : State) (cause : ResetCause) (h : s.rst.active = true) : s.coldReset cause = s := by
  simp [State.coldReset, h]

theorem State.coldReset_running (s : State) (cause : ResetCause) (h : s.rst.active = false) :
    s.coldReset cause = State.held (SettingsUnit.underReset s.stg)
      { s.rst with active := true, cause := cause } s.freeCount s.pending := by
  simp [State.coldReset, h]

theorem atRest_iff (st : ChanState) : atRest st = true ↔ st = .absent ∨ st = .inhibited ∨ st = .idle := by
  cases st <;> simp [atRest]

/-- The cases in which RESET PART is BUSY, spelled out. -/
theorem State.resetBusy_iff (s : State) :
    s.resetBusy = true ↔ (∃ c : Chan, atRest (s.chans.get c).ctl.st = false) ∨ s.enr.st ≠ .idle ∨ s.stg.write ≠ none := by
  simp only [State.resetBusy, Bool.or_eq_true, Oct.any_iff, State.runInProgress, State.storeBusy, decide_eq_true_eq,
    Option.isSome_iff_ne_none, or_assoc, Bool.not_eq_true']

theorem State.resetBusy_eq_false (s : State) :
    s.resetBusy = false ↔ (∀ c : Chan, atRest (s.chans.get c).ctl.st = true) ∧ s.enr.st = .idle ∧ s.stg.write = none := by
  rw [← Bool.not_eq_true, State.resetBusy_iff]
  push Not
  simp

end Sys2Proof.Machine
end

