-- ==== Sys2Proof/Laws/Management.lean ====
section
/-! SUPPORT. What dispatch, the delivery of an answer, and the rows of the commands do. -/

namespace Sys2Proof.Machine

/-- The state a command finds: its COMMAND frame or side command has come to an end. -/
@[simp] theorem TrunkPort.answers_arrived (t : TrunkPort) (path : Path) : (TrunkPort.arrived t path).answers = t.answers := by
  cases path <;> rfl

theorem commandCodeOf_byte (k : CommandCode) : commandCodeOf k.byte = some k := by cases k <;> rfl

theorem codeOnPath_byte (path : Path) (k : CommandCode) (h : path = .side → k ≠ .loadBaseline) :
    codeOnPath path k.byte = some k := by
  cases path <;> cases k <;> first | rfl | exact absurd rfl (h rfl)

/-- A command that passes every check of dispatch is executed. -/
theorem State.judge_performs (s : State) (path : Path) (c : Command) (hl : path = .side → c.code ≠ .loadBaseline)
    (hb : s.stg.write = none) (hr : path = .command → s.stg.phase ≠ .run)
    (hs : s.stg.phase = .starting → c.code = .read) (ht : c.code.takenIn s.stg.phase = true) :
    s.judge path c.code.byte (some c) = s.perform c := by
  have h1 : ¬(path = .command ∧ s.phase = .run) := fun ⟨a, b⟩ => hr a b
  have h2 : ¬(s.phase = .starting ∧ c.code ≠ .read) := fun ⟨a, b⟩ => b (hs a)
  have h3 : s.storeBusy = false := by simp [State.storeBusy, hb]
  have h4 : ¬(c.code.takenIn s.phase = false) := by
    have : s.phase = s.stg.phase := rfl
    rw [this, ht]; simp
  rw [State.judge, if_neg h1, State.dispatch, codeOnPath_byte path c.code hl]
  simp only [h3, if_neg h2, if_neg h4, Bool.false_eq_true, if_false]

/-- A command not taken in the phase, short of the check of its length. -/
theorem State.judge_wrongPhase (s : State) (path : Path) (c : Command) (hl : path = .side → c.code ≠ .loadBaseline)
    (hb : s.stg.write = none) (hs : s.stg.phase ≠ .starting) (ht : c.code.takenIn s.stg.phase = false) :
    s.judge path c.code.byte (some c) = s.deny .wrongPhase := by
  have h2 : ¬(s.phase = .starting ∧ c.code ≠ .read) := fun ⟨a, _⟩ => hs a
  have h3 : s.storeBusy = false := by simp [State.storeBusy, hb]
  rw [State.judge]
  split
  · rfl
  · rw [State.dispatch, codeOnPath_byte path c.code hl]
    simp only [h3, if_neg h2, Bool.false_eq_true, if_false]
    exact if_pos ht

/-- READ is taken in every phase. -/
theorem takenIn_read (p : Phase) : CommandCode.takenIn .read p = true := by cases p <;> rfl

/-- RESTORE POSITION and RESET PART are taken in SETUP and RUN. -/
theorem takenIn_of_ne_starting {k : CommandCode} (hk : k = .restorePosition ∨ k = .resetPart) {p : Phase}
    (h : p ≠ .starting) : k.takenIn p = true := by
  rcases hk with rfl | rfl <;> cases p <;> first | rfl | exact absurd rfl h

/-- A delivered answer that triggers no reset. -/
theorem State.deliver_command (s : State) (r : Reply) :
    s.deliver .command r false =
      { s with trk := { s.trk with
          answers := if s.trk.answers.length < 4 then s.trk.answers ++ [{ body := .response r, resets := false }]
            else s.trk.answers } } := by
  by_cases h : s.trk.answers.length < 4
  · rw [State.deliver, State.joinAnswers, if_pos (show _ < Config.answerSlots from h), if_pos h]
  · rw [State.deliver, State.joinAnswers, if_neg (show ¬ _ < Config.answerSlots from h), if_neg h]; rfl

theorem State.deliver_side (s : State) (r : Reply) :
    s.deliver .side r false = { s with trk := { s.trk with response := some { reply := r, next := 1 } } } := by
  simp [State.deliver]

theorem chanOf_of_val {b : Byte} {c : Chan} (h : b.toNat = c.val) : chanOf b = some c := by
  have : b.toNat < 8 := h ▸ c.isLt
  simp only [chanOf, this, dif_pos]
  congr 1
  exact Fin.ext h

theorem chanOf_none {b : Byte} (h : 7 < b.toNat) : chanOf b = none := by
  simp only [chanOf, dif_neg (show ¬ b.toNat < 8 by omega)]

theorem State.onChannel_of_val {s : State} {b : Byte} {c : Chan} (h : b.toNat = c.val) (f : Chan → Answered) :
    s.onChannel b f = f c := by simp [State.onChannel, chanOf_of_val h]

theorem State.onChannel_none {s : State} {b : Byte} (h : 7 < b.toNat) (f : Chan → Answered) :
    s.onChannel b f = s.deny .badArgument := by simp [State.onChannel, chanOf_none h]

theorem nodeOf_of_val (a : Node) : nodeOf (a.val + 1) = some a := by
  have : 1 ≤ a.val + 1 ∧ a.val + 1 ≤ 8 := by omega
  simp [nodeOf, this]

theorem nodeOf_none {n : Nat} (h : n = 0 ∨ 8 < n) : nodeOf n = none := by
  simp only [nodeOf, dif_neg (show ¬(1 ≤ n ∧ n ≤ 8) by omega)]

theorem binOf_of_val {n : Nat} {b : Fin 64} (h : n = b.val) : binOf n = some b := by
  subst h; simp [binOf]

theorem binOf_none {n : Nat} (h : 63 < n) : binOf n = none := by
  simp only [binOf, dif_neg (show ¬ n < 64 by omega)]

/-- The ids between and above the two tables name no setting. -/
theorem settings_ofId_none {id : Nat} (h : (24 ≤ id ∧ id < 32) ∨ 0x3E < id) :
    ChanSetting.ofId id = none ∧ GlobSetting.ofId id = none := by
  constructor
  · exact List.getElem?_eq_none (by simp only [ChanSetting.all, List.length_cons, List.length_nil]; omega)
  · unfold GlobSetting.ofId
    split
    · rfl
    · exact List.getElem?_eq_none (by simp only [GlobSetting.all, List.length_cons, List.length_nil]; omega)

theorem chanSetting_ofId_ge {id : Nat} (h : 32 ≤ id) : ChanSetting.ofId id = none :=
  List.getElem?_eq_none (by simp only [ChanSetting.all, List.length_cons, List.length_nil]; omega)

theorem globSetting_ofId_ge {id : Nat} (h : 32 ≤ id) : GlobSetting.ofId id = GlobSetting.all[id - 32]? := by
  rw [GlobSetting.ofId, if_neg (by omega)]

end Sys2Proof.Machine
end

