-- ==== Sys2Proof/Tests/Slice0.lean ====
section
/-! SUPPORT. Tests: ill-formed commands, one step of each command on a small state, the worked cases of the spec, and for
each statement with hypotheses a concrete state that meets them all. -/

namespace Sys2Proof.Tests

set_option Elab.async false

open Sys2Proof Sys2Proof.Machine Sys2Proof.Claim

/-! ### Small states -/

/-- The state a command leads to; the state itself where it stops. -/
def after (i : Instr) (s : State) : State :=
  match exec i s with
  | .next t => t
  | .fault _ => s
  | .refused _ => s

/-- A record of an enrolled node. -/
def node : NodeRecord := { cls := 3, tag := 7, rated := 100, st := .enrolled, mark := false }

/-- The part after an enrollment run that found one node, at address 1, in a phase: channel 0 is IDLE and unreferenced. -/
def idleIn (phase : Phase) : State :=
  { State.reset with
    chans := State.reset.chans.set 0
      { State.reset.chans.a0 with ctl := { State.reset.chans.a0.ctl with st := .idle, base := some 100 } }
    enr := { State.reset.enr with st := .idle, settle := none, table := State.reset.enr.table.set 0 (some node) }
    br := { State.reset.br with nodes := State.reset.br.nodes.set 0 { NodeContext.cold with grade := 7, worst := 7 } }
    stg := { State.reset.stg with phase := phase } }

/-- The same part in SETUP. -/
def setup : State := idleIn .setup

/-- The same part in RUN. -/
def run : State := idleIn .run

/-- Channel 0 of a state changed. -/
def with0 (s : State) (f : ChannelUnit → ChannelUnit) : State := withUnit s 0 f

/-- Channel 0 referenced at a position. -/
def atPos (s : State) (p : Int) : State := with0 s fun u => { u with ctl := { u.ctl with referenced := true, pos := p } }

/-- Channel 0 in motion with these items, holding its slot. -/
def moving (s : State) (m : Motion) : State :=
  { with0 s (fun u => { u with ctl := { u.ctl with
      st := match m.dir with
        | .toOpen => .opening
        | .toClosed => .closing
      motion := some m
      hold := if m.origin = .held then some 80 else none } }) with
    arb := { s.arb with slots := s.arb.slots.set 0 true } }

/-- Channel 0 carrying out a reversal to 312, holding its slot. -/
def reversing (s : State) : State :=
  { with0 s (fun u => { u with
      ctl := { u.ctl with st := .reversing }, rev := { target := some 312, level := 1, window := some 5 } }) with
    arb := { s.arb with slots := s.arb.slots.set 0 true } }

/-- Channel 0 WAITING with an entry of these items. -/
def waiting (s : State) (m : Motion) : State :=
  { with0 s (fun u => { u with ctl := { u.ctl with
      st := .waiting, hold := if m.origin = .held then some 80 else none } }) with
    arb := { s.arb with queue := [{ channel := 0, motion := m, join := 0, expiry := 6000 }] } }

/-- The state at an instant. -/
def atTick (s : State) (n : Nat) : State := { s with now := n }

/-- The node of address 1 with other items. -/
def node1 (s : State) (f : NodeContext → NodeContext) : State :=
  { s with br := { s.br with nodes := s.br.nodes.set 0 (f (s.br.nodes.get 0)) } }

/-- The enrollment unit changed. -/
def enroll (s : State) (f : EnrollmentUnit → EnrollmentUnit) : State := { s with enr := f s.enr }

/-- A held USER close. -/
def heldClose : Motion := { dir := .toClosed, origin := .held, cls := .user, target := none }

/-- A latched RAIN close. -/
def rainClose : Motion := { dir := .toClosed, origin := .latched, cls := .rain, target := none }

/-- A latched USER close to 500. -/
def presetClose : Motion := { dir := .toClosed, origin := .latched, cls := .user, target := some 500 }

/-- A held USER open. -/
def heldOpen : Motion := { dir := .toOpen, origin := .held, cls := .user, target := none }

/-- A CYCLE payload with no side field: channel 0's order byte, all other orders NONE. -/
def cycle (order : Byte) : CyclePayload :=
  { speed := 30, temp := 65, rough := 2, flags := 0, orders := (Oct.const 0).set 0 order, marker := 0, fragment := 0,
    zero := 0 }

/-- A CYCLE payload with a side field and no order. -/
def sideCycle (marker : Byte) (fragment : BitVec 16) : CyclePayload :=
  { cycle 0 with marker := marker, fragment := fragment }

/-- A sample with no flag set. -/
def sample (counter current : BitVec 12) (volt : BitVec 8) (atEnd : Bool) : Sample :=
  { counter := counter, current := current, volt := volt, atEnd := atEnd, hallFault := false, overtemp := false,
    freshStart := false, keep := 1 }

/-- The reply slot that carries a sample. -/
def slot (m : Sample) : SlotContent := .frame (Sample.bits m)

/-- An identity reply. -/
def identity : SlotContent := .frame (Identity.bits { cls := 3, tag := 7, rated := 100 })

/-- A state with these answers standing. -/
def answering (s : State) (answers : List Answer) : State := { s with trk := { s.trk with answers := answers } }

/-- A REPORT whose sending has not begun. -/
def report : Answer := { body := .report { marker := 0, fragment := 0 } none, resets := false }

/-- A RESPONSE to RESET PART. -/
def resetResponse : Answer := { body := .response (ok 3 0), resets := true }

/-- A part with a cold reset held that nothing else holds. -/
def heldReset : State := { State.reset with rst := { State.reset.rst with active := true } }

/-! ### Ill-formed commands: a number that is no 16-bit value, and a list longer than its places -/

theorem test_ill_chanSetting : (Instr.storageFault (.chanSetting 0 .travel 65536)).wellFormed = false ∧
    (Instr.storageFault (.chanSetting 0 .travel (-1))).wellFormed = false := by decide +kernel
theorem test_ill_globSetting : (Instr.storageFault (.globSetting .cold1Temp 32768)).wellFormed = false ∧
    (Instr.storageFault (.globSetting .cold1Temp (-32769))).wellFormed = false := by decide +kernel
theorem test_ill_zones :
    (Instr.storageFault (.zones 0 (List.replicate 7 { start := 0, stop := 1, kind := 0, adjust := 0 }))).wellFormed = false ∧
    (Instr.storageFault (.zones 0 [{ start := 32768, stop := 1, kind := 0, adjust := 0 }])).wellFormed = false := by
  decide +kernel
theorem test_ill_bins : (Instr.storageFault (.baselineBin 0 63 65536)).wellFormed = false ∧
    (Instr.storageFault (.workingBin 0 0 65536)).wellFormed = false := by decide +kernel
theorem test_ill_arbiter : (Instr.storageFault (.arbiter { SlotArbiter.cold with
    queue := List.replicate 9 { channel := 0, motion := rainClose, join := 0, expiry := 0 } })).wellFormed = false := by
  decide +kernel
theorem test_ill_trunk :
    (Instr.storageFault (.trunk { TrunkPort.cold with answers := List.replicate 5 report })).wellFormed = false ∧
    (Instr.storageFault (.trunk { TrunkPort.cold with collector := .collecting [] })).wellFormed = false := by
  decide +kernel
theorem test_ill_settings :
    (Instr.storageFault (.settings { State.reset.stg with image := { Image.factory with
      glob := { GlobSettings.factory with windOnset := 65536 } } })).wellFormed = false := by decide +kernel
/-- Values out of their ranges that the places hold: a zone whose end lies below its start, TRAVEL 63, SLOTS 9. -/
theorem test_well_formed_faults :
    (Instr.storageFault (.zones 0 [{ start := 4095, stop := -255, kind := 9, adjust := 0 }])).wellFormed = true ∧
    (Instr.storageFault (.chanSetting 0 .travel 63)).wellFormed = true ∧
    (Instr.storageFault (.globSetting .slots 9)).wellFormed = true := by decide +kernel

/-! ### One step of each command -/

theorem test_powerOn : (after .powerOn setup).rst =
    { active := true, lineLow := false, supplyHold := true, lowCount := 0, highCount := 0, cause := .powerOn } := by
  decide +kernel
theorem test_resetLine : (after (.resetLine true) setup).rst.cause = .resetLine ∧
    (after (.resetLine true) setup).enr.st = .busOff := by decide +kernel
/-- STORE_INVALID and the working settings stand until the read at the release (10 R186). -/
theorem test_resetLine_keeps_until_the_read :
    let s : State := { setup with stg := { setup.stg with storeInvalid := true, storeFail := true, configFault := true } }
    let held : State := after (.resetLine true) s
    (held.stg.storeInvalid = true ∧ held.stg.storeFail = true ∧ held.stg.configFault = true) ∧
    ((after .coldStart held).stg.storeInvalid = false ∧ (after .coldStart held).stg.storeFail = false ∧
      (after .coldStart held).stg.configFault = false) := by decide +kernel
/-- The fourth successive sample below 6.0 V resets the part (08 R165). -/
theorem test_supplySample :
    (after (.supplySample 5999) { setup with rst := { setup.rst with lowCount := 3 } }).rst.cause = .supplyLow ∧
    (after (.supplySample 6000) { setup with rst := { setup.rst with lowCount := 3 } }).rst.lowCount = 0 := by
  decide +kernel
/-- The release of a cold reset with a blank store is State.reset. -/
theorem test_coldStart : after .coldStart heldReset = State.reset := by decide +kernel
/-- 01 worked case, a held close: CLOSE_HELD on an IDLE channel joins the queue. -/
theorem test_goodCycleFrame : ((after (.goodCycleFrame (cycle 3)) setup).chans.get 0).ctl.st = .waiting ∧
    ((after (.goodCycleFrame (cycle 3)) setup).arb.queue.map Entry.motion) = [heldClose] := by decide +kernel
/-- An unheld order outside RUN is refused NOT_COMMISSIONED (01 R20 check 6). -/
theorem test_goodCycleFrame_refused :
    ((after (.goodCycleFrame (cycle 5)) setup).chans.get 0).ctl.refusal = some .notCommissioned := by decide +kernel
theorem test_frameDiscarded :
    (after (.frameDiscarded .badCrc) { setup with trk := { setup.trk with rx := .kind } }).trk.rx = .hunt := by
  decide +kernel
theorem test_interByteGap : (after (.interByteGap 0xA5) setup).trk.rx = .kind ∧
    (after (.interByteGap 0xA6) setup).trk.rx = .hunt := by decide +kernel
theorem test_reportAssembly :
    (after .reportAssembly (answering { setup with trk := { setup.trk with wasLost := true } } [report])).trk.wasLost =
      false := by decide +kernel
theorem test_answerSent : (after .answerSent (answering setup [resetResponse, report])).rst.cause = .resetPart ∧
    (after .answerSent (answering setup [resetResponse, report])).trk.answers = [] := by decide +kernel
/-- Channel 0 IDLE, unreferenced, at 0: state 2 in data bits 47..45. -/
theorem test_readChannelStatus : (after (.readChannelStatus .side 0) setup).trk.response =
    some { reply := ok 1 0x400000000000, next := 1 } := by decide +kernel
theorem test_readTripRecordPart1 : ((after (.readTripRecordPart1 .side 0)
    (with0 setup fun u => { u with eng := { u.eng with trip := { u.eng.trip with f := 306 } } })).chans.get 0).readCopy.f =
      306 := by decide +kernel
theorem test_readTripRecordPart2 : (after (.readTripRecordPart2 .side 0)
    (with0 setup fun u => { u with readCopy := { u.readCopy with f := 1 } })).trk.response =
      some { reply := ok 1 0x001000000000, next := 1 } := by decide +kernel
theorem test_readPeakRatio : ((after (.readPeakRatio .side 0)
    (with0 setup fun u => { u with eng := { u.eng with peak := 191 } })).chans.get 0).eng.peak = 0 := by decide +kernel
theorem test_readLinkGrade : (after (.readLinkGrade .side 0) { setup with br := { setup.br with
    nodes := setup.br.nodes.set 0 { NodeContext.cold with grade := 5, worst := 4 } } }).br.nodes.a0.worst = 5 := by
  decide +kernel
theorem test_readNodeIdentity : (after (.readNodeIdentity .command 9) setup).trk.answers =
    [{ body := .response (denied 1 .badArgument), resets := false }] := by decide +kernel
/-- The factory TRAVEL 1024 in 12 bits. -/
theorem test_readSettingValue : (after (.readSettingValue .side 0 3) setup).trk.response =
    some { reply := ok 1 0x400000000000, next := 1 } := by decide +kernel
theorem test_readBaselineBin : (after (.readBaselineBin .side 0 64) setup).trk.response =
    some { reply := denied 1 .badArgument, next := 1 } := by decide +kernel
theorem test_readWorkingBin : (after (.readWorkingBin .side 0 63) setup).trk.response =
    some { reply := ok 1 0, next := 1 } := by decide +kernel
theorem test_readZoneRecord : (after (.readZoneRecord .side 0 6) setup).trk.response =
    some { reply := denied 1 .badArgument, next := 1 } := by decide +kernel
theorem test_readRefusalReason : (after (.readRefusalReason .side 0)
    (with0 setup fun u => { u with ctl := { u.ctl with refusal := some .degraded } })).trk.response =
      some { reply := ok 1 0xA00000000000, next := 1 } := by decide +kernel
theorem test_readTeachResult : (after (.readTeachResult .side 0)
    (with0 setup fun u => { u with prof := { u.prof with teach := .failed .short, teachVisited := 7 } })).trk.response =
      some { reply := ok 1 0xF43800000000, next := 1 } := by decide +kernel
/-- SETUP, no condition, one node, cause POWER_ON. -/
theorem test_readPartStatus : (after (.readPartStatus .command) setup).trk.answers =
    [{ body := .response (ok 1 0x400800000000), resets := false }] := by decide +kernel
theorem test_readCheckValue : (after (.readCheckValue .side)
    { setup with stg := { setup.stg with locked := some 0xFFFF, scanPos := 1 } }).trk.response =
      some { reply := ok 1 0xFFFF80000100, next := 1 } := by decide +kernel
/-- A position above TRAVEL is clamped to it (01 R28). -/
theorem test_restorePosition : ((after (.restorePosition .side 0 2000) setup).chans.get 0).ctl.pos = 1024 ∧
    ((after (.restorePosition .side 0 2000) setup).chans.get 0).ctl.referenced = true := by decide +kernel
theorem test_resetPart : (after (.resetPart .command) setup).trk.answers = [resetResponse] ∧
    (after (.resetPart .command) (waiting setup heldClose)).trk.answers =
      [{ body := .response (denied 3 .busy), resets := false }] := by decide +kernel
theorem test_reopen : (after (.reopen .side) { run with ctx := { run.ctx with fresh := true } }).stg.write =
    some .reopen := by decide +kernel
/-- KIND 5 is stored as ROOF (10 R185). -/
theorem test_writeSetting : (after (.writeSetting .side 0 0 5) setup).stg.image.chan.a0.kind = 2 := by decide +kernel
/-- A NODE_ADDR of 0 unbinds the channel (01 R4). -/
theorem test_writeSetting_unbinds : ((after (.writeSetting .side 0 2 0) setup).chans.get 0).ctl.st = .absent := by
  decide +kernel
theorem test_loadBaseline : ((after (.loadBaseline .command 0 56 (Oct.const 0x1FFF)) setup).chans.get 0).prof.working.get 63 =
    4095 := by decide +kernel
theorem test_setZone : (after (.setZone .side 0 5 9 500 1 0x80) setup).stg.image.zones.a0 =
    [{ start := -255, stop := 8, kind := 2, adjust := 0 }, { start := 9, stop := 500, kind := 1, adjust := -128 }] := by decide +kernel
theorem test_clearZones : (after (.clearZones .side 0) setup).stg.image.zones.a0 = [] := by decide +kernel
/-- TEACH needs p at or above L - floor(L / 16): 960 of 1024 (03 R79). -/
theorem test_teach : ((after (.teach .side 0) (atPos setup 960)).chans.get 0).prof.teach = .running ∧
    ((after (.teach .side 0) (atPos setup 959)).chans.get 0).prof.teach = .none := by decide +kernel
/-- The factory defaults fail LOCK-IN check 6 on channel 0: every bin is 0. -/
theorem test_lockIn : (after (.lockIn .side) setup).trk.response =
    some { reply := { code := 10, status := .checkFailed, data := 0x060000000000 }, next := 1 } := by decide +kernel
theorem test_enroll : (after (.enroll .side) setup).enr.st = .busOff ∧
    ((after (.enroll .side) setup).chans.get 0).ctl.st = .absent := by decide +kernel
/-- Step 1 empties the causes and fails the teach of a channel that a storage fault has made ABSENT too (08 R171). -/
theorem test_enroll_absent :
    let s : State := after (.enroll .side) (with0 setup fun u => { u with
      ctl := { u.ctl with st := .absent, causes := { noCauses with undervolt := true } }
      prof := { u.prof with teach := .running } })
    (s.chans.get 0).ctl.causes = noCauses ∧ (s.chans.get 0).prof.teach = .failed .inhibited := by decide +kernel
/-- A CLOSING channel that a storage fault has left without a motion record leaves CLOSING by an order, and by the grant of an
entry of its own, with the stroke closed: A and the marks at rest (02 R32). -/
theorem test_stroke_closes_whatever_the_cause :
    let s : State := with0 (moving (atPos run 500) rainClose) fun u => { u with
      ctl := { u.ctl with motion := none }, eng := { u.eng with acc := 40, first := true, blank := 7 } }
    let ordered : State := after (.goodCycleFrame (cycle 5)) s
    let granted : State := after .branchCycleStart (atTick { s with arb := { SlotArbiter.cold with
      queue := [{ channel := 0, motion := heldOpen, join := 0, expiry := 6000 }], stagger := 4 } } 4)
    ((ordered.chans.get 0).ctl.st = .waiting ∧ (ordered.chans.get 0).eng.acc = 0 ∧ (ordered.chans.get 0).eng.first = false ∧
      (ordered.chans.get 0).eng.blank = 0 ∧ ordered.arb.slots.get 0 = false) ∧
    ((granted.chans.get 0).ctl.st = .opening ∧ (granted.chans.get 0).eng.acc = 0 ∧
      (granted.chans.get 0).eng.first = false ∧ (granted.chans.get 0).eng.blank = 0) := by decide +kernel
theorem test_lockInStoreWriteComplete : (after (.lockInStoreWriteComplete true)
    { setup with stg := { setup.stg with write := some (.lockIn Image.factory 0x1234) } }).stg.phase = .run := by
  decide +kernel
theorem test_reopenStoreWriteComplete : (after (.reopenStoreWriteComplete false)
    { run with stg := { run.stg with write := some .reopen } }).stg.storeFail = true := by decide +kernel
/-- The check step comes when its timer has been reached, and not before (log 1). -/
theorem test_checkStep :
    (after .checkStep (atTick { run with stg := { run.stg with checkTimer := some 5 } } 5)).stg.scanPos = 1 ∧
    (after .checkStep (atTick { run with stg := { run.stg with checkTimer := some 5 } } 4)).stg.scanPos = 0 := by
  decide +kernel
theorem test_storageFault : ((after (.storageFault (.workingBin 7 63 4095)) setup).chans.get 7).prof.working.get 63 = 4095 :=
  by decide +kernel
theorem test_holdTimerExpiry : ((after (.holdTimerExpiry 0) (atTick (moving run heldClose) 80)).chans.get 0).ctl.st = .idle ∧
    (after (.holdTimerExpiry 0) (atTick (moving run heldClose) 80)).arb.slots.get 0 = false := by decide +kernel
theorem test_queueTimeout :
    ((after (.queueTimeout 0) (atTick (waiting run rainClose) 6000)).chans.get 0).ctl.latched.startTimeout = true := by
  decide +kernel
/-- An entry that a storage fault has left to an IDLE channel leaves alone at its expiry, and at trunk loss (06 R137, R139). -/
theorem test_stray_entry :
    let stray : State := { run with arb := { run.arb with
      queue := [{ channel := 0, motion := rainClose, join := 0, expiry := 9 }], slots := run.arb.slots.set 3 true } }
    after (.queueTimeout 0) (atTick stray 9) = atTick { run with arb := { stray.arb with queue := [] } } 9 ∧
    (after .trunkLoss (atTick { stray with trk := { stray.trk with lossTimer := some 5 } } 5)).arb.queue = [] ∧
    (after (.enroll .side) { stray with stg := setup.stg }).arb = { run.arb with queue := [] } := by decide +kernel
theorem test_trunkLoss : ((after .trunkLoss (atTick { waiting run rainClose with
    trk := { run.trk with lossTimer := some 5 } } 5)).chans.get 0).ctl.st = .idle := by decide +kernel
/-- The expiry clears e; one that a trip has overtaken does nothing (04 R106). -/
theorem test_escalationWindowExpiry :
    ((after (.escalationWindowExpiry 0) (atTick (reversing run) 5)).chans.get 0).rev.level = 0 ∧
    ((after (.escalationWindowExpiry 0) (atTick (reversing run) 4)).chans.get 0).rev.level = 1 := by decide +kernel
/-- A grant into CLOSING: CLOSE for address 1, assign 0 (11 R192). -/
theorem test_branchCycleStart : ((after .branchCycleStart (atTick { waiting run rainClose with
    arb := { (waiting run rainClose).arb with stagger := 4 } } 4)).br.driveWord.map fun w => w.extractLsb' 8 24) =
      some 0x800000 := by decide +kernel
theorem test_nodeSettleExpiry : (after .nodeSettleExpiry (atTick State.reset 40)).enr.settle = none := by decide +kernel
theorem test_busOffExpiry : (after .busOffExpiry (atTick (after (.enroll .side) setup) 40)).br.busPower = true := by
  decide +kernel
theorem test_rejoinAttempt : (after .rejoinAttempt
    { run with enr := { run.enr with schedule := run.enr.schedule.set 3 true } }).enr.slot0 = .rejoin 3 := by
  decide +kernel
/-- The sample of slot 1 moves the position; after slot 2 slot 1 does not come again, and was SILENT (07 R143, log 32). -/
theorem test_replySlotEnd :
    ((after (.replySlotEnd 0 (slot (sample 103 0 125 false))) (atPlace setup 0)).chans.get 0).ctl.pos = 3 ∧
    ((after (.replySlotEnd 0 (slot (sample 103 0 125 false))) (after (.replySlotEnd 1 .silent) (atPlace setup 0))).br.nodes.get
      0).badRun = 1 := by decide +kernel
theorem test_slot0End : (after (.slot0End identity) (atPlace (enroll State.reset fun e =>
    { e with st := .offering, slot0 := .offer }) 8)).enr.table.a0 = some node := by decide +kernel
/-- A rejoin judges binding again: channel 0, whose NODE_ADDR a storage fault has put at 2, an address with no record, is
unbound by it, and channel 1, put at 1, bound (01 R4). -/
theorem test_slot0End_rebinds :
    let s : State := after (.slot0End identity) (after (.storageFault (.chanSetting 0 .nodeAddr 2))
      (after (.storageFault (.chanSetting 1 .nodeAddr 1)) (atPlace (enroll setup fun e =>
        { e with slot0 := .rejoin 0, table := e.table.set 0 (some { node with st := .lost }) }) 8)))
    (s.chans.get 0).ctl.st = .absent ∧ (s.chans.get 1).ctl.st = .idle := by decide +kernel
theorem test_goodCommandFrame : (after (.goodCommandFrame (shortFrame 0x0C 0)) setup).trk.answers =
    [{ body := .response (denied 0x0C .unknownCommand), resets := false }] := by decide +kernel

/-! ### Worked cases of the spec -/

/-- The CRC-16 of 09 R173: generator x^16 + x^12 + x^5 + 1, initial value FFFFh, on the bytes of "123456789". -/
theorem test_crc16 : crc16 [0x31, 0x32, 0x33, 0x34, 0x35, 0x36, 0x37, 0x38, 0x39] = 0x29B1 := by decide +kernel
/-- 11 R190: A5h and 01h go on the line with their least significant bits first. -/
theorem test_lineBits : lineBitsOfByte 0xA5 = [true, false, true, false, false, true, false, true] ∧
    lineBitsOfByte 0x01 = [true, false, false, false, false, false, false, false] := by decide +kernel
/-- 11 R192: address 1 in bits 31 and 30, the first on the line; the assign field's last bit is the 24th. -/
theorem test_driveLineBits : (driveLineBits (driveWordOf ((Oct.const .hold).set 0 .closes) 1)).take 24 =
    [true, false] ++ List.replicate 21 false ++ [true] := by decide +kernel
/-- 02 R35, the table of bins. -/
theorem test_bins : (binOfPos (-40) 1024).val = 0 ∧ (binOfPos 15 1024).val = 0 ∧ (binOfPos 16 1024).val = 1 ∧
    (binOfPos 300 1024).val = 18 ∧ (binOfPos 1023 1024).val = 63 ∧ (binOfPos 1 100).val = 0 ∧
    (binOfPos 99 100).val = 63 ∧ (binOfPos 63 4032).val = 1 := by decide +kernel
/-- 02 worked cases: the filter step at its edges. -/
theorem test_filter : filterStep false 4903 300 = 4877 ∧ filterStep false 4697 300 = 4722 ∧
    filterStep false 4798 300 = 4798 ∧ filterStep false 5 0 = 3 ∧ filterStep false 1 0 = 0 ∧
    filterStep false 65516 4095 = 65517 ∧ filterStep true 9 620 = 9920 := by decide +kernel
/-- 02 worked case: the accumulator at its bounds. -/
theorem test_accumulator :
    accStep (ChanSettings.factory 0) 4090 65392 = 4095 ∧ accStep (ChanSettings.factory 0) 3 0 = 0 ∧
    accStep (ChanSettings.factory 0) 20 (-81888) = 16 ∧ accStep (ChanSettings.factory 0) 20 15 = 20 ∧
    accStep { ChanSettings.factory 0 with decay := 0 } 20 (-1) = 20 := by decide +kernel
/-- 02 worked case: the peak ratio of the two samples before an ACCUM trip. -/
theorem test_peak : peakCandidate (ChanSettings.factory 0) 36 = 191 ∧ peakCandidate (ChanSettings.factory 0) 57 = 255 := by
  decide +kernel
/-- 02 worked cases: the wind term at its onset, and at its largest. -/
theorem test_wind :
    windTerm { ChanSettings.factory 0 with kind := 2, windFactor := 3 } GlobSettings.factory
      { ContextUnit.stale with speed := 110 } = 75 ∧
    windTerm { ChanSettings.factory 0 with kind := 2, windFactor := 3 } GlobSettings.factory
      { ContextUnit.stale with speed := 40 } = 1 ∧
    windTerm { ChanSettings.factory 0 with kind := 2, windFactor := 15 } { GlobSettings.factory with windOnset := 0 }
      { ContextUnit.stale with speed := 255 } = 3810 := by decide +kernel
/-- 03 worked case: a learning update with B = 220. -/
theorem test_learning : learnBin (ChanSettings.factory 0) 220 228 (some 236) = 229 ∧
    learnBin (ChanSettings.factory 0) 220 228 (some 231) = 229 ∧ learnBin (ChanSettings.factory 0) 220 228 (some 140) = 217 ∧
    learnBin (ChanSettings.factory 0) 220 185 (some 100) = 180 ∧ learnBin (ChanSettings.factory 0) 220 228 (some 226) = 227 ∧
    learnBin (ChanSettings.factory 0) 220 228 none = 228 := by decide +kernel
/-- 04 R90, the table of reversal targets. -/
theorem test_targets : reversalTarget (ChanSettings.factory 0) 300 = 500 ∧ reversalTarget (ChanSettings.factory 0) 900 = 1024 ∧
    reversalTarget (ChanSettings.factory 0) (-20) = 180 ∧ reversalTarget (ChanSettings.factory 0) 1100 = 1024 := by
  decide +kernel
/-- 01 worked case: the delta across a counter wrap, and the implausible one. -/
theorem test_delta : counterDelta 4090 5 = -11 ∧ counterDelta 4083 4090 = -7 ∧ counterDelta 4040 4090 = -50 ∧
    implausible (ChanSettings.factory 1) (-50) 1 = true ∧ implausible (ChanSettings.factory 1) (-11) 2 = false := by
  decide +kernel
/-- 05 R109, the table of temperatures. -/
theorem test_temperature : tempOfByte 0 = -40 ∧ tempOfByte 65 = 25 ∧ tempOfByte 127 = 87 ∧ tempOfByte 255 = 87 := by
  decide +kernel
/-- 07 worked case: a link grade over ten windows. -/
theorem test_grades : nextGrade GlobSettings.factory 7 4 = 4 ∧ nextGrade GlobSettings.factory 4 2 = 5 ∧
    nextGrade GlobSettings.factory 5 3 = 5 ∧ nextGrade GlobSettings.factory 5 0 = 6 ∧ nextGrade GlobSettings.factory 6 0 = 6 ∧
    nextGrade GlobSettings.factory 6 13 = 2 ∧ nextGrade GlobSettings.factory 2 10 = 3 ∧ nextGrade GlobSettings.factory 3 6 = 3 ∧
    nextGrade GlobSettings.factory 3 5 = 4 ∧ nextGrade GlobSettings.factory 4 51 = 0 := by decide +kernel
/-- 06 worked case: the fourth low sample sets UNDERVOLT, the fourth high one clears it. -/
theorem test_undervolt :
    (voltageStage GlobSettings.factory 79
      { undervolt := false, lowRun := 3, highRun := 0, mask := 6, prev := some 77, strokeMask := 5 }) =
      { undervolt := true, lowRun := 4, highRun := 0, mask := 6, prev := some 79, strokeMask := 5 } ∧
    (voltageStage GlobSettings.factory 101
      { undervolt := true, lowRun := 0, highRun := 3, mask := 6, prev := some 99, strokeMask := 5 }) =
      { undervolt := false, lowRun := 0, highRun := 4, mask := 5, prev := some 101, strokeMask := 5 } := by decide +kernel
/-- 02 worked case: an ACCUM trip on channel 0, its second sample; the trip record as the spec lists it. -/
theorem test_accum_trip :
    ((State.accumulate
      (with0 (atPos { run with
          ctx := { ContextUnit.stale with rough := 6, temp := -5, fresh := true }
          arb := { run.arb with slots := { a0 := true, a1 := true, a2 := true, a3 := true, a4 := true, a5 := false, a6 := false, a7 := false } }
          stg := { run.stg with image := { run.stg.image with
            chan := run.stg.image.chan.set 0 { ChanSettings.factory 0 with marginBase := 30, cold1Margin := 12 }
            zones := run.stg.image.zones
            baseline := run.stg.image.baseline.set 0 (Bins.const 220) } } } 300)
        fun u => { u with ctl := { u.ctl with st := .closing }
                          eng := { u.eng with f16 := 4903, acc := 36 }
                          prof := { u.prof with working := Bins.const 228 } }) 0).1.chans.get 0).eng.trip =
      { cause := some .accum, pos := 300, bin := 18, f := 306, r := 228, t := 57, a := 57, level := 1, speed := 0,
        stamp := 0 } := by decide +kernel
/-- 09 worked case: a side READ, interrupted: frame 4 takes the third fragment, frame 8's marker drops the response. -/
theorem test_side_read :
    (after (.goodCycleFrame (sideCycle 3 0)) { run with trk := { run.trk with
      collector := .collecting [0x0105, 0x0300] } }).trk.collector = .collecting [0x0105, 0x0300, 0] ∧
    (after (.goodCycleFrame (sideCycle 3 0)) { run with trk := { run.trk with
      response := some { reply := ok 1 0, next := 3 } } }).trk.sideAbort = true := by decide +kernel
/-- The READ of the link grade of channel 3 as its side fragments (09 R180, 11 R191). -/
theorem test_side_fragments : commandOfBytes (bytesOfFragments 0x0105 0x0300 0 0) = some (.read 5 3 0) := by
  decide +kernel

/-! ### For each statement with hypotheses, a state and operands that meet them -/

theorem dispatched_setup (path : Path) : dispatched path setup := ⟨rfl, rfl, fun _ => by decide +kernel⟩
theorem dispatched_run : dispatched .side run := ⟨rfl, rfl, fun h => (by cases h)⟩

theorem test_meets_StepRunsFrontCommand :
    ({ setup with pending := [.checkStep, .powerOn] } : State).pending = .checkStep :: [.powerOn] := rfl
/-- A tick that lets nothing, and one that lets the branch cycle timer, fall due. -/
theorem test_meets_EmptyQueuePassesOneTick : State.reset.pending = [] ∧ State.reset.rst.active = false ∧
    (∃ t, ({ State.reset with now := 3 } : State).br.timer = some t ∧ t ≤ 3 + 1) := ⟨rfl, rfl, 4, rfl, by decide⟩
theorem test_meets_WellFormedCommandsComplete : Instr.wellFormed .checkStep = true ∧
    Instr.wellFormed (.storageFault (.workingBin 0 0 65536)) = false := by decide +kernel
theorem test_meets_ColdResetSourcesResetEveryBlock : setup.rst.active = false ∧ setup.stg.write = none ∧
    (5999 < 6000 ∧ setup.rst.supplyHold = false ∧ ({ setup.rst with lowCount := 3 } : ResetUnit).lowCount = 3) ∧
    ({ setup.stg with write := some StoreWrite.reopen } : SettingsUnit).write ≠ none := by decide +kernel
/-- A reset held; and each clause of the samples at the ends of its range: 6000 and 5999 mV, low counts 0 and 2; 6999 and 7000
mV, high counts 2 and 3. -/
theorem test_meets_HeldResetIsLengthenedAndSamplesAreCounted : heldReset.rst.active = true ∧ Instr.checkStep ≠ .powerOn ∧
    (∀ low, Instr.checkStep ≠ .resetLine low) ∧ Instr.checkStep ≠ .coldStart ∧ (∀ v, Instr.checkStep ≠ .supplySample v) ∧
    (∀ p, Instr.checkStep ≠ .storageFault p) ∧ setup.rst.supplyHold = false ∧ 6000 ≤ 6000 ∧ 5999 < 6000 ∧
    setup.rst.lowCount < 3 ∧ ({ setup.rst with lowCount := 2 } : ResetUnit).lowCount < 3 ∧
    (after .powerOn setup).rst.supplyHold = true ∧ 6999 < 7000 ∧ (after .powerOn setup).rst.highCount < 3 ∧
    ({ (after .powerOn setup).rst with highCount := 3 } : ResetUnit).supplyHold = true :=
  ⟨by decide +kernel, by decide, fun _ h => (by cases h), by decide, fun _ h => (by cases h), fun _ h => (by cases h),
   by decide +kernel⟩
theorem test_meets_ColdStartBringsThePartUp : heldReset.rst.active = true ∧ heldReset.rst.supplyHold = false := by
  decide +kernel
/-- The four cases of the store read: blank, failing to verify, verifying without the mark, verifying with it. -/
theorem test_meets_storeRead : (readStore { State.reset.stg with store := Store.blank }).chosen = .setup ∧
    (readStore { State.reset.stg with store := { Store.blank with written := true, torn := true } }).storeInvalid = true := by
  decide +kernel
/-- The store is blank and its factory defaults name the addresses that stand, so the binding stands as it was. -/
theorem test_meets_WarmResetTakesItsValues : (answering setup [resetResponse]).rst.active = false ∧
    (answering setup [resetResponse]).trk.answers = resetResponse :: [] ∧ resetResponse.resets = true ∧
    (∀ side, resetResponse.body ≠ .report side none) ∧
    (∀ c : Chan, ((answering setup [resetResponse]).chans.get c).ctl.st = .absent ∨
      ((answering setup [resetResponse]).chans.get c).ctl.st = .inhibited ∨
      ((answering setup [resetResponse]).chans.get c).ctl.st = .idle) ∧
    (answering setup [resetResponse]).enr.st = .idle ∧ (answering setup [resetResponse]).stg.write = none ∧
    bindingStands (answering setup [resetResponse]) ∧
    (∀ d : Chan, ((after .answerSent (answering setup [resetResponse])).stg.image.chan.get d).nodeAddr =
      (setup.stg.image.chan.get d).nodeAddr) :=
  ⟨rfl, rfl, rfl, fun _ h => (by cases h), by decide +kernel, rfl, rfl, by unfold bindingStands bound; decide +kernel,
   by decide +kernel⟩
/-- A REPORT to assemble; an answer that triggers no reset, and each case that bars one. -/
theorem test_meets_AnswersAreAssembledAndSent : (answering setup [report]).rst.active = false ∧
    (answering setup [report]).trk.answers = { body := .report { marker := 0, fragment := 0 } none, resets := false } :: [] ∧
    (answering setup [resetResponse, report]).trk.answers = resetResponse :: [report] ∧
    (∀ side, resetResponse.body ≠ .report side none) ∧
    ({ resetResponse with resets := false } : Answer).resets = false ∧ State.reset.enr.st ≠ .idle ∧
    ({ setup.stg with write := some StoreWrite.reopen } : SettingsUnit).write ≠ none ∧
    ((waiting setup heldClose).chans.get 0).ctl.st = .waiting :=
  ⟨rfl, rfl, rfl, fun _ h => (by cases h), by decide +kernel⟩
theorem test_meets_CycleFrameIsTakenInEveryPhase : setup.rst.active = false ∧ setup.trk.resetArmed = false ∧
    (cycle 3).marker ≠ 4 ∧ ((sideCycle 4 0).marker = 4 ∧ setup.trk.collector = .idle) ∧ setup.trk.answers.length < 4 ∧
    4 ≤ (answering setup [report, report, report, report]).trk.answers.length := by decide +kernel
/-- The rows of the side field tables: markers 0 to 5 and 255, collector and response as each clause wants them, a list with
room and a full one, and a frame that completes no command. -/
theorem test_meets_SideFieldFollowsItsTable : setup.rst.active = false ∧ setup.trk.resetArmed = false ∧
    (sideCycle 3 0).marker ≠ 4 ∧ (answering setup [report, report, report]).trk.answers.length < 4 ∧
    4 ≤ (answering setup [report, report, report, report]).trk.answers.length ∧ (sideCycle 0 0).marker = 0 ∧
    setup.trk.collector = .idle ∧ Collector.collecting [1] ≠ .idle ∧ (1 ≤ 1 ∧ 1 ≤ 4 ∧ 1 ≤ 4 ∧ 4 ≤ 4) ∧
    setup.trk.response = none ∧ (sideCycle 1 0).marker = 1 ∧
    (((sideCycle 2 0).marker = 2 ∧ [(1 : BitVec 16)].length = 1) ∧
      ((sideCycle 3 0).marker = 3 ∧ [(1 : BitVec 16), 2].length = 2)) ∧
    (2 ≤ (sideCycle 2 0).marker.toNat ∧ 4 < (sideCycle 5 0).marker.toNat ∧ 4 < (sideCycle 255 0).marker.toNat) ∧
    [(1 : BitVec 16)].length + 1 ≠ (sideCycle 3 0).marker.toNat := by decide +kernel
/-- Three answers in the list, and four; the bytes of a READ of the link grade of channel 3, of RESET PART, of code 0Ch and of READ item 0Fh,
with a store write in flight and without. -/
theorem test_meets_CompletedSideCommandDoesItsRow :
    let s : State := { setup with trk := { setup.trk with
      collector := .collecting [0x0105, 0x0300, 0], answers := [report, report, report] } }
    let bytes : Byte → Byte → Oct Byte := fun code first =>
      { a0 := code, a1 := first, a2 := 3, a3 := 0, a4 := 0, a5 := 0, a6 := 0, a7 := 0 }
    s.rst.active = false ∧ s.trk.resetArmed = false ∧ s.trk.collector = .collecting [0x0105, 0x0300, 0] ∧
    s.trk.response = none ∧ (sideCycle 4 0).marker = 4 ∧ s.trk.answers.length < 4 ∧
    sideRow (bytes 1 5) = some (.readLinkGrade .side 3) ∧ sideRow (bytes 3 0) = some (.resetPart .side) ∧
    sideRow (bytes 12 0) = none ∧ sideRow (bytes 1 15) = none ∧ s.stg.write = none ∧
    4 ≤ (answering s [report, report, report, report]).trk.answers.length ∧
    ({ s.stg with write := some StoreWrite.reopen } : SettingsUnit).write ≠ none := by decide +kernel
theorem test_meets_DiscardedFrameReachesNoOtherBlock : setup.rst.active = false := rfl
/-- Codes 0, 1, 11 and 12; a wrong length for READ and for LOAD BASELINE; each phase; a write in flight; side rows of codes 1, 4, 5
and 11, and no code 6. -/
theorem test_meets_CommandFramesAreCheckedInOrder : run.rst.active = false ∧ run.stg.phase = .run ∧
    setup.stg.phase ≠ .run ∧ ¬(1 ≤ (payloadCode (shortFrame 0 0)).toNat) ∧ ¬((payloadCode (shortFrame 12 0)).toNat ≤ 11) ∧
    (1 ≤ (payloadCode (shortFrame 1 0)).toNat ∧ (payloadCode (shortFrame 11 0)).toNat ≤ 11) ∧
    ({ setup.stg with write := some StoreWrite.reopen } : SettingsUnit).write ≠ none ∧ State.reset.stg.phase = .starting ∧
    payloadCode (shortFrame 11 0) ≠ 1 ∧ payloadCode (shortFrame 4 0) = 4 ∧ payloadCommand (shortFrame 6 0) = none ∧
    payloadCommand (.long 1 0 0 (Oct.const 0)) = none ∧ sideCode (.readCheckValue .side) = some 1 ∧
    sideCode (.reopen .side) = some 4 ∧ sideCode (.writeSetting .side 0 0 5) = some 5 ∧ sideCode (.enroll .side) = some 11 ∧
    setup.stg.write = none ∧ setup.stg.phase = .setup := by decide +kernel
theorem test_meets_CommandFramesRunTheirRows : commandFrame (.clearZones .command 0) = some (shortFrame 8 0) ∧
    (0 : Byte).toNat = (0 : Chan).val ∧ dispatched .command setup ∧ setup.stg.phase = .setup ∧
    (setup.chans.get 0).prof.teach ≠ .running :=
  ⟨by decide +kernel, rfl, dispatched_setup _, rfl, by decide +kernel⟩
/-- A held close outside RUN, an OPEN_EXPRESS below the travel; STOP, and OPEN_EXPRESS at the travel; NONE, and an express order
that the last field carried. -/
theorem test_meets_PassedOrderJoinsTheQueue :
    let repeated : State := noted (atPos run 1023) 0 (orderOfByte 4)
    ((setup.chans.get 0).ctl.st = .idle ∧ (setup.chans.get 0).prof.teach ≠ .running) ∧
    (taken setup 0 (orderOfByte 3) ∧ setup.refusalOf 0 (orderOfByte 3) = none ∧ goes setup 0 (orderOfByte 3) .toClosed ∧
      ¬staysPut setup 0 (orderOfByte 3)) ∧
    (taken (atPos run 1023) 0 (orderOfByte 4) ∧ (atPos run 1023).refusalOf 0 (orderOfByte 4) = none ∧
      goes (atPos run 1023) 0 (orderOfByte 4) .toOpen ∧ ¬staysPut (atPos run 1023) 0 (orderOfByte 4)) ∧
    (taken run 0 (orderOfByte 1) ∧ run.refusalOf 0 (orderOfByte 1) = none ∧ (orderOfByte 1).kind = .stop) ∧
    (taken (atPos run 1024) 0 (orderOfByte 4) ∧ (atPos run 1024).refusalOf 0 (orderOfByte 4) = none ∧
      staysPut (atPos run 1024) 0 (orderOfByte 4)) ∧
    ¬taken run 0 (orderOfByte 0) ∧ ¬taken repeated 0 (orderOfByte 4) := by
  refine ⟨?_, ?_, ?_, ?_, ?_, ?_⟩ <;> first
    | decide +kernel
    | simp only [taken, goes, staysPut, presetTo]; decide +kernel
/-- Each of the ten checks, the first that applies to an order: 4 is OPEN_EXPRESS and 5 CLOSE_EXPRESS of USER; e at 1 and at 3, the
link grade at DEGRADED_GRADE; a channel whose teach runs, and one that has none; an IDLE channel, and a held close that the refused
order ends. -/
theorem test_meets_RefusedOrderChangesNoMotion :
    let closed : State := atPos run 500
    let esc : Nat → State := fun e => with0 closed fun u => { u with rev := { u.rev with level := e, window := some 5 } }
    (State.reset.refusalOf 0 (orderOfByte 4) = some .notReady ∧ run.refusalOf 1 (orderOfByte 4) = some .absent ∧
    (with0 run fun u => { u with ctl := { u.ctl with st := .inhibited } }).refusalOf 0 (orderOfByte 4) = some .inhibited ∧
    (reversing run).refusalOf 0 (orderOfByte 4) = some .reversing ∧
    ({ closed with stg := { closed.stg with configFault := true } } : State).refusalOf 0 (orderOfByte 4) = some .fallback ∧
    setup.refusalOf 0 (orderOfByte 5) = some .notCommissioned ∧ run.refusalOf 0 (orderOfByte 5) = some .unreferenced ∧
    (esc 3).refusalOf 0 (orderOfByte 5) = some .escalated ∧ (esc 1).refusalOf 0 (orderOfByte 5) = some .lockout ∧
    (node1 closed fun n => { n with grade := closed.stg.image.glob.degradedGrade }).refusalOf 0 (orderOfByte 5) =
      some .degraded ∧
    closed.refusalOf 0 (orderOfByte 5) = none ∧ (setup.chans.get 0).prof.teach ≠ .running ∧
    ((with0 setup fun u => { u with prof := { u.prof with teach := .running } }).chans.get 0).prof.teach = .running) ∧
    (taken run 0 (orderOfByte 5) ∧ ¬heldEnds run 0 (orderOfByte 5)) ∧
    (taken (moving run heldClose) 0 (orderOfByte 4) ∧
      (moving run heldClose).refusalOf 0 (orderOfByte 4) = some .unreferenced ∧
      heldEnds (moving run heldClose) 0 (orderOfByte 4)) :=
  ⟨by decide +kernel,
   ⟨by unfold taken; decide +kernel, fun ⟨m, h, _⟩ => h.elim (fun h => absurd h.1 (by decide +kernel))
      fun h => absurd h.1 (by decide +kernel)⟩,
   by unfold taken; decide +kernel, by decide +kernel,
   heldClose, by unfold carries; decide +kernel, rfl, by simp only [goes, heldClose]; decide +kernel⟩
/-- A held close at NONE and at its own CLOSE_HELD; a preset close at NONE, at a STOP, at a CLOSE_EXPRESS that converts it, at an
OPEN_EXPRESS against it, and at its travel; the same entry WAITING. -/
theorem test_meets_OrderGateStopsEndsAndTurns :
    let h : State := moving run heldClose
    let s : State := moving (atPos run 700) presetClose
    let w : State := waiting (atPos run 700) presetClose
    let open_ : State := moving (atPos run 1024) presetClose
    ((s.chans.get 0).prof.teach ≠ .running ∧
      ((with0 s fun u => { u with prof := { u.prof with teach := .running } }).chans.get 0).prof.teach = .running) ∧
    (¬taken h 0 (orderOfByte 0) ∧ heldEnds h 0 (orderOfByte 0)) ∧
    (¬taken s 0 (orderOfByte 0) ∧ ¬heldEnds s 0 (orderOfByte 0)) ∧
    (carries h 0 heldClose ∧ taken h 0 (orderOfByte 3) ∧ goes h 0 (orderOfByte 3) heldClose.dir ∧
      (orderOfByte 3).kind = .closeHeld ∧ h.refusalOf 0 (orderOfByte 3) = none ∧ ¬staysPut h 0 (orderOfByte 3)) ∧
    ((s.chans.get 0).ctl.st ≠ .idle ∧ (orderOfByte 1).kind = .stop ∧ taken s 0 (orderOfByte 1) ∧
      s.refusalOf 0 (orderOfByte 1) = none) ∧
    (carries s 0 presetClose ∧ carries w 0 presetClose ∧ (w.chans.get 0).ctl.st = .waiting ∧ taken s 0 (orderOfByte 5) ∧
      goes s 0 (orderOfByte 5) presetClose.dir ∧ ¬((orderOfByte 5).kind = .openHeld ∨ (orderOfByte 5).kind = .closeHeld) ∧
      s.refusalOf 0 (orderOfByte 5) = none ∧ w.refusalOf 0 (orderOfByte 5) = none ∧ ¬staysPut s 0 (orderOfByte 5)) ∧
    (goes s 0 (orderOfByte 4) .toOpen ∧ Dir.toOpen ≠ presetClose.dir ∧ taken s 0 (orderOfByte 4) ∧
      s.refusalOf 0 (orderOfByte 4) = none ∧ ¬staysPut s 0 (orderOfByte 4)) ∧
    (taken open_ 0 (orderOfByte 4) ∧ open_.refusalOf 0 (orderOfByte 4) = none ∧ staysPut open_ 0 (orderOfByte 4)) :=
  ⟨by decide +kernel,
   ⟨by unfold taken; decide +kernel, heldClose, by unfold carries; decide +kernel, rfl,
      by simp only [goes, heldClose]; decide +kernel⟩,
   ⟨by unfold taken; decide +kernel, fun ⟨m, h, ho, _⟩ => h.elim (fun h => absurd h.1 (by decide +kernel))
      fun h => by cases Option.some.inj (h.2 : some presetClose = some m); cases ho⟩,
   by refine ⟨?_, ?_, ?_, ?_, ?_⟩ <;> simp only [taken, carries, goes, staysPut, presetTo, heldClose, presetClose] <;>
        decide +kernel⟩
theorem test_meets_BadChannelIsBadArgument : 7 < (8 : Byte).toNat ∧ 7 < (255 : Byte).toNat ∧ dispatched .side setup ∧
    (23 : Byte).toNat < 24 ∧ setup.stg.phase ≠ .starting ∧ setup.stg.phase = .setup :=
  ⟨by decide, by decide, dispatched_setup _, by decide, by decide +kernel, rfl⟩
theorem test_meets_ReadStatusItemsReturnTheirFields : (7 : Byte).toNat = (7 : Chan).val ∧ dispatched .side run :=
  ⟨rfl, dispatched_run⟩
/-- Channel 7 is ABSENT, channel 0 is bound to address 1. -/
theorem test_meets_ReadsThatChangeWhatTheyRead : (7 : Byte).toNat = (7 : Chan).val ∧ dispatched .side run ∧
    (run.chans.get 7).ctl.st = .absent ∧ (run.chans.get 0).ctl.st ≠ .absent ∧
    (run.stg.image.chan.get 0).nodeAddr = (0 : Node).val + 1 :=
  ⟨rfl, dispatched_run, by decide +kernel, by decide +kernel, by decide +kernel⟩
/-- Addresses 0, 1, 8 and 9; ids 0, 23, 24, 31, 32, 62 and 63. -/
theorem test_meets_ReadIdentityAndSettingReturnWhatIsHeld : dispatched .command setup ∧ (0 : Byte).toNat = 0 ∧
    8 < (9 : Byte).toNat ∧ ((8 : Byte).toNat = (7 : Node).val + 1 ∧ setup.enr.table.get 7 = none) ∧
    ((1 : Byte).toNat = (0 : Node).val + 1 ∧ setup.enr.table.get 0 = some node) ∧
    ChanSetting.all[0]? = some .kind ∧ ChanSetting.all[23]? = some .preset3 ∧ GlobSetting.all[32 - 32]? = some .slots ∧
    GlobSetting.all[0x3E - 32]? = some .windOnset ∧ (24 ≤ 24 ∧ 31 < 32) ∧ 0x3E < (0x3F : Byte).toNat :=
  ⟨dispatched_setup _, rfl, by decide, by decide +kernel, by decide +kernel, rfl, rfl, rfl, rfl, by decide, by decide⟩
/-- Bins 0 and 63, and 64; indexes 0, with a record, 5, without, and 6; channel 8. -/
theorem test_meets_ReadBinsAndZonesReturnTheProfileStore : (0 : Byte).toNat = (0 : Chan).val ∧ dispatched .side run ∧
    (0 : Byte).toNat = (0 : Fin 64).val ∧ (63 : Byte).toNat = (63 : Fin 64).val ∧ 63 < (64 : Byte).toNat ∧
    7 < (8 : Byte).toNat ∧ 5 < (6 : Byte).toNat ∧
    ((5 : Byte).toNat ≤ 5 ∧ (run.stg.image.zones.get 0).length ≤ (5 : Byte).toNat) ∧
    (run.stg.image.zones.get 0)[(0 : Byte).toNat]? = some { start := -255, stop := 8, kind := 2, adjust := 0 } :=
  ⟨rfl, dispatched_run, rfl, rfl, by decide, by decide, by decide, by decide +kernel, by decide +kernel⟩
theorem test_meets_RestorePositionReferencesAnIdleChannel : (0 : Byte).toNat = (0 : Chan).val ∧ dispatched .side run ∧
    run.stg.phase ≠ .starting ∧ ((run.chans.get 0).ctl.st = .idle ∧ (run.chans.get 0).ctl.referenced = false) ∧
    (run.chans.get 1).ctl.st ≠ .idle ∧ ((atPos run 0).chans.get 0).ctl.referenced = true :=
  ⟨rfl, dispatched_run, by decide +kernel⟩
/-- Not busy, with 3 and with 4 answers standing; busy by a run and by a waiting channel. -/
theorem test_meets_ResetPartArmsTheWarmReset : dispatched .command setup ∧ setup.stg.phase ≠ .starting ∧
    (setup.enr.st = .idle ∧ ∀ c : Chan, (setup.chans.get c).ctl.st = .absent ∨ (setup.chans.get c).ctl.st = .idle) ∧
    (answering setup [report, report, report]).trk.answers.length < 4 ∧
    4 ≤ (answering setup [report, report, report, report]).trk.answers.length ∧
    ({ setup.enr with st := EnrollState.offering } : EnrollmentUnit).st ≠ .idle ∧
    ((waiting setup heldClose).chans.get 0).ctl.st = .waiting :=
  ⟨dispatched_setup _, by decide +kernel⟩
theorem test_meets_ReopenNeedsRestAndStandstill : dispatched .side run ∧ run.stg.phase = .run ∧
    (∀ c : Chan, (run.chans.get c).ctl.st = .absent ∨ (run.chans.get c).ctl.st = .inhibited ∨
      (run.chans.get c).ctl.st = .idle) ∧
    (({ run.ctx with fresh := true } : ContextUnit).fresh = true ∧ run.ctx.speed = 0) ∧ run.ctx.fresh ≠ true ∧
    dispatched .side setup ∧ setup.stg.phase = .setup :=
  ⟨dispatched_run, rfl, by decide +kernel, by decide +kernel, by decide +kernel, dispatched_setup _, rfl⟩
/-- SLOTS with no slot held and with one; TRAVEL with and without a teach; BAND_LOW; NODE_ADDR of channel 0, its binding as it was,
lost by 0, gained by 1, and moved from address 1 to 2, with channel 7 unbound throughout. -/
theorem test_meets_WriteSettingClampsAndStores :
    let addressed : Byte → State → State := fun v => after (.writeSetting .side 0 2 (0#8 ++ v))
    let two : State := enroll setup fun e => { e with table := e.table.set 1 (some node) }
    dispatched .side setup ∧ setup.stg.phase = .setup ∧
    GlobSetting.all[32 - 32]? = some .slots ∧ GlobSetting.all[0x3E - 32]? = some .windOnset ∧
    (∀ c : Chan, setup.arb.slots.get c = false) ∧ (∃ c : Chan, (moving setup heldClose).arb.slots.get c = true) ∧
    (0 : Byte).toNat = (0 : Chan).val ∧ ChanSetting.all[(3 : Byte).toNat]? = some .travel ∧
    ((with0 setup fun u => { u with prof := { u.prof with teach := .running } }).chans.get 0).prof.teach = .running ∧
    (setup.chans.get 0).prof.teach ≠ .running ∧ ChanSetting.all[(16 : Byte).toNat]? = some .bandLow ∧
    ChanSetting.all[(23 : Byte).toNat]? = some .preset3 ∧ ChanSetting.all[(2 : Byte).toNat]? = some .nodeAddr ∧
    ((∀ d : Chan, (setup.chans.get d).ctl.st = .absent ↔ ¬bound setup d) ∧ ¬bound setup 7 ∧ ¬bound (addressed 0 setup) 7 ∧
      (bound setup 0 ∧ bound (addressed 1 setup) 0 ∧ ((setup.stg.image.chan.get 0).nodeAddr : Int) = 1) ∧
      ¬bound (addressed 0 setup) 0 ∧ bound (addressed 1 (addressed 0 setup)) 0 ∧
      (((addressed 0 setup).chans.get 0).ctl.st = .absent ∧ setup.enr.table.get 0 = some node) ∧
      (bound two 0 ∧ bound (addressed 2 two) 0 ∧ (two.chans.get 0).ctl.st ≠ .absent ∧
        ((two.stg.image.chan.get 0).nodeAddr : Int) ≠ 2)) :=
  ⟨dispatched_setup _, rfl, rfl, rfl, by decide +kernel, ⟨0, by decide +kernel⟩, rfl, rfl, by decide +kernel,
   by decide +kernel, rfl, rfl, rfl, by
    refine ⟨?_, ?_, ?_, ⟨?_, ?_, ?_⟩, ?_, ?_, ?_, ?_, ?_, ?_⟩ <;> first
      | decide +kernel
      | unfold bound; decide +kernel⟩
/-- First bins 0, 56 and 57; the bins just below, in and just above the eight of first bin 8. -/
theorem test_meets_LoadBaselineWritesEightBins : (0 : Byte).toNat = (0 : Chan).val ∧ dispatched .command setup ∧
    setup.stg.phase = .setup ∧ 56 < (57 : Byte).toNat ∧ (56 : Byte).toNat ≤ 56 ∧
    ((with0 setup fun u => { u with prof := { u.prof with teach := .running } }).chans.get 0).prof.teach = .running ∧
    (setup.chans.get 0).prof.teach ≠ .running ∧
    ((7 : Fin 64).val < (8 : Byte).toNat ∧ (8 : Byte).toNat + 8 ≤ (16 : Fin 64).val) ∧
    ((8 : Fin 64).val = (8 : Byte).toNat + (0 : Fin 8).val ∧ (15 : Fin 64).val = (8 : Byte).toNat + (7 : Fin 8).val) :=
  ⟨rfl, dispatched_setup _, rfl, by decide, by decide, by decide +kernel, by decide +kernel, by decide, by decide⟩
/-- Indexes 0, 1, 5 and 6 on a list of one record; kinds 2 and 3; an end below its start. -/
theorem test_meets_ZoneCommandsWriteTheList : (0 : Byte).toNat = (0 : Chan).val ∧ dispatched .side setup ∧
    setup.stg.phase = .setup ∧ 5 < (6 : Byte).toNat ∧ 2 < (3 : BitVec 4).toNat ∧
    max (-255 : Int) (8 : BitVec 13).toInt < max (-255) (9 : BitVec 13).toInt ∧
    ((5 : Byte).toNat ≤ 5 ∧ (2 : BitVec 4).toNat = ZoneKind.code .seal) ∧
    ((with0 setup fun u => { u with prof := { u.prof with teach := .running } }).chans.get 0).prof.teach = .running ∧
    (setup.chans.get 0).prof.teach ≠ .running ∧ (0 : Byte).toNat < (setup.stg.image.zones.get 0).length ∧
    (setup.stg.image.zones.get 0).length ≤ (1 : Byte).toNat :=
  ⟨rfl, dispatched_setup _, rfl, by decide, by decide, by decide, by decide, by decide +kernel, by decide +kernel,
   by decide +kernel, by decide +kernel⟩
theorem test_meets_TeachQueuesItsStroke : (0 : Byte).toNat = (0 : Chan).val ∧ dispatched .side (atPos setup 960) ∧
    (atPos setup 960).stg.phase = .setup ∧ ((atPos setup 960).chans.get 0).ctl.st = .idle ∧
    ((atPos setup 960).chans.get 0).ctl.referenced = true ∧
    ((1024 : Nat) : Int) - (1024 / 16 : Nat) ≤ ((atPos setup 960).chans.get 0).ctl.pos ∧
    ¬(((1024 : Nat) : Int) - (1024 / 16 : Nat) ≤ ((atPos setup 959).chans.get 0).ctl.pos) ∧
    (atPos setup 960).stg.configFault = false ∧ ((atPos setup 960).stg.image.chan.get 0).travel = 1024 :=
  ⟨rfl, ⟨rfl, rfl, fun h => (by cases h)⟩, rfl, by decide +kernel⟩
/-- The factory defaults fail check 6; with a baseline of 200 they pass; each other check fails where its own condition does. -/
theorem test_meets_LockInChecksThenWrites :
    let good : Image := { Image.factory with baseline := Oct.const (Bins.const 200) }
    dispatched .side setup ∧ setup.stg.phase = .setup ∧ setup.enr.st = .idle ∧
    (∀ c : Chan, (setup.chans.get c).prof.teach ≠ .running) ∧ lockInFailure setup.stg.image = some (6, 0) ∧
    lockInFailure good = none ∧ ({ setup.enr with st := EnrollState.settle } : EnrollmentUnit).st ≠ .idle ∧
    lockInFailure { good with glob := { good.glob with uvLevel0 := good.glob.uvLevel2 } } = some (1, 0) ∧
    lockInFailure { good with glob := { good.glob with cold2Temp := good.glob.cold1Temp } } = some (2, 0) ∧
    lockInFailure { good with glob := { good.glob with q7 := 511 } } = some (3, 0) ∧
    lockInFailure { good with chan := good.chan.set 5 { ChanSettings.factory 5 with nodeAddr := 3 } } = some (4, 5) ∧
    lockInFailure { good with zones := good.zones.set 7 [] } = some (5, 7) ∧
    lockInFailure { good with chan := good.chan.set 3 { ChanSettings.factory 3 with preset2 := 1025 } } = some (7, 3) :=
  ⟨dispatched_setup _, by decide +kernel⟩
theorem test_meets_EnrollStartsARun : dispatched .side setup ∧ setup.stg.phase = .setup ∧ setup.enr.st = .idle ∧
    ({ setup.enr with st := EnrollState.settle } : EnrollmentUnit).st ≠ .idle :=
  ⟨dispatched_setup _, rfl, rfl, by decide +kernel⟩
theorem test_meets_StoreWriteCompletionsSetThePhase : setup.rst.active = false ∧
    ({ setup.stg with write := some (.lockIn Image.factory 0) } : SettingsUnit).write =
      some (StoreWrite.lockIn Image.factory 0) ∧
    ({ run.stg with write := some .reopen } : SettingsUnit).write = some StoreWrite.reopen := ⟨rfl, rfl, rfl⟩
/-- Scan positions 62 and 63, the timer reached; and one not reached. -/
theorem test_meets_CheckStepsComputeTheCheckValue : run.rst.active = false ∧ run.stg.phase = .run ∧
    reached (some 5) (atTick run 5).now ∧ ¬reached (some 5) (atTick run 4).now ∧
    ({ run.stg with scanPos := 62 } : SettingsUnit).scanPos < 63 ∧
    ({ run.stg with scanPos := 63 } : SettingsUnit).scanPos = 63 :=
  ⟨rfl, rfl, (isDue_iff _ _).mp rfl, fun h => absurd ((isDue_iff _ _).mpr h) (by decide), by decide +kernel,
   by decide +kernel⟩
/-- Values of the image at the ends of 16 bits, and a bin past them; a full queue, a full answer list with a collector that
holds 1 and 3 fragments, a settings record whose images fit. -/
theorem test_meets_StorageFaultChangesTheNamedValue : (0 ≤ (65535 : Int) ∧ (65535 : Int) ≤ 65535) ∧
    (0 ≤ GlobSetting.slots.range.1 ∧ GlobSetting.cold1Temp.range.1 < 0 ∧ -32768 ≤ (-32768 : Int)) ∧
    ([] : List Zone).length ≤ 6 ∧ (-32768 ≤ (-32768 : Int) ∧ (32767 : Int) ≤ 32767) ∧ 65535 ≤ 65535 ∧ 65535 < 65536 ∧
    (List.replicate 8 ({ channel := 0, motion := rainClose, join := 0, expiry := 0 } : Entry)).length ≤ 8 ∧
    (List.replicate 4 report).length ≤ 4 ∧ (1 ≤ [(0 : BitVec 16)].length ∧ [(0 : BitVec 16), 0, 0].length ≤ 3) ∧
    setup.stg.image.fits = true ∧ setup.stg.store.image.fits = true ∧ setup.stg.write = none := by decide +kernel
/-- A hold timer at its expiry; an entry at its expiry; and each timer stopped, and the branch cycle timer not reached. -/
theorem test_meets_TimersActOnlyWhenReached : (moving run heldClose).rst.active = false ∧
    reached ((moving run heldClose).chans.get 0).ctl.hold (atTick run 80).now ∧
    (carries (moving run heldClose) 0 heldClose ∧ heldClose.origin = .held) ∧
    (((waiting run rainClose).chans.get 0).ctl.st = .waiting ∧
      (waiting run rainClose).arb.queue = [{ channel := 0, motion := rainClose, join := 0, expiry := 6000 }] ∧
      6000 ≤ (atTick run 6000).now ∧ ¬6000 ≤ (atTick run 5999).now) ∧
    ¬reached (run.chans.get 0).ctl.hold run.now ∧ run.arb.queue = [] ∧ ¬reached (run.chans.get 0).rev.window run.now ∧
    ¬reached run.trk.lossTimer run.now ∧ ¬reached run.br.timer (atTick run 3).now :=
  ⟨rfl, (isDue_iff _ _).mp (by decide +kernel), by unfold carries; decide +kernel, by decide +kernel,
   fun h => absurd ((isDue_iff _ _).mpr h) (by decide +kernel), rfl,
   fun h => absurd ((isDue_iff _ _).mpr h) (by decide +kernel), fun h => absurd ((isDue_iff _ _).mpr h) (by decide +kernel),
   fun h => absurd ((isDue_iff _ _).mpr h) (by decide +kernel)⟩
theorem test_meets_EscalationWindowExpiryClearsE : run.rst.active = false ∧
    reached ((reversing run).chans.get 0).rev.window (atTick run 5).now := ⟨rfl, (isDue_iff _ _).mp (by decide +kernel)⟩
/-- A waiting channel, its entry latched and its teach running; a held motion, a latched motion and a reversal. -/
theorem test_meets_TrunkLossActsOnItsOwners : run.rst.active = false ∧ reached (some 5) (atTick run 5).now ∧
    (((waiting run rainClose).chans.get 0).ctl.st = .waiting ∧
      (waiting run rainClose).entryOf 0 = some { channel := 0, motion := rainClose, join := 0, expiry := 6000 } ∧
      ((with0 (waiting run rainClose) fun u => { u with prof := { u.prof with teach := .running } }).chans.get 0).prof.teach =
        .running) ∧
    (((moving run heldClose).chans.get 0).ctl.st = .closing ∧
      ((moving run heldClose).chans.get 0).ctl.motion = some heldClose ∧ heldClose.origin = .held) ∧
    (((moving run rainClose).chans.get 0).ctl.motion = some rainClose ∧ rainClose.origin = .latched) ∧
    ((reversing run).chans.get 0).ctl.st = .reversing := ⟨rfl, (isDue_iff _ _).mp rfl, by decide +kernel⟩
/-- A cycle start with nothing to assign, with address 1 on offer, and with a rejoin of address 4 due; and a channel that an
address serves. -/
theorem test_meets_BranchCycleStartBuildsTheDriveWord :
    let start : (EnrollmentUnit → EnrollmentUnit) → State := fun f => after .branchCycleStart (atTick (enroll run f) 4)
    run.rst.active = false ∧ reached run.br.timer (atTick run 4).now ∧ run.br.place = 9 ∧
    (start fun e => e).enr.slot0 = .unused ∧ (start fun e => { e with st := .offering }).enr.slot0 = .offer ∧
    (start fun e => { e with rejoinCount := 63, schedule := e.schedule.set 3 true }).enr.slot0 = .rejoin 3 ∧
    run.channelOf 0 = some 0 := ⟨rfl, (isDue_iff _ _).mp (by decide +kernel), rfl, by decide +kernel⟩
/-- The places 0 and 7 before slots 1, 2 and 8; slot 0 next, and a cycle that is over. -/
theorem test_meets_SlotsEndInTheirOrder : run.rst.active = false ∧ (0 : Node).val < (atPlace run 1).br.place ∧
    8 < run.br.place ∧ ((atPlace run 0).br.place ≤ (0 : Node).val ∧ (atPlace run 7).br.place ≤ (7 : Node).val) ∧
    (atPlace run 8).br.place ≤ 8 ∧ ((atPlace run 0).br.place = (0 : Node).val ∧ (0 : Node).val < (7 : Node).val) ∧
    reached (atPlace run 8).br.timer (atTick run 4).now :=
  ⟨rfl, by decide, by decide, by decide, by decide, by decide, (isDue_iff _ _).mp (by decide +kernel)⟩
/-- No grant for each reason; a grant with the stagger count at STAGGER and one slot free to the USER entry of channel 0, past a
RAIN entry before it and a SLIDER's USER entry whose side moves, with a RAIN entry behind it. -/
theorem test_meets_GrantDecisionGrantsTheWinner :
    let entry : Chan → Motion → Entry := fun c m => { channel := c, motion := m, join := 0, expiry := 6000 }
    let s : State := { run with
      ctx := { run.ctx with movingR := true }
      stg := { run.stg with image := { run.stg.image with
        chan := run.stg.image.chan.set 2 { ChanSettings.factory 2 with kind := 1, side := 1 } } }
      arb := { slots := { a0 := false, a1 := true, a2 := true, a3 := true, a4 := false, a5 := false, a6 := false, a7 := false }
               queue := [entry 1 rainClose, entry 2 heldClose] ++ entry 0 heldClose :: [entry 3 rainClose]
               stagger := 4 } }
    s.rst.active = false ∧ reached s.br.timer (atTick s 4).now ∧ s.br.place = 9 ∧ run.arb.queue = [] ∧
    min 16 (run.arb.stagger + 1) < run.stg.image.glob.stagger ∧
    s.arb.slots.toList.countP (fun b => b) < s.stg.image.glob.slots ∧ s.ctx.crank = false ∧
    s.stg.image.glob.stagger ≤ min 16 (s.arb.stagger + 1) ∧
    s.arb.queue = [entry 1 rainClose, entry 2 heldClose] ++ entry 0 heldClose :: [entry 3 rainClose] ∧
    (¬sideMoving s 0 ∧ sideMoving s 2) ∧ classRank heldClose.cls < classRank rainClose.cls ∧
    heldClose.dir = .toClosed ∧ heldOpen.dir = .toOpen :=
  ⟨rfl, (isDue_iff _ _).mp (by decide +kernel), rfl, rfl, by decide +kernel, by decide +kernel, rfl, by decide +kernel, rfl,
   by unfold sideMoving; decide +kernel, by decide⟩
/-- The bus-off time and the settle time of 20 ms at their ends, a settle time that runs, the schedule with address 4 alone at
rejoin counts 62 and 63; an offer repeated after one miss. -/
theorem test_meets_EnrollmentTimesMoveTheUnit : State.reset.rst.active = false ∧
    ((after (.enroll .side) setup).enr.st = .busOff ∧ reached (after (.enroll .side) setup).enr.settle 40) ∧
    (State.reset.enr.st = .settle ∧ reached State.reset.enr.settle 40 ∧ ¬reached State.reset.enr.settle 39) ∧
    (after .nodeSettleExpiry (atTick State.reset 40)).enr.settle = none ∧
    (reached State.reset.br.timer 4 ∧ State.reset.br.place = 9 ∧ State.reset.enr.settle = some 40 ∧ 4 < 40) ∧
    (run.enr.st = .idle ∧ (run.enr.schedule.set 3 true).get 3 = true ∧
      ∀ b : Node, b < 3 → (run.enr.schedule.set 3 true).get b = false) ∧
    (62 < 63 ∧ (∀ a : Node, run.enr.schedule.get a = false) ∧
      ({ run.enr with st := .offering, miss := 1 } : EnrollmentUnit).st = .offering ∧ 0 < 1) ∧
    (run.br.driveWord = none ∧ (after .branchCycleStart (atTick run 4)).br.driveWord.isSome = true) :=
  ⟨rfl, ⟨by decide +kernel, (isDue_iff _ _).mp (by decide +kernel)⟩,
   ⟨rfl, (isDue_iff _ _).mp (by decide +kernel), fun h => absurd ((isDue_iff _ _).mpr h) (by decide +kernel)⟩,
   by decide +kernel, ⟨(isDue_iff _ _).mp (by decide +kernel), rfl, rfl, by decide⟩, by decide +kernel, by decide +kernel,
   by decide +kernel⟩
/-- A silent slot after no bad one, and after one with BLIND_COUNT 2 and the channel CLOSING; a frame that does not check, one that
repeats the keep-alive and one that does not; addresses with no record and a LOST one, and one that no channel names. -/
theorem test_meets_BadSlotsCountAndStopBlindMotion :
    let s : State := node1 (moving (atPlace run 0) rainClose) fun n => { n with badRun := 1 }
    let m : Sample := sample 96 0 125 false
    let unbound : State := { s with stg := { s.stg with image := { s.stg.image with
      chan := s.stg.image.chan.set 0 { ChanSettings.factory 0 with nodeAddr := 0 } } } }
    s.rst.active = false ∧ s.br.place = (0 : Node).val ∧ s.enr.reading ≠ some 0 ∧ s.enr.table.get 0 = some node ∧
    node.st ≠ .lost ∧ slotOutcome (s.br.nodes.get 0).keep .silent = .silent ∧
    (s.br.nodes.get 0).winPos + 1 < 64 * 2 ^ s.stg.image.glob.gradeWindow ∧
    min 63 ((s.br.nodes.get 0).badRun + 1) < s.stg.image.glob.lostCount ∧
    min 63 ((run.br.nodes.get 0).badRun + 1) < run.stg.image.glob.blindCount ∧ s.channelOf 0 = some 0 ∧
    (s.chans.get 0).ctl.st = .closing ∧ s.stg.image.glob.blindCount ≤ min 63 ((s.br.nodes.get 0).badRun + 1) ∧
    (sampleOf [] = none ∧ sampleOf (Sample.bits m) = some m ∧ m.freshStart = false ∧ some (m.keep + 1) ≠ some m.keep) ∧
    (s.enr.table.get 1 = none ∧ (s.enr.table.set 0 (some { node with st := .lost })).get 0 = some { node with st := .lost }) ∧
    slotOutcome (s.br.nodes.get 0).keep (slot m) = .good m ∧ (∀ c : Chan, unbound.channelOf 0 ≠ some c) ∧
    moves s 0 ∧ ¬moves (atPlace run 0) 0 := by unfold moves; decide +kernel
/-- Counts 51 and 0; a window that ends with grade 6, one that ends with grade 0, and a run that reaches LOST_COUNT, with the
channel CLOSING, IDLE, and CLOSING short of BLIND_COUNT; a GOOD slot that ends a window with no bad slot, and with 60. -/
theorem test_meets_GradesFallAndNodesAreLost :
    let s : State := atPlace run 0
    s.rst.active = false ∧ s.br.place = (0 : Node).val ∧ s.enr.reading ≠ some 0 ∧ s.enr.table.get 0 = some node ∧
    node.st ≠ .lost ∧ slotOutcome (s.br.nodes.get 0).keep .silent = .silent ∧ candidateGrade GlobSettings.factory 51 = 0 ∧
    candidateGrade GlobSettings.factory 0 = 7 ∧ (6 < 7 ∧ candidateGrade GlobSettings.factory 1 < 7) ∧
    64 * 2 ^ s.stg.image.glob.gradeWindow ≤ 255 + 1 ∧ nextGrade s.stg.image.glob 7 (min 512 (0 + 1)) = 6 ∧
    nextGrade s.stg.image.glob 7 (min 512 (60 + 1)) = 0 ∧ s.stg.image.glob.lostCount ≤ min 63 (15 + 1) ∧
    (∀ b : Node, s.enr.schedule.get b = false) ∧ (s.enr.schedule.set 3 true).get 3 = true ∧
    (s.chans.get 0).ctl.causes = noCauses ∧ s.channelOf 0 = some 0 ∧ moves (moving s rainClose) 0 ∧ ¬moves s 0 ∧
    min 63 (0 + 1) < s.stg.image.glob.blindCount ∧ s.stg.image.glob.blindCount ≤ min 63 (15 + 1) ∧
    slotOutcome (s.br.nodes.get 0).keep (slot (sample 96 0 125 false)) = .good (sample 96 0 125 false) ∧
    nextGrade s.stg.image.glob 7 0 ≠ 0 ∧ nextGrade s.stg.image.glob 7 60 = 0 ∧ min 63 (3 + 1) < s.stg.image.glob.lostCount := by
  unfold moves; decide +kernel
/-- A sample with nothing against it, brought to channel 0 by slot 1. -/
theorem bringsOf_of {mismatch : Bool} {s : State} {content : SlotContent} {m : Sample}
    (h : s.rst.active = false ∧ s.br.place = (0 : Node).val ∧ s.enr.reading ≠ some 0 ∧
      s.enr.table.get 0 = some { node with st := if mismatch then .mismatch else .enrolled } ∧
      slotOutcome (s.br.nodes.get 0).keep content = .good m ∧ s.channelOf 0 = some 0 ∧
      (s.br.nodes.get 0).winPos + 1 < 64 * 2 ^ s.stg.image.glob.gradeWindow) : bringsOf mismatch s 0 0 content m :=
  ⟨h.1, h.2.1, h.2.2.1, ⟨_, h.2.2.2.1, rfl⟩, h.2.2.2.2.1, h.2.2.2.2.2.1, h.2.2.2.2.2.2⟩

/-- The same of the ENROLLED node. -/
theorem brings_of {s : State} {content : SlotContent} {m : Sample} (h : s.rst.active = false ∧ s.br.place = (0 : Node).val ∧
    s.enr.reading ≠ some 0 ∧ s.enr.table.get 0 = some node ∧ slotOutcome (s.br.nodes.get 0).keep content = .good m ∧
    s.channelOf 0 = some 0 ∧ (s.br.nodes.get 0).winPos + 1 < 64 * 2 ^ s.stg.image.glob.gradeWindow) :
    brings s 0 0 content m := bringsOf_of h

/-- Channel 0 INHIBITED by NODE_FAULT, as the sample of its node finds it. -/
def stuck : State := with0 (atPlace setup 0) fun u => { u with ctl := { u.ctl with
  st := .inhibited, causes := { noCauses with nodeFault := true } } }

/-- The same with a MISMATCH node. -/
def stranger : State := enroll stuck fun e => { e with table := e.table.set 0 (some { node with st := .mismatch }) }

/-- 01 worked case: N = 108 against base 100, k = 1 and EDGE_MAX 8; a channel with no base; and an INHIBITED one whose NODE_FAULT
stays, by HALL_FAULT and as a MISMATCH node. -/
theorem test_meets_GoodSampleMovesThePosition :
    let s : State := atPlace setup 0
    let m : Sample := sample 108 0 80 false
    let hall : Sample := { m with hallFault := true }
    brings s 0 0 (slot m) m ∧ brings (with0 s fun u => { u with ctl := { u.ctl with base := none } }) 0 0 (slot m) m ∧
    brings stuck 0 0 (slot hall) hall ∧ bringsOf true stranger 0 0 (slot m) m ∧ healthy s 0 m ∧
    (s.chans.get 0).ctl.st = .idle ∧ m.freshStart = false ∧
    (s.chans.get 0).ctl.base = some 100 ∧ |deltaFrom m 100| ≤ edgeBound s 0 0 ∧
    ((stuck.chans.get 0).ctl.st = .inhibited ∧ (stuck.chans.get 0).ctl.causes ≠ noCauses ∧
      ({ (stuck.chans.get 0).ctl.causes with nodeFault := hall.hallFault || hall.overtemp || false } : Causes) ≠ noCauses) ∧
    ((stranger.chans.get 0).ctl.st = .inhibited ∧ (stranger.chans.get 0).ctl.causes ≠ noCauses ∧
      ({ (stranger.chans.get 0).ctl.causes with nodeFault := m.hallFault || m.overtemp || true } : Causes) ≠ noCauses) :=
  ⟨brings_of (by decide +kernel), brings_of (by decide +kernel), brings_of (by decide +kernel), bringsOf_of (by decide +kernel),
   by unfold healthy; decide +kernel⟩
/-- HALL_FAULT on a CLOSING channel; a clear sample on an INHIBITED one, and one of a MISMATCH node; causes that appear, go and
stay. -/
theorem test_meets_InhibitCausesStopTheChannel :
    let s : State := moving (atPlace setup 0) heldClose
    let m : Sample := { sample 96 0 80 false with hallFault := true }
    brings s 0 0 (slot m) m ∧ (s.chans.get 0).ctl.causes = noCauses ∧ m.hallFault = true ∧
    brings stuck 0 0 (slot (sample 96 0 80 false)) (sample 96 0 80 false) ∧
    bringsOf true stranger 0 0 (slot (sample 96 0 80 false)) (sample 96 0 80 false) ∧
    (stuck.chans.get 0).ctl.causes ≠ noCauses ∧ (stuck.chans.get 0).ctl.st = .inhibited ∧
    ({ noCauses with undervolt := true } : Causes) ≠ noCauses :=
  ⟨brings_of (by decide +kernel), by decide +kernel, rfl, brings_of (by decide +kernel), bringsOf_of (by decide +kernel),
   by decide +kernel, by decide +kernel, by decide⟩
/-- What follows, for the entries and the held close: N = 40 on a WAITING channel with a RAIN close, and with a held USER one,
referenced and not; FRESH_START on a WAITING channel, and on a held USER close with END, at its flat limit, and below it. -/
theorem test_meets_SampleEndsMotion_entries :
    let s : State := atPlace (atPos run 500) 0
    let far : Sample := sample 40 0 125 false
    let fresh : Sample := { sample 96 0 125 false with freshStart := true }
    let lost : State := with0 s fun u => { u with ctl := { u.ctl with referenced := false } }
    edgeBound s 0 0 < |deltaFrom far 100| ∧ ((waiting s rainClose).chans.get 0).ctl.base = some 100 ∧
    (brings (waiting s rainClose) 0 0 (slot far) far ∧ healthy (waiting s rainClose) 0 far ∧
      carries (waiting s rainClose) 0 rainClose ∧ ((waiting s rainClose).chans.get 0).ctl.referenced = true) ∧
    (brings (waiting s heldClose) 0 0 (slot far) far ∧ carries (waiting s heldClose) 0 heldClose ∧
      heldClose.origin = .held ∧ heldClose.cls = .user) ∧
    (brings (waiting lost rainClose) 0 0 (slot far) far ∧
      ((waiting lost rainClose).chans.get 0).ctl.referenced = false) ∧
    (brings (waiting s rainClose) 0 0 (slot fresh) fresh ∧ ((waiting s rainClose).chans.get 0).ctl.st = .waiting) ∧
    (brings (moving s heldClose) 0 0 (slot fresh) fresh ∧ healthy (moving s heldClose) 0 fresh ∧
      ((moving s heldClose).chans.get 0).ctl.motion = some heldClose ∧ heldClose.target = none) ∧
    brings (moving s heldClose) 0 0 (slot { fresh with atEnd := true }) { fresh with atEnd := true } ∧
    brings (moving s heldClose) 0 0 (slot { fresh with current := 800 }) { fresh with current := 800 } ∧
    ((s.stg.image.chan.get 0).hardLimit ≤ (800 : BitVec 12).toNat ∧ (0 : Nat) < (s.stg.image.chan.get 0).hardLimit ∧
      (s.effectiveZone 0 500).1 ≠ .seal ∧ 0 < (s.stg.image.chan.get 0).tripLevel) :=
  ⟨by decide +kernel, by decide +kernel,
   ⟨brings_of (by decide +kernel), by unfold healthy; decide +kernel, by unfold carries; decide +kernel, by decide +kernel⟩,
   ⟨brings_of (by decide +kernel), by unfold carries; decide +kernel, rfl, rfl⟩,
   ⟨brings_of (by decide +kernel), by decide +kernel⟩, ⟨brings_of (by decide +kernel), by decide +kernel⟩,
   ⟨brings_of (by decide +kernel), by unfold healthy; decide +kernel, by decide +kernel⟩, brings_of (by decide +kernel),
   brings_of (by decide +kernel), by decide +kernel⟩
/-- Base 100 and bound 8: N = 40 and 96 on a CLOSING channel at 500 and at -253, FRESH_START, and an OPENING channel, a preset
close and a reversal at their ends and short of them, the reversal at its target before the sample too. -/
theorem test_meets_SampleEndsMotion :
    let s : State := atPlace (atPos run 500) 0
    let u : State := reversing (atPlace (atPos run 312) 0)
    let m : Sample := sample 96 0 125 false
    let fresh : Sample := { m with freshStart := true }
    brings (moving s rainClose) 0 0 (slot m) m ∧ healthy (moving s rainClose) 0 m ∧
    ((moving s rainClose).chans.get 0).ctl.base = some 100 ∧ moves (moving s rainClose) 0 ∧
    edgeBound s 0 0 < |deltaFrom (sample 40 0 125 false) 100| ∧ |deltaFrom m 100| ≤ edgeBound s 0 0 ∧
    ((-253 : Int) + deltaFrom m 100 < -255 ∧ -255 ≤ (-251 : Int) + deltaFrom m 100) ∧
    (brings (moving s rainClose) 0 0 (slot fresh) fresh ∧ healthy (moving s rainClose) 0 fresh ∧ rainClose.origin = .latched ∧
      ((moving s rainClose).chans.get 0).ctl.referenced = true) ∧
    (brings (moving s heldOpen) 0 0 (slot fresh) fresh ∧ ((moving s heldOpen).chans.get 0).ctl.motion = some heldOpen ∧
      heldOpen.target = none) ∧
    (brings (reversing s) 0 0 (slot m) m ∧ ((reversing s).chans.get 0).rev.target = some 312 ∧ (312 : Int) ≤ 500 - 4) ∧
    (brings u 0 0 (slot m) m ∧ healthy u 0 m ∧ brings u 0 0 (slot fresh) fresh ∧ healthy u 0 fresh ∧
      (u.chans.get 0).rev.target = some 312 ∧ (312 : Int) ≤ (u.chans.get 0).ctl.pos ∧ (312 : Int) - 4 < 312) ∧
    ((300 : Int) - 4 < 312 ∧ (300 : Int) < 312) ∧
    (((moving s presetClose).chans.get 0).ctl.motion = some presetClose ∧ presetClose.target = some 500 ∧
      (500 : Int) - 4 ≤ 500) ∧
    ((s.stg.image.chan.get 0).travel : Int) ≤ 1028 - 4 ∧ (500 : Int) - 4 < (s.stg.image.chan.get 0).travel :=
  ⟨brings_of (by decide +kernel), by unfold healthy; decide +kernel, by decide +kernel, by unfold moves; decide +kernel,
   by decide +kernel, by decide +kernel, by decide +kernel,
   ⟨brings_of (by decide +kernel), by unfold healthy; decide +kernel⟩,
   ⟨brings_of (by decide +kernel), by decide +kernel⟩, ⟨brings_of (by decide +kernel), by decide +kernel⟩,
   ⟨brings_of (by decide +kernel), by unfold healthy; decide +kernel, brings_of (by decide +kernel),
    by unfold healthy; decide +kernel, by decide +kernel⟩, by decide +kernel⟩
/-- 04 R92: a trip at its target ends on the first sample, delta -4; below its target the reversal goes on. -/
theorem test_reversal_first_sample :
    (((reversing (atPos run 312)).channelSample 0 (sample 96 0 125 false) 1 false).chans.get 0).ctl.st = .idle ∧
    (((reversing (atPos run 312)).channelSample 0 (sample 96 0 125 false) 1 false).chans.get 0).ctl.pos = 308 ∧
    (((reversing (atPos run 300)).channelSample 0 (sample 96 0 125 false) 1 false).chans.get 0).ctl.st = .reversing := by
  decide +kernel
/-- The offers to address 7 (index 6) and a second miss; a rejoin of address 1, answered and not; reply slot 1 read for it, its
frame checking and not, and reply slot 7 read for a repeated offer. -/
theorem test_meets_SlotZeroMakesRecords :
    let s : State := enroll (atPlace setup 8) fun e =>
      { e with slot0 := .rejoin 0, table := e.table.set 0 (some { node with st := .lost }) }
    let read : State := enroll (atPlace s 0) fun e => { e with slot0 := .unused, reading := some 0 }
    let offered : State := enroll (atPlace setup 6) fun e => { e with st := .offering, offer := 6, reading := some 6 }
    let m : Sample := sample 96 0 125 false
    setup.rst.active = false ∧ (atPlace setup 8).br.place = 8 ∧ setup.enr.slot0 = .unused ∧
    slotIdentity identity = some { cls := 3, tag := 7, rated := 100 } ∧ slotIdentity .silent = none ∧ (6 : Node) < 7 ∧
    ({ setup.enr with slot0 := .offer, st := .offering, miss := 1 } : EnrollmentUnit).miss < 2 ∧
    s.enr.slot0 = .rejoin 0 ∧ s.enr.table.get 0 = some { node with st := .lost } ∧ bindingStands s ∧
    s.channelOf 0 = some 0 ∧ s.channelOf 0 ≠ some 1 ∧
    (read.rst.active = false ∧ read.br.place = (0 : Node).val ∧ read.enr.reading = some 0 ∧ read.enr.st = .idle ∧
      read.enr.table.get 0 = some { node with st := .lost } ∧ bindingStands read) ∧
    (offered.br.place = (6 : Node).val ∧ offered.enr.reading = some 6 ∧ offered.enr.st = .offering ∧ offered.enr.offer = 6) ∧
    slotSample (slot m) = some m ∧ slotSample .silent = none := by unfold bindingStands bound; decide +kernel
/-- The offer to address 8, answered in slot 0 and in the reading of reply slot 8, and the third miss, after a cold start and after
an ENROLL; a channel then bound. -/
theorem test_meets_EnrollmentRunEnds :
    let s : State := enroll (atPlace State.reset 8) fun e =>
      { e with slot0 := .offer, st := .offering, offer := 7, miss := 2, settle := none }
    s.rst.active = false ∧ s.br.place = 8 ∧ s.enr.slot0 = .offer ∧ s.enr.st = .offering ∧ s.enr.offer = 7 ∧ s.enr.miss = 2 ∧
    slotIdentity identity = some { cls := 3, tag := 7, rated := 100 } ∧ slotIdentity .silent = none ∧
    s.enr.fromCold = true ∧ (enroll s fun e => { e with fromCold := false }).enr.fromCold = false ∧
    (s.chans.get 7).ctl.st = .absent ∧ bound (after (.slot0End identity) s) 7 ∧
    (s.stg.image.chan.get 7).nodeAddr = (7 : Node).val + 1 ∧
    (after (.slot0End identity) s).enr.table.get 7 = some node ∧ (atPlace s 7).br.place = 7 ∧
    (enroll s fun e => { e with reading := some 7 }).enr.reading = some 7 ∧
    slotSample (slot (sample 96 0 125 false)) = some (sample 96 0 125 false) := by unfold bound; decide +kernel
/-- A motion with no target, and a preset close to 500 at 503; a sample in the low band that UNDERVOLT does not follow. -/
theorem test_meets_targetAhead_and_low_band :
    let s : State := moving (atPlace (atPos run 507) 0) presetClose
    let low : Sample := sample 96 800 79 false
    targetAhead s 0 503 ∧ ¬targetAhead s 0 500 ∧ targetAhead (moving s rainClose) 0 503 ∧ brings s 0 0 (slot low) low ∧
    healthy s 0 low ∧ low.volt.toNat < s.stg.image.glob.uvLevel0 :=
  ⟨fun m g hm hg => by cases Option.some.inj (hm : some presetClose = some m); cases Option.some.inj (hg : some 500 = some g); decide,
   fun h => absurd (h presetClose 500 (by decide +kernel) rfl) (by decide),
   fun m g hm hg => (by cases Option.some.inj (hm : some rainClose = some m); cases hg),
   brings_of (by decide +kernel), by unfold healthy; decide +kernel⟩
/-- 02 worked case: a hard trip at the limit of 800, at p = 503; and END above the SEAL zone on a referenced channel. The fallback
zones at 16 and 17. -/
theorem test_meets_ClosingSampleTripsOnHardOrStall :
    let s : State := moving (atPlace (atPos run 507) 0) rainClose
    let m : Sample := sample 96 800 125 false
    brings s 0 0 (slot m) m ∧ healthy s 0 m ∧ (s.chans.get 0).ctl.st = .closing ∧ (s.chans.get 0).ctl.base = some 100 ∧
    (rainClose.target = none ∧ (s.chans.get 0).ctl.motion = some rainClose) ∧ m.freshStart = false ∧
    |deltaFrom m 100| ≤ edgeBound s 0 0 ∧ -255 ≤ (s.chans.get 0).ctl.pos + deltaFrom m 100 ∧
    (s.effectiveZone 0 503).1 ≠ .seal ∧ (s.stg.image.chan.get 0).hardLimit ≤ (800 : BitVec 12).toNat ∧
    ((16 : Int) ≤ 16 ∧ (16 : Int) < 17 ∧ ({ s.stg with configFault := true } : SettingsUnit).configFault = true) ∧
    (s.chans.get 0).ctl.referenced = true ∧ s.stg.configFault = false ∧
    ((s.chans.get 0).eng.blank = 0 ∧ (s.chans.get 0).prof.stroke.get (binOfPos 503 1024) = none ∧
      (s.chans.get 0).prof.visited < 64) :=
  ⟨brings_of (by decide +kernel), by unfold healthy; decide +kernel⟩
/-- Current 300 outside SEAL and inside it; blanked, and with no suspension, where a working bin of 0 against a baseline of 200 is
out of its band; an accumulator at TRIP_LEVEL and one below. -/
theorem test_meets_ClosingSampleAccumulatesOrIsSuspended :
    let s : State := moving (atPlace (atPos run 507) 0) rainClose
    let m : Sample := sample 96 300 125 false
    brings s 0 0 (slot m) m ∧ healthy s 0 m ∧ (s.chans.get 0).ctl.st = .closing ∧ (s.chans.get 0).ctl.base = some 100 ∧
    (s.chans.get 0).ctl.motion = some rainClose ∧ (m.freshStart = false ∧ m.atEnd = false) ∧
    |deltaFrom m 100| ≤ edgeBound s 0 0 ∧ -255 ≤ (s.chans.get 0).ctl.pos + deltaFrom m 100 ∧
    0 < (s.stg.image.chan.get 0).tripLevel ∧ m.current.toNat < (s.stg.image.chan.get 0).hardLimit ∧
    (s.effectiveZone 0 8).1 = .seal ∧ 0 < 1 ∧
    ((s.chans.get 0).eng.blank = 0 ∧ (s.effectiveZone 0 503).1 ≠ .seal ∧
      (voltageStage s.stg.image.glob m.volt.toNat (s.chans.get 0).sup).mask = 0 ∧ s.stg.phase ≠ .setup ∧
      (s.chans.get 0).ctl.referenced = true ∧ (s.chans.get 0).rev.level ≠ 3 ∧ (s.chans.get 0).prof.teach ≠ .running ∧
      s.stg.configFault = false) ∧
    ¬(max 0 ((200 : Int) - (s.stg.image.chan.get 0).bandLow) ≤ 0) ∧
    ((s.stg.image.chan.get 0).tripLevel ≤ accStep (ChanSettings.factory 0) 36 336 ∧
      accStep (ChanSettings.factory 0) 0 0 < (s.stg.image.chan.get 0).tripLevel) ∧
    (s.chans.get 0).prof.stroke.get (binOfPos 503 1024) = none ∧ (63 : Nat) < 64 ∧
    ((s.chans.get 0).prof.stroke.set 31 (some 214)).get 31 = some 214 :=
  ⟨brings_of (by decide +kernel), by unfold healthy; decide +kernel⟩
/-- END at p = 8 in the SEAL zone, referenced and not; a teach stroke with correction 13 and 12 and with 7 and 8 visited bins; a
record with bin 5 alone, for the bins below, at and above it. -/
theorem test_meets_ClosedEndStopsAndReferences :
    let s : State := moving (atPlace (atPos run 12) 0) rainClose
    let m : Sample := sample 96 300 125 true
    let stroke : Bins (Option Nat) := (Bins.const none).set 5 (some 214)
    brings s 0 0 (slot m) m ∧ brings (moving (atPlace run 0) heldClose) 0 0 (slot m) m ∧ healthy s 0 m ∧
    (s.chans.get 0).ctl.st = .closing ∧ (s.chans.get 0).ctl.base = some 100 ∧
    (s.chans.get 0).ctl.motion = some rainClose ∧ (m.freshStart = false ∧ m.atEnd = true) ∧
    |deltaFrom m 100| ≤ edgeBound s 0 0 ∧ -255 ≤ (s.chans.get 0).ctl.pos + deltaFrom m 100 ∧
    ((s.chans.get 0).ctl.referenced = true ∧ (s.effectiveZone 0 8).1 = .seal) ∧
    ((moving (atPlace run 0) heldClose).chans.get 0).ctl.referenced = false ∧
    (((s.stg.image.chan.get 0).driftTol : Int) < |(-13 : Int)| ∧ |(-12 : Int)| ≤ (s.stg.image.chan.get 0).driftTol) ∧
    (7 < 8 ∧ 8 ≤ 8) ∧ (stroke.get 5 = some 214 ∧ (∀ y : Fin 64, 5 < y → stroke.get y = none) ∧
      (∀ y : Fin 64, 0 ≤ y → y < 5 → stroke.get y = none)) :=
  ⟨brings_of (by decide +kernel), brings_of (by decide +kernel), by unfold healthy; decide +kernel⟩
theorem test_meets_TripArithmeticFollowsItsFormulas : 64 ≤ 64 ∧ (0 : Int) ≤ 0 ∧ ((64 : Nat) : Int) ≤ 64 ∧
    ((0 : Int) < 1 ∧ (1 : Int) < (64 : Nat)) ∧ (0 : Int) < 1 ∧ 65520 ≤ 65520 ∧ 4095 ≤ 4095 ∧
    (false = true ↔ sideMoving run 0) := by unfold sideMoving; decide +kernel
theorem test_meets_TripReversesTheChannel : ((moving run rainClose).chans.get 0).ctl.st = .closing ∧
    ((moving run rainClose).chans.get 0).prof.teach ≠ .running ∧
    ((with0 setup fun u => { u with prof := { u.prof with teach := .running } }).chans.get 0).prof.teach = .running := by
  decide +kernel
/-- A stroke whose conditions stand, four of them at their last value; and the part after reset, whose do not. -/
theorem test_meets_LearningMovesAnEighthOfTheWay :
    let s : State := with0 { run with ctx := { run.ctx with temp := 10, rough := run.stg.image.glob.learnRough, fresh := true } }
      fun u => { u with
        sup := { u.sup with strokeMask := run.stg.image.glob.learnMask }
        prof := { u.prof with visited := 8, marks := { openedInRun := true, escZero := true, teachStroke := false } } }
    4095 ≤ 4095 ∧ (run.chans.get 0).prof.marks.openedInRun = false ∧
    ((s.chans.get 0).prof.marks.openedInRun = true ∧ |(12 : Int)| ≤ ((s.stg.image.chan.get 0).driftTol : Int) ∧
      (s.chans.get 0).sup.strokeMask ≤ s.stg.image.glob.learnMask ∧ s.stg.image.glob.cold1Temp < s.ctx.temp ∧
      s.ctx.rough ≤ s.stg.image.glob.learnRough ∧ (s.chans.get 0).prof.marks.escZero = true ∧ s.stg.configFault = false ∧
      8 ≤ (s.chans.get 0).prof.visited) := by decide +kernel
/-- A valid list of known kinds, with a position in its record and one in a gap; an empty list at 16 and at 17 counts. -/
theorem test_meets_ZoneLookupUsesValidListsOnly : (∀ z ∈ Zone.factoryList, z.start ≤ z.stop) ∧
    (∀ z ∈ Zone.factoryList, z.kind ≤ 2) ∧
    zonesValid Zone.factoryList = true ∧ (∃ z ∈ Zone.factoryList, z.start ≤ 8 ∧ 8 ≤ z.stop) ∧
    (∀ z ∈ Zone.factoryList, ¬(z.start ≤ 9 ∧ 9 ≤ z.stop)) ∧ zonesValid [] = false ∧ (16 : Int) ≤ 16 ∧ (16 : Int) < 17 := by
  decide +kernel
/-- 11 R192, bit by bit: counter 103, 3.00 A, 12.5 V, END and FRESH_START, keep-alive 2, CRC-8 65h; class 3, tag 7, 1.00 A,
CRC-8 7Bh. -/
theorem test_branchFrames :
    sampleOf (bitsDown (0x06712C7D9865 : BitVec 48)) = some { counter := 103, current := 300, volt := 125, atEnd := true
                                                              hallFault := false, overtemp := false, freshStart := true, keep := 2 } ∧
    identityOf (bitsDown (0x0300000706407B : BitVec 56)) = some { cls := 3, tag := 7, rated := 100 } := by decide +kernel
/-- A CYCLE frame and a COMMAND frame of each length, and a wrong CRC-16; a REPORT and a RESPONSE. -/
theorem test_meets_FramesReadBack : (∃ p : CyclePayload, (1 : Byte) = 1 ∧ cyclePayload (cycle 3) = cyclePayload p) ∧
    (∃ p : CommandPayload, commandPayload (shortFrame 8 0) = commandPayload p) ∧
    (commandPayload (.long 6 0 0 (Oct.const 0))).length = 19 ∧ (0 : BitVec 16) ≠ frameCrc 1 (cyclePayload (cycle 3)) ∧
    ((0 : Byte) ≠ 0xA5 ∧ (2 : Byte) ≠ 1 ∧ (2 : Byte) ≠ 3 ∧ (8 : Byte) ≠ 16 ∧ (16 : Byte) ≠ 8 ∧ (16 : Byte) ≠ 19) ∧
    (∃ b : ReportBody, (Answer.mk (.report { marker := 0, fragment := 0 } (some b)) false).body =
      .report { marker := 0, fragment := 0 } (some b)) ∧
    resetResponse.body = .response (ok 3 0) :=
  ⟨⟨_, rfl, rfl⟩, ⟨_, rfl⟩, by decide +kernel, by decide +kernel, by decide, ⟨{ part := 0, entries := Oct.const 0 }, rfl⟩, rfl⟩
theorem test_meets_EveryStepKeepsTheRanges : State.reset.inRange = true ∧
    (∀ p rest, ({ State.reset with pending := [.branchCycleStart] } : State).pending = .storageFault p :: rest →
      p.inRange = true) ∧
    step { State.reset with pending := [.branchCycleStart] } = .next (after .branchCycleStart State.reset) :=
  ⟨by decide +kernel, fun _ _ h => (by cases h), rfl⟩
theorem test_meets_EveryStepKeepsTheBlocksConsistent : setup.inRange = true ∧ setup.consistent = true ∧
    (∀ p rest, ({ setup with pending := [.readCheckValue .side] } : State).pending ≠ .storageFault p :: rest) ∧
    step { setup with pending := [.readCheckValue .side] } = .next (after (.readCheckValue .side) setup) :=
  ⟨by decide +kernel, by decide +kernel, fun _ _ h => (by cases h), rfl⟩

end Sys2Proof.Tests
end

section
/-! Ranges: the checks of Machine/Ranges.lean as inequalities, block by block, and what keeps the settings image in range. -/

namespace Sys2Proof

/-! ### The range checks as inequalities -/

@[simp] theorem upTo_iff (hi v : Nat) : upTo hi v = true ↔ v ≤ hi := decide_eq_true_iff

@[simp] theorem within_iff (lo hi v : Int) : within lo hi v = true ↔ lo ≤ v ∧ v ≤ hi := by simp [within]

@[simp] theorem absentOr_none {α : Type} (p : α → Bool) : absentOr p none = true := rfl

@[simp] theorem absentOr_some {α : Type} (p : α → Bool) (x : α) : absentOr p (some x) = p x := rfl

/-- A clamped value stands in its range. -/
theorem clamp_within {lo hi : Int} (h : lo ≤ hi) (v : Int) : lo ≤ clamp lo hi v ∧ clamp lo hi v ≤ hi := by
  unfold clamp; split
  · omega
  · split <;> omega

/-! ### Settings -/

theorem ChanSetting.mem_all (id : ChanSetting) : id ∈ ChanSetting.all := by cases id <;> decide

theorem GlobSetting.mem_all (id : GlobSetting) : id ∈ GlobSetting.all := by cases id <;> decide

theorem ChanSettings.inRange_iff (s : ChanSettings) :
    s.inRange = true ↔ ∀ id : ChanSetting, id.range.1 ≤ s.read id ∧ s.read id ≤ id.range.2 := by
  simp only [ChanSettings.inRange, List.all_eq_true, within_iff]
  exact ⟨fun h id => h id id.mem_all, fun h id _ => h id⟩

theorem GlobSettings.inRange_iff (s : GlobSettings) :
    s.inRange = true ↔ ∀ id : GlobSetting, id.range.1 ≤ s.read id ∧ s.read id ≤ id.range.2 := by
  simp only [GlobSettings.inRange, List.all_eq_true, within_iff]
  exact ⟨fun h id => h id id.mem_all, fun h id _ => h id⟩

/-- A value of the setting's range, put into the setting, is read back. -/
theorem ChanSettings.read_put_self (s : ChanSettings) (id : ChanSetting) {v : Int} (h : id.range.1 ≤ v) :
    (s.put id v).read id = v := by
  cases id <;> exact Int.toNat_of_nonneg (le_trans (by decide) h)

theorem ChanSettings.read_put_ne (s : ChanSettings) {id k : ChanSetting} (v : Int) (h : k ≠ id) :
    (s.put id v).read k = s.read k := by
  cases id <;> cases k <;> first | rfl | exact absurd rfl h

/-- A value of the setting's range, put into the setting, is read back; the temperatures are signed. -/
theorem GlobSettings.read_put_self (s : GlobSettings) (id : GlobSetting) {v : Int} (h : id.range.1 ≤ v) :
    (s.put id v).read id = v := by
  cases id <;> first | rfl | exact Int.toNat_of_nonneg (le_trans (by decide) h)

theorem GlobSettings.read_put_ne (s : GlobSettings) {id k : GlobSetting} (v : Int) (h : k ≠ id) :
    (s.put id v).read k = s.read k := by
  cases id <;> cases k <;> first | rfl | exact absurd rfl h

theorem ChanSettings.inRange_put {s : ChanSettings} {id : ChanSetting} {v : Int} (hs : s.inRange = true)
    (hv : id.range.1 ≤ v ∧ v ≤ id.range.2) : (s.put id v).inRange = true := by
  rw [ChanSettings.inRange_iff] at *
  intro k
  by_cases h : k = id
  · subst h; rw [s.read_put_self k hv.1]; exact hv
  · rw [s.read_put_ne v h]; exact hs k

theorem GlobSettings.inRange_put {s : GlobSettings} {id : GlobSetting} {v : Int} (hs : s.inRange = true)
    (hv : id.range.1 ≤ v ∧ v ≤ id.range.2) : (s.put id v).inRange = true := by
  rw [GlobSettings.inRange_iff] at *
  intro k
  by_cases h : k = id
  · subst h; rw [s.read_put_self k hv.1]; exact hv
  · rw [s.read_put_ne v h]; exact hs k

theorem ChanSettings.inRange_write {s : ChanSettings} (hs : s.inRange = true) (id : ChanSetting) (v : Int) :
    (s.write id v).inRange = true :=
  ChanSettings.inRange_put hs (clamp_within (by cases id <;> decide) v)

theorem GlobSettings.inRange_write {s : GlobSettings} (hs : s.inRange = true) (id : GlobSetting) (v : Int) :
    (s.write id v).inRange = true :=
  GlobSettings.inRange_put hs (clamp_within (by cases id <;> decide) v)

/-! ### The settings image -/

theorem Image.inRange_iff (i : Image) : i.inRange = true ↔
    (∀ c, (i.chan.get c).inRange = true) ∧ (∀ c, zonesInRange (i.zones.get c) = true) ∧
    (∀ (c : Chan) (b : Fin 64), (i.baseline.get c).get b ≤ 4095) ∧ i.glob.inRange = true := by
  simp only [Image.inRange, Bool.and_eq_true, Oct.allGood_iff, Bins.allGood_iff, upTo_iff, and_assoc]

theorem Image.inRange_factory : Image.factory.inRange = true := by decide +kernel

end Sys2Proof
end

section
/-! Ranges: every value of the state in its range, block by block, and the operations several blocks share. -/

namespace Sys2Proof.Machine

/-! ### The state's ranges, block by block -/

/-- What `State.inRange` checks, one field per block. -/
structure State.InRange (s : State) : Prop where
  unit : ∀ c, (s.chans.get c).inRange = true
  ctx : s.ctx.inRange = true
  queue : ∀ e ∈ s.arb.queue, e.motion.inRange = true
  stagger : s.arb.stagger ≤ 16
  node : ∀ a, (s.br.nodes.get a).inRange = true
  place : s.br.place ≤ 9
  enr : s.enr.inRange = true
  trk : s.trk.inRange = true
  stg : s.stg.inRange = true
  rst : s.rst.inRange = true

theorem State.inRange_iff (s : State) : s.inRange = true ↔ s.InRange := by
  simp only [State.inRange, SlotArbiter.valuesInRange, BranchPort.inRange, Bool.and_eq_true, Oct.allGood_iff, List.all_eq_true,
    upTo_iff]
  constructor
  · rintro ⟨⟨⟨⟨⟨⟨⟨unit, ctx⟩, queue, stagger⟩, node, place⟩, enr⟩, trk⟩, stg⟩, rst⟩
    exact ⟨unit, ctx, queue, stagger, node, place, enr, trk, stg, rst⟩
  · intro h
    exact ⟨⟨⟨⟨⟨⟨⟨h.unit, h.ctx⟩, h.queue, h.stagger⟩, h.node, h.place⟩, h.enr⟩, h.trk⟩, h.stg⟩, h.rst⟩

/-! ### The records of a channel -/

theorem ChannelUnit.inRange_iff (u : ChannelUnit) : u.inRange = true ↔
    u.ctl.inRange = true ∧ u.eng.inRange = true ∧ u.prof.inRange = true ∧ u.rev.inRange = true ∧ u.sup.inRange = true ∧
    u.readCopy.inRange = true := by simp only [ChannelUnit.inRange, Bool.and_eq_true, and_assoc]

theorem ChannelRecord.inRange_iff (r : ChannelRecord) : r.inRange = true ↔
    (-255 ≤ r.pos ∧ r.pos ≤ 4095) ∧ absentOr Motion.inRange r.motion = true := by simp [ChannelRecord.inRange]

theorem TripRecord.inRange_iff (r : TripRecord) : r.inRange = true ↔
    (-255 ≤ r.pos ∧ r.pos ≤ 4095) ∧ r.bin ≤ 63 ∧ r.f ≤ 4095 ∧ r.r ≤ 4095 ∧ r.t ≤ 1023 ∧ r.a ≤ 4095 ∧ r.level ≤ 3 ∧
    r.speed ≤ 255 ∧ r.stamp ≤ 65535 := by simp only [TripRecord.inRange, Bool.and_eq_true, upTo_iff, within_iff, and_assoc]

theorem EngineContext.inRange_iff (e : EngineContext) : e.inRange = true ↔
    e.f16 ≤ 65520 ∧ e.acc ≤ 4095 ∧ e.blank ≤ 31 ∧ e.peak ≤ 255 ∧ e.trip.inRange = true := by
  simp only [EngineContext.inRange, Bool.and_eq_true, upTo_iff, and_assoc]

theorem ProfileContext.inRange_iff (p : ProfileContext) : p.inRange = true ↔
    (∀ b, p.working.get b ≤ 4095) ∧ (∀ b, absentOr (upTo 4095) (p.stroke.get b) = true) ∧ p.visited ≤ 64 ∧
    p.teachVisited ≤ 64 := by
  simp only [ProfileContext.inRange, Bool.and_eq_true, Bins.allGood_iff, upTo_iff, and_assoc]

theorem ReversalContext.inRange_iff (r : ReversalContext) : r.inRange = true ↔
    absentOr (within (-255) 4095) r.target = true ∧ r.level ≤ 3 := by
  simp only [ReversalContext.inRange, Bool.and_eq_true, upTo_iff]

theorem SupplyContext.inRange_iff (u : SupplyContext) : u.inRange = true ↔
    u.lowRun ≤ 4 ∧ u.highRun ≤ 4 ∧ u.mask ≤ 31 ∧ absentOr (upTo 255) u.prev = true ∧ u.strokeMask ≤ 1023 := by
  simp only [SupplyContext.inRange, Bool.and_eq_true, upTo_iff, and_assoc]

theorem ContextUnit.inRange_iff (x : ContextUnit) : x.inRange = true ↔
    x.speed ≤ 255 ∧ x.rough ≤ 15 ∧ -40 ≤ x.temp ∧ x.temp ≤ 87 := by
  simp only [ContextUnit.inRange, Bool.and_eq_true, upTo_iff, within_iff, and_assoc]

theorem NodeContext.inRange_iff (n : NodeContext) : n.inRange = true ↔
    n.since ≤ 255 ∧ n.badRun ≤ 63 ∧ n.winPos ≤ 511 ∧ n.winBad ≤ 512 ∧ n.grade ≤ 7 ∧ n.worst ≤ 7 := by
  simp only [NodeContext.inRange, Bool.and_eq_true, upTo_iff, and_assoc]

theorem EnrollmentUnit.inRange_iff (e : EnrollmentUnit) : e.inRange = true ↔ e.miss ≤ 3 ∧ e.rejoinCount ≤ 64 := by
  simp only [EnrollmentUnit.inRange, Bool.and_eq_true, upTo_iff]

theorem TrunkPort.inRange_iff (t : TrunkPort) : t.inRange = true ↔
    t.answers.length ≤ 4 ∧ t.collector.inRange = true ∧ absentOr (fun r => within 1 4 r.next) t.response = true := by
  simp only [TrunkPort.inRange, Bool.and_eq_true, upTo_iff, and_assoc]

theorem SettingsUnit.inRange_iff (u : SettingsUnit) : u.inRange = true ↔
    u.image.inRange = true ∧ u.store.image.inRange = true ∧ absentOr StoreWrite.inRange u.write = true ∧ u.scanPos ≤ 63 := by
  simp only [SettingsUnit.inRange, Bool.and_eq_true, upTo_iff, and_assoc]

theorem ResetUnit.inRange_iff (r : ResetUnit) : r.inRange = true ↔ r.lowCount ≤ 4 ∧ r.highCount ≤ 4 := by
  simp only [ResetUnit.inRange, Bool.and_eq_true, upTo_iff]

section
variable {s : State}

theorem State.InRange.ctl (h : s.InRange) (c : Chan) : (s.chans.get c).ctl.inRange = true :=
  ((ChannelUnit.inRange_iff _).mp (h.unit c)).1
theorem State.InRange.eng (h : s.InRange) (c : Chan) : (s.chans.get c).eng.inRange = true :=
  ((ChannelUnit.inRange_iff _).mp (h.unit c)).2.1
theorem State.InRange.prof (h : s.InRange) (c : Chan) : (s.chans.get c).prof.inRange = true :=
  ((ChannelUnit.inRange_iff _).mp (h.unit c)).2.2.1
theorem State.InRange.rev (h : s.InRange) (c : Chan) : (s.chans.get c).rev.inRange = true :=
  ((ChannelUnit.inRange_iff _).mp (h.unit c)).2.2.2.1
theorem State.InRange.sup (h : s.InRange) (c : Chan) : (s.chans.get c).sup.inRange = true :=
  ((ChannelUnit.inRange_iff _).mp (h.unit c)).2.2.2.2.1
theorem State.InRange.readCopy (h : s.InRange) (c : Chan) : (s.chans.get c).readCopy.inRange = true :=
  ((ChannelUnit.inRange_iff _).mp (h.unit c)).2.2.2.2.2
theorem State.InRange.pos (h : s.InRange) (c : Chan) : -255 ≤ (s.chans.get c).ctl.pos ∧ (s.chans.get c).ctl.pos ≤ 4095 :=
  ((ChannelRecord.inRange_iff _).mp (h.ctl c)).1
theorem State.InRange.image (h : s.InRange) : s.stg.image.inRange = true := ((SettingsUnit.inRange_iff _).mp h.stg).1
theorem State.InRange.cset (h : s.InRange) (c : Chan) (id : ChanSetting) :
    id.range.1 ≤ (s.cset c).read id ∧ (s.cset c).read id ≤ id.range.2 :=
  (ChanSettings.inRange_iff _).mp (((Image.inRange_iff _).mp h.image).1 c) id
theorem State.InRange.baseline (h : s.InRange) (c : Chan) (b : Fin 64) : (s.stg.image.baseline.get c).get b ≤ 4095 :=
  ((Image.inRange_iff _).mp h.image).2.2.1 c b
theorem State.InRange.glob (h : s.InRange) (id : GlobSetting) :
    id.range.1 ≤ s.glob.read id ∧ s.glob.read id ≤ id.range.2 :=
  (GlobSettings.inRange_iff _).mp ((Image.inRange_iff _).mp h.image).2.2.2 id

/-! ### Updates -/

theorem State.InRange.setUnit (h : s.InRange) {c : Chan} {u : ChannelUnit} (hu : u.inRange = true) :
    State.InRange { s with chans := s.chans.set c u } :=
  { h with unit := (Oct.allGood_iff _ _).mp (Oct.allGood_set c ((Oct.allGood_iff _ _).mpr h.unit) hu) }

theorem State.InRange.modChan (h : s.InRange) {c : Chan} {f : ChannelUnit → ChannelUnit}
    (hf : (f (s.chans.get c)).inRange = true) : (s.modChan c f).InRange := h.setUnit hf

theorem State.InRange.modCtl (h : s.InRange) {c : Chan} {f : ChannelRecord → ChannelRecord}
    (hf : (f (s.chans.get c).ctl).inRange = true) : (s.modCtl c f).InRange :=
  h.modChan ((ChannelUnit.inRange_iff _).mpr ⟨hf, ((ChannelUnit.inRange_iff _).mp (h.unit c)).2⟩)

theorem State.InRange.modEng (h : s.InRange) {c : Chan} {f : EngineContext → EngineContext}
    (hf : (f (s.chans.get c).eng).inRange = true) : (s.modEng c f).InRange := by
  have ⟨ctl, _, rest⟩ := (ChannelUnit.inRange_iff _).mp (h.unit c)
  exact h.modChan ((ChannelUnit.inRange_iff _).mpr ⟨ctl, hf, rest⟩)

theorem State.InRange.modProf (h : s.InRange) {c : Chan} {f : ProfileContext → ProfileContext}
    (hf : (f (s.chans.get c).prof).inRange = true) : (s.modProf c f).InRange := by
  have ⟨ctl, eng, _, rest⟩ := (ChannelUnit.inRange_iff _).mp (h.unit c)
  exact h.modChan ((ChannelUnit.inRange_iff _).mpr ⟨ctl, eng, hf, rest⟩)

theorem State.InRange.modRev (h : s.InRange) {c : Chan} {f : ReversalContext → ReversalContext}
    (hf : (f (s.chans.get c).rev).inRange = true) : (s.modRev c f).InRange := by
  have ⟨ctl, eng, prof, _, rest⟩ := (ChannelUnit.inRange_iff _).mp (h.unit c)
  exact h.modChan ((ChannelUnit.inRange_iff _).mpr ⟨ctl, eng, prof, hf, rest⟩)

theorem State.InRange.modSup (h : s.InRange) {c : Chan} {f : SupplyContext → SupplyContext}
    (hf : (f (s.chans.get c).sup).inRange = true) : (s.modSup c f).InRange := by
  have ⟨ctl, eng, prof, rev, _, rest⟩ := (ChannelUnit.inRange_iff _).mp (h.unit c)
  exact h.modChan ((ChannelUnit.inRange_iff _).mpr ⟨ctl, eng, prof, rev, hf, rest⟩)

theorem State.InRange.modNode (h : s.InRange) {a : Node} {f : NodeContext → NodeContext}
    (hf : (f (s.br.nodes.get a)).inRange = true) : (s.modNode a f).InRange :=
  { h with node := (Oct.allGood_iff _ _).mp (Oct.allGood_set a ((Oct.allGood_iff _ _).mpr h.node) hf) }

theorem State.InRange.modImage (h : s.InRange) {f : Image → Image} (hf : (f s.stg.image).inRange = true) :
    (s.modImage f).InRange :=
  { h with stg := (SettingsUnit.inRange_iff _).mpr ⟨hf, ((SettingsUnit.inRange_iff _).mp h.stg).2⟩ }

theorem State.InRange.withEnr (h : s.InRange) {e : EnrollmentUnit} (he : e.inRange = true) :
    State.InRange { s with enr := e } := { h with enr := he }

theorem State.InRange.foldl {op : State → Chan → State} (hop : ∀ (s : State) (c : Chan), s.InRange → (op s c).InRange)
    (h : s.InRange) : (octIndexes.foldl op s).InRange := by
  induction octIndexes generalizing s with
  | nil => exact h
  | cons c l ih => exact ih (hop s c h)

/-! ### Shared operations -/

theorem EngineContext.inRange_closeStroke {e : EngineContext} (h : e.inRange = true) : (closeStroke e).inRange = true := by
  rw [EngineContext.inRange_iff] at *
  exact ⟨h.1, Nat.zero_le _, Nat.zero_le _, h.2.2.2⟩

theorem ChannelUnit.inRange_leave {u : ChannelUnit} (h : u.inRange = true) (dst : ChanState) : 
    (ChannelUnit.leave u dst).inRange = true := by
  rw [ChannelUnit.inRange_iff] at *
  obtain ⟨ctl, eng, prof, rev, sup, copy⟩ := h
  refine ⟨(ChannelRecord.inRange_iff _).mpr ⟨((ChannelRecord.inRange_iff _).mp ctl).1, rfl⟩, ?_, prof,
    (ReversalContext.inRange_iff _).mpr ⟨rfl, ((ReversalContext.inRange_iff _).mp rev).2⟩, sup, copy⟩
  show (ChannelUnit.engLeaving u).inRange = true
  unfold ChannelUnit.engLeaving; split
  · exact EngineContext.inRange_closeStroke eng
  · exact eng

theorem State.InRange.vacate (h : s.InRange) (c : Chan) (dst : ChanState) : (s.vacate c dst).InRange :=
  { h.setUnit (ChannelUnit.inRange_leave (h.unit c) dst) with
    queue := fun e he => h.queue e (List.mem_filter.mp he).1 }

theorem State.InRange.teachFail (h : s.InRange) (c : Chan) (why : TeachReason) : (s.teachFail c why).InRange := by
  unfold State.teachFail; split
  · refine h.modProf ?_
    have ⟨working, stroke, visited, _⟩ := (ProfileContext.inRange_iff _).mp (h.prof c)
    refine (ProfileContext.inRange_iff _).mpr ⟨working, stroke, visited, ?_⟩
    dsimp only; split
    · exact visited
    · exact Nat.zero_le _
  · exact h

theorem State.InRange.refuse (h : s.InRange) (c : Chan) (why : RefusalReason) : (s.refuse c why).InRange := h.modCtl (h.ctl c)

theorem State.InRange.setCauses (h : s.InRange) (c : Chan) (k : Causes) : (s.setCauses c k).InRange := by
  have h1 : (s.modCtl c fun r => { r with causes := k }).InRange := h.modCtl (h.ctl c)
  simp only [State.setCauses]
  split
  · exact (h1.teachFail c _).vacate c _
  · split
    · exact h1.modCtl (h1.ctl c)
    · exact h1

theorem State.InRange.loseReference (h : s.InRange) (c : Chan) : (s.loseReference c).InRange := by
  have h1 : (s.modCtl c fun r => { r with referenced := false }).InRange := h.modCtl (h.ctl c)
  unfold State.loseReference
  split
  · dsimp only
    split
    · split
      · exact ((h1.teachFail c _).vacate c _).refuse c _
      · exact h1
    · exact h1
  · exact h

theorem SupplyContext.inRange_rebound {u : SupplyContext} (h : u.inRange = true) : (SupplyContext.rebound u).inRange = true := by
  rw [SupplyContext.inRange_iff] at *
  exact ⟨Nat.zero_le _, Nat.zero_le _, Nat.zero_le _, rfl, h.2.2.2.2⟩

theorem State.InRange.becomeBound (h : s.InRange) (c : Chan) (r : NodeRecord) : (s.becomeBound c r).InRange := by
  unfold State.becomeBound
  refine h.modChan ?_
  simp only [ChannelUnit.inRange_iff, ChannelRecord.inRange_iff]
  exact ⟨⟨by decide, ((ChannelRecord.inRange_iff _).mp (h.ctl c)).2⟩, h.eng c, h.prof c, h.rev c,
    SupplyContext.inRange_rebound (h.sup c), h.readCopy c⟩

theorem State.InRange.becomeUnbound (h : s.InRange) (c : Chan) : (s.becomeUnbound c).InRange := by
  have h1 := (h.teachFail c .inhibited).vacate c .absent
  exact h1.modChan ((ChannelUnit.inRange_iff _).mpr ⟨h1.ctl c, h1.eng c, h1.prof c, h1.rev c,
    SupplyContext.inRange_rebound (h1.sup c), h1.readCopy c⟩)

theorem State.InRange.judgeBinding (old : Oct Nat) (h : s.InRange) (c : Chan) : (s.judgeBinding old c).InRange := by
  simp only [State.judgeBinding]
  split
  · split
    · split
      · exact (h.becomeUnbound c).becomeBound c _
      · exact h.becomeBound c _
    · split
      · exact h.becomeUnbound c
      · exact h
  · split
    · exact h.becomeUnbound c
    · exact h

theorem State.InRange.rebind (h : s.InRange) (old : Oct Nat) : (s.rebind old).InRange :=
  h.foldl fun _ c hs => hs.judgeBinding old c

theorem State.InRange.joinQueue (h : s.InRange) (c : Chan) {m : Motion} (hm : m.inRange = true) : (s.joinQueue c m).InRange := by
  have h1 : (s.modCtl c fun r => { r with
      st := .waiting, latched := Latched.none
      hold := if m.origin = .held then some (s.inMs s.glob.holdTimeout) else none }).InRange := h.modCtl (h.ctl c)
  refine { h1 with queue := fun e he => ?_ }
  rcases List.mem_append.mp he with he | he
  · exact h.queue e he
  · rw [List.mem_singleton.mp he]; exact hm

theorem State.InRange.modEntry (h : s.InRange) (c : Chan) {f : Motion → Motion} (hf : ∀ m, m.inRange = true → (f m).inRange = true) :
    (s.modEntry c f).InRange := by
  refine { h with queue := fun e he => ?_ }
  obtain ⟨x, hx, rfl⟩ := List.mem_map.mp he
  split
  · exact hf _ (h.queue x hx)
  · exact h.queue x hx

theorem State.InRange.copyBaseline (h : s.InRange) (c : Chan) : (s.copyBaseline c).InRange :=
  h.modProf ((ProfileContext.inRange_iff _).mpr ⟨h.baseline c, ((ProfileContext.inRange_iff _).mp (h.prof c)).2⟩)

end

end Sys2Proof.Machine
end

section
/-! Ranges: the order gate, the sample path, the engine and the profile store keep every value in its range. -/

namespace Sys2Proof.Machine

section
variable {s : State}

/-! ### The order gate (01 R18 to R25) -/

/-- The target of a PRESET stands in the range of a target: it is at most the travel (01 R21). -/
theorem State.InRange.presetTarget (h : s.InRange) (c : Chan) (o : Order) :
    0 ≤ s.presetTarget c o ∧ s.presetTarget c o ≤ 4095 := by
  have ht : (0 : Int) ≤ (s.cset c).travel := Int.natCast_nonneg _
  have hmax : ((s.cset c).travel : Int) ≤ 4032 := (h.cset c .travel).2
  have := clamp_within ht ((s.cset c).presetOf o.preset)
  exact ⟨this.1, by unfold State.presetTarget; omega⟩

/-- The target that an order gives a motion: a preset target, or none. -/
theorem State.InRange.orderTarget (h : s.InRange) (c : Chan) (o : Order) :
    absentOr (within 0 4095) (if o.kind = .preset then some (s.presetTarget c o) else none) = true := by
  split
  · simpa using h.presetTarget c o
  · rfl

theorem State.InRange.heldEnd (h : s.InRange) (c : Chan) (o : Order) : (s.heldEnd c o).InRange := by
  unfold State.heldEnd
  split
  · split
    · exact h.vacate c _
    · exact h
  · exact h

theorem State.InRange.endCarried (h : s.InRange) (c : Chan) : (s.endCarried c).InRange := by
  unfold State.endCarried; split
  · exact h
  · exact h.vacate c _

theorem State.InRange.modCarried (h : s.InRange) (c : Chan) {f : Motion → Motion}
    (hf : ∀ m, m.inRange = true → (f m).inRange = true) : (s.modCarried c f).InRange := by
  unfold State.modCarried; split
  · exact h.modEntry c hf
  · refine h.modCtl ?_
    have hc := (ChannelRecord.inRange_iff _).mp (h.ctl c)
    refine (ChannelRecord.inRange_iff _).mpr ⟨hc.1, ?_⟩
    cases hm : (s.chans.get c).ctl.motion with
    | none => rfl
    | some m => exact hf m (by simpa [hm] using hc.2)

theorem State.InRange.sameDirection (h : s.InRange) (c : Chan) (o : Order) (m : Motion) : (s.sameDirection c o m).InRange := by
  unfold State.sameDirection; split
  · split
    · exact h.modCtl (h.ctl c)
    · exact h
  · have h1 := h.modCarried c (f := fun m => { m with origin := .latched, cls := o.source
                                                      target := if o.kind = .preset then some (s.presetTarget c o) else none })
      fun _ _ => h.orderTarget c o
    exact h1.modCtl (h1.ctl c)

theorem State.InRange.actInMotion (h : s.InRange) (c : Chan) (o : Order) : (s.actInMotion c o).InRange := by
  have joins (d : Dir) : ((s.endCarried c).joinQueue c (s.motionOf c o d)).InRange :=
    (h.endCarried c).joinQueue c (h.orderTarget c o)
  unfold State.actInMotion; split
  · exact h.endCarried c
  · split
    · exact h
    · split
      · exact joins _
      · split
        · exact h.sameDirection c o _
        · exact joins _

theorem State.InRange.takeOrder (h : s.InRange) (c : Chan) (o : Order) : (s.takeOrder c o).InRange := by
  have h1 := h.teachFail c .order
  unfold State.takeOrder; dsimp only; split
  · exact h1.refuse c _
  · split
    · exact h1.endCarried c
    · exact h1.actInMotion c o

theorem State.InRange.orderGate (h : s.InRange) (c : Chan) (o : Order) : (s.orderGate c o).InRange := by
  have h1 : (s.modCtl c fun r => { r with lastOrder := o }).InRange := h.modCtl (h.ctl c)
  unfold State.orderGate; dsimp only; split
  · exact (h1.heldEnd c o).takeOrder c o
  · exact h1.heldEnd c o

theorem State.InRange.orderGates (h : s.InRange) (orders : Oct Byte) : (s.orderGates orders).InRange :=
  h.foldl (op := fun s c => s.orderGate c (orderOfByte (orders.get c))) fun _ c hs => hs.orderGate c _

theorem State.InRange.endHeld (h : s.InRange) (c : Chan) : (s.endHeld c).InRange := by
  have stop : (s.modCtl c fun r => { r with hold := none }).InRange := h.modCtl (h.ctl c)
  unfold State.endHeld; split
  · split
    · exact h.vacate c _
    · exact stop
  · exact stop

/-! ### A good sample at the channel controller (01 R9 to R16) -/

/-- A new position in its range. -/
theorem State.InRange.setPos (h : s.InRange) {c : Chan} {f : ChannelRecord → ChannelRecord} {p : Int}
    (hp : -255 ≤ p ∧ p ≤ 4095) (hpos : (f (s.chans.get c).ctl).pos = p)
    (hm : (f (s.chans.get c).ctl).motion = (s.chans.get c).ctl.motion) : (s.modCtl c f).InRange :=
  h.modCtl ((ChannelRecord.inRange_iff _).mpr ⟨hpos ▸ hp, hm ▸ ((ChannelRecord.inRange_iff _).mp (h.ctl c)).2⟩)

theorem State.InRange.sampleCauses (h : s.InRange) (c : Chan) (m : Sample) (mismatch : Bool) :
    (s.sampleCauses c m mismatch).InRange := by
  have h1 := h.setCauses c { (s.chan c).ctl.causes with
      nodeFault := m.hallFault || m.overtemp || mismatch, undervolt := (s.chan c).sup.undervolt }
  unfold State.sampleCauses; dsimp only; split
  · exact h1.loseReference c
  · exact h1

theorem State.InRange.rebase (h : s.InRange) (c : Chan) (m : Sample) : (s.rebase c m).InRange := h.modCtl (h.ctl c)

theorem State.InRange.driftStop (h : s.InRange) (c : Chan) : (s.driftStop c).InRange := by
  unfold State.driftStop; split
  · exact (h.teachFail c _).vacate c _
  · exact h

theorem State.InRange.movePosition (h : s.InRange) (c : Chan) (delta : Int) : (s.movePosition c delta).InRange := by
  unfold State.movePosition; dsimp only; split
  · exact ((h.setPos (p := -255) (by decide) rfl rfl).driftStop c).loseReference c
  · exact h.setPos (clamp_within (by decide) _) rfl rfl

theorem State.InRange.sampleCounter (h : s.InRange) (c : Chan) (m : Sample) (k : Nat) : (s.sampleCounter c m k).InRange := by
  unfold State.sampleCounter; dsimp only; split
  · split
    · exact (h.rebase c m).loseReference c
    · exact h.rebase c m
  · split
    · exact h.rebase c m
    · split
      · exact ((h.rebase c m).driftStop c).loseReference c
      · exact (h.rebase c m).movePosition c _

theorem ReversalContext.inRange_clearLevel {r : ReversalContext} (h : r.inRange = true) :
    (ReversalContext.clearLevel r).inRange = true := by
  rw [ReversalContext.inRange_iff] at *; exact ⟨h.1, Nat.zero_le _⟩

theorem State.InRange.reversalClosedEnd (h : s.InRange) (c : Chan) : (s.reversalClosedEnd c).InRange := by
  unfold State.reversalClosedEnd; split
  · exact h.modRev (ReversalContext.inRange_clearLevel (h.rev c))
  · exact h

theorem State.InRange.unreferencedEnd (h : s.InRange) (c : Chan) : (s.unreferencedEnd c).InRange :=
  State.InRange.reversalClosedEnd ((h.vacate c .idle).setPos (p := 0) (by decide) rfl rfl) c

theorem State.InRange.endTests (h : s.InRange) (c : Chan) (atEnd : Bool) (before : Int) :
    (s.endTests c atEnd before).InRange := by
  have stop := h.vacate c .idle
  unfold State.endTests; dsimp only; split
  · split <;> split <;> first | exact stop | exact h
  · split
    · exact stop
    · split
      · exact h.unreferencedEnd c
      · exact h
  · split <;> first | exact stop | exact h
  · exact h

theorem State.InRange.channelSample (h : s.InRange) (c : Chan) (m : Sample) (k : Nat) (mismatch : Bool) :
    (s.channelSample c m k mismatch).InRange := ((h.sampleCauses c m mismatch).sampleCounter c m k).endTests c _ _

theorem State.InRange.blindStop (h : s.InRange) (c : Chan) : (s.blindStop c).InRange := by
  have h1 := (h.teachFail c .blind).vacate c .idle
  exact h1.modCtl (h1.ctl c)

/-! ### The profile store (03) -/

theorem ProfileContext.inRange_enter {p : ProfileContext} (h : p.inRange = true) (b : Fin 64) {f : Nat} (hf : f ≤ 4095)
    (blanked masked : Bool) : (ProfileContext.enter p b f blanked masked).inRange = true := by
  have ⟨working, stroke, visited, teachVisited⟩ := (ProfileContext.inRange_iff _).mp h
  have put {v : Nat} (hv : v ≤ 4095) (x : Fin 64) : absentOr (upTo 4095) ((p.stroke.set b (some v)).get x) = true := by
    rw [Bins.get_set]; split
    · exact (upTo_iff _ _).mpr hv
    · exact stroke x
  unfold ProfileContext.enter; split
  · exact h
  · split
    · exact (ProfileContext.inRange_iff _).mpr ⟨working, put hf, min_le_left _ _, teachVisited⟩
    · next old hold =>
      have hb := stroke b
      rw [hold] at hb
      exact (ProfileContext.inRange_iff _).mpr ⟨working, put (max_le ((upTo_iff _ _).mp hb) hf), visited, teachVisited⟩

/-- A learning update stands in the band's range, which ends at 4095 (03 R66, R77). -/
theorem learnBin_le {cs : ChanSettings} {b w : Nat} (hb : b ≤ 4095) (hw : w ≤ 4095) (peak : Option Nat) :
    learnBin cs b w peak ≤ 4095 := by
  have hto : bandTo cs b ≤ 4095 := min_le_left _ _
  have hfrom : bandFrom cs b ≤ 4095 := le_trans (Nat.sub_le _ _) hb
  unfold learnBin; split
  · exact hw
  · simp only [clamp]
    split
    · omega
    · split <;> omega

theorem State.InRange.learn (h : s.InRange) (c : Chan) (k : Int) : (s.learn c k).InRange := by
  have ⟨working, rest⟩ := (ProfileContext.inRange_iff _).mp (h.prof c)
  unfold State.learn; split
  · refine h.modProf ((ProfileContext.inRange_iff _).mpr ⟨fun b => ?_, rest⟩)
    rw [Bins.get_ofFn]
    exact learnBin_le (h.baseline c b) (working b) _
  · exact h

theorem Bins.mem_toList {α : Type} {o : Bins α} {p : α → Prop} (h : ∀ b : Fin 64, p (o.get b)) : ∀ x ∈ Bins.toList o, p x := by
  intro x hx
  obtain ⟨row, hrow, hx⟩ := List.mem_flatMap.mp hx
  rw [Oct.toList_eq] at hrow hx
  obtain ⟨i, -, rfl⟩ := List.mem_map.mp hrow
  obtain ⟨j, -, rfl⟩ := List.mem_map.mp hx
  have := h ⟨8 * i.val + j.val, by omega⟩
  have e1 : (8 * i.val + j.val) / 8 = i.val := by omega
  have e2 : (8 * i.val + j.val) % 8 = j.val := by omega
  simpa [Bins.get, e1, e2] using this

/-- A baseline bin made by a teach stroke is a peak of the stroke record, or 0 (03 R82, R83). -/
theorem filledBin_le {stroke : Bins (Option Nat)} (h : ∀ b, absentOr (upTo 4095) (stroke.get b) = true) (b : Fin 64) :
    filledBin stroke b ≤ 4095 := by
  have peak : ∀ v : Nat, some v ∈ Bins.toList stroke → v ≤ 4095 := fun v hv => by
    simpa using Bins.mem_toList (p := fun x => absentOr (upTo 4095) x = true) h _ hv
  unfold filledBin; dsimp only; split
  · next v hv =>
    obtain ⟨x, hx, rfl⟩ := List.exists_of_findSome?_eq_some hv
    exact peak v (List.mem_of_mem_drop hx)
  · cases hv : ((Bins.toList stroke).reverse.findSome? fun x => x) with
    | none => exact Nat.zero_le _
    | some v =>
      obtain ⟨x, hx, rfl⟩ := List.exists_of_findSome?_eq_some hv
      exact peak v (List.mem_reverse.mp hx)

theorem Image.inRange_setBaseline {i : Image} (h : i.inRange = true) (c : Chan) {bins : Bins Nat} (hb : ∀ b, bins.get b ≤ 4095) :
    Image.inRange { i with baseline := i.baseline.set c bins } = true := by
  rw [Image.inRange_iff] at *
  obtain ⟨chan, zones, baseline, glob⟩ := h
  refine ⟨chan, zones, fun d => ?_, glob⟩
  rw [Oct.get_set]; split
  · exact hb
  · exact baseline d

theorem State.InRange.teachEnd (h : s.InRange) (c : Chan) (k : Int) : (s.teachEnd c k).InRange := by
  have ⟨working, stroke, visited, _⟩ := (ProfileContext.inRange_iff _).mp (h.prof c)
  have judged (result : TeachState) : (s.modProf c fun p => { p with teach := result, teachVisited := p.visited }).InRange :=
    h.modProf ((ProfileContext.inRange_iff _).mpr ⟨working, stroke, visited, visited⟩)
  unfold State.teachEnd; dsimp only
  generalize (if ((s.cset c).driftTol : Int) < |k| then TeachState.failed .drift
    else if (s.chan c).prof.visited < 8 then .failed .short else .done) = result
  split
  · refine State.InRange.copyBaseline ((judged _).modImage ?_) c
    exact Image.inRange_setBaseline h.image c fun b => by rw [Bins.get_ofFn]; exact filledBin_le stroke b
  · exact judged _

theorem State.InRange.profileClosedEnd (h : s.InRange) (c : Chan) (k : Int) : (s.profileClosedEnd c k).InRange := by
  unfold State.profileClosedEnd; dsimp only; split
  · split
    · exact h.teachEnd c k
    · exact h
  · exact h.learn c k

theorem State.InRange.closedEndStop (h : s.InRange) (c : Chan) : (s.closedEndStop c).InRange := by
  unfold State.closedEndStop; dsimp only
  exact State.InRange.reversalClosedEnd
    (State.InRange.profileClosedEnd ((h.vacate c .idle).setPos (p := 0) (by decide) rfl rfl) c _) c

/-! ### The supply monitor (06.1) -/

theorem SupplyContext.inRange_voltageStage {g : GlobSettings} (hg : g.maskLength ≤ 31) {v : Nat} (hv : v ≤ 255) {u : SupplyContext}
    (h : u.inRange = true) : (voltageStage g v u).inRange = true := by
  have ⟨_, _, mask, _, strokeMask⟩ := (SupplyContext.inRange_iff _).mp h
  refine (SupplyContext.inRange_iff _).mpr ⟨?_, ?_, ?_, (upTo_iff _ _).mpr hv, strokeMask⟩
  · show (if lowBand g v then min 4 (u.lowRun + 1) else 0) ≤ 4
    split <;> omega
  · show (if highBand g v then min 4 (u.highRun + 1) else 0) ≤ 4
    split <;> omega
  · show (if isDip g v u.prev then g.maskLength else u.mask - 1) ≤ 31
    split <;> omega

theorem State.InRange.maskLength (h : s.InRange) : s.glob.maskLength ≤ 31 := Int.ofNat_le.mp (h.glob .maskLength).2

theorem State.InRange.countStage (h : s.InRange) (c : Chan) : (s.countStage c).InRange := by
  have ⟨low, high, mask, prev, _⟩ := (SupplyContext.inRange_iff _).mp (h.sup c)
  unfold State.countStage; split
  · exact h.modSup ((SupplyContext.inRange_iff _).mpr ⟨low, high, mask, prev, min_le_left _ _⟩)
  · exact h

/-! ### The pinch engine (02) -/

/-- The filter stays between its last value and the sample's, both at most 16 × 4095 (02 R36). -/
theorem filterStep_le (first : Bool) {f16 current : Nat} (hf : f16 ≤ 65520) (hc : current ≤ 4095) :
    filterStep first f16 current ≤ 65520 := by
  unfold filterStep; split <;> omega

theorem EngineContext.inRange_prepare {e : EngineContext} (h : e.inRange = true) {current : Nat} (hc : current ≤ 4095) :
    (prepare current e).inRange = true := by
  rw [EngineContext.inRange_iff] at *
  obtain ⟨f16, acc, blank, peak, trip⟩ := h
  exact ⟨filterStep_le _ f16 hc, acc, le_trans (Nat.sub_le _ _) blank, peak, trip⟩

theorem effort_le {e : EngineContext} (h : e.inRange = true) : effort e ≤ 4095 := by
  have := ((EngineContext.inRange_iff _).mp h).1
  unfold effort; omega

theorem State.InRange.enterSample (h : s.InRange) (c : Chan) {current : Nat} (hc : current ≤ 4095) :
    (s.enterSample c current).InRange := by
  have h1 : (s.modEng c (prepare current)).InRange := h.modEng (EngineContext.inRange_prepare (h.eng c) hc)
  unfold State.enterSample; dsimp only
  generalize s.modEng c (prepare current) = t at h1 ⊢
  exact h1.modProf (ProfileContext.inRange_enter (h1.prof c) _ (effort_le (h1.eng c)) _ _)

theorem reversalTarget_within {cs : ChanSettings} (ht : cs.travel ≤ 4032) {p : Int} (hp : -255 ≤ p) :
    -255 ≤ reversalTarget cs p ∧ reversalTarget cs p ≤ 4095 := by
  unfold reversalTarget; omega

theorem State.InRange.takeTrip (h : s.InRange) (c : Chan) : (s.takeTrip c).InRange := by
  have h1 := h.teachFail c .trip
  have ht : (s.cset c).travel ≤ 4032 := Int.ofNat_le.mp (h.cset c .travel).2
  unfold State.takeTrip
  generalize s.teachFail c .trip = t at h1 ⊢
  refine h1.modChan ?_
  simp only [ChannelUnit.inRange_iff, ChannelRecord.inRange_iff, ReversalContext.inRange_iff]
  refine ⟨⟨h1.pos c, rfl⟩, EngineContext.inRange_closeStroke (h1.eng c), h1.prof c, ⟨?_, min_le_left _ _⟩, h1.sup c, h1.readCopy c⟩
  rw [absentOr_some, within_iff]
  exact reversalTarget_within ht (h1.pos c).1

theorem State.InRange.trip (h : s.InRange) (c : Chan) (cause : TripCause) {r t acc : Nat} (hr : r ≤ 4095) (ht : t ≤ 1023)
    (ha : acc ≤ 4095) : (s.trip c cause r t acc).InRange := by
  have h1 := h.takeTrip c
  have ⟨f16, acc1, blank, peak, _⟩ := (EngineContext.inRange_iff _).mp (h1.eng c)
  have level := ((ReversalContext.inRange_iff _).mp (h1.rev c)).2
  have speed := ((ContextUnit.inRange_iff _).mp h.ctx).1
  unfold State.trip; dsimp only
  refine h1.modEng ((EngineContext.inRange_iff _).mpr ⟨f16, acc1, blank, peak, (TripRecord.inRange_iff _).mpr ?_⟩)
  exact ⟨h.pos c, Nat.le_of_lt_succ (binOfPos _ _).isLt, effort_le (h.eng c), hr, ht, ha, level, speed,
    Nat.le_of_lt_succ (Nat.mod_lt _ (by decide))⟩

theorem State.InRange.repairBin (h : s.InRange) (c : Chan) (b : Fin 64) : (s.repairBin c b).InRange := by
  have ⟨working, rest⟩ := (ProfileContext.inRange_iff _).mp (h.prof c)
  unfold State.repairBin; dsimp only; split
  · exact h
  · have h1 : (s.modProf c fun p => { p with working := p.working.set b ((s.stg.image.baseline.get c).get b) }).InRange := by
      refine h.modProf ((ProfileContext.inRange_iff _).mpr ⟨fun x => ?_, rest⟩)
      rw [Bins.get_set]; split
      · exact h.baseline c b
      · exact working x
    exact h1.modCtl (h1.ctl c)

theorem accStep_le {cs : ChanSettings} {acc : Nat} (h : acc ≤ 4095) (excess : Int) : accStep cs acc excess ≤ 4095 := by
  unfold accStep; split <;> omega

theorem State.marginStack_le (s : State) (c : Chan) : s.marginStack c ≤ 1023 := by
  have (v : Int) := clamp_within (lo := 8) (hi := 1023) (by decide) v
  unfold State.marginStack; dsimp only
  exact Int.toNat_le.mpr (this _).2

/-- Accumulating keeps the ranges, and hands on an accumulator in its range. -/
theorem State.InRange.accumulate (h : s.InRange) (c : Chan) :
    (s.accumulate c).1.InRange ∧ (s.accumulate c).2 ≤ 4095 := by
  have h1 := h.repairBin c (binOfPos (s.chan c).ctl.pos (s.cset c).travel)
  have ⟨f16, acc1, rest⟩ := (EngineContext.inRange_iff _).mp (h1.eng c)
  have hacc (excess : Int) := accStep_le (cs := s.cset c) acc1 excess
  have h2 {acc : Nat} (ha : acc ≤ 4095) := h1.modEng (c := c) (f := fun e => { e with acc := acc })
    ((EngineContext.inRange_iff _).mpr ⟨f16, ha, rest⟩)
  unfold State.accumulate; dsimp only; split
  · exact ⟨(h2 (hacc _)).trip c _ (((ProfileContext.inRange_iff _).mp (h1.prof c)).1 _) (State.marginStack_le _ c) (hacc _), hacc _⟩
  · exact ⟨h2 (hacc _), hacc _⟩

theorem State.InRange.judgeSample (h : s.InRange) (c : Chan) (m : Sample) (blanked : Bool) :
    (s.judgeSample c m blanked).1.InRange ∧ (s.judgeSample c m blanked).2 ≤ 4095 := by
  have acc := ((EngineContext.inRange_iff _).mp (h.eng c)).2.1
  have trips (cause : TripCause) := h.trip c cause (Nat.zero_le 4095) (Nat.zero_le 1023) acc
  unfold State.judgeSample; dsimp only; split
  · exact ⟨trips _, acc⟩
  · split
    · exact ⟨trips _, acc⟩
    · split
      · exact ⟨h.closedEndStop c, acc⟩
      · split
        · exact ⟨h, acc⟩
        · exact h.accumulate c

theorem peakCandidate_le (cs : ChanSettings) (acc : Nat) : peakCandidate cs acc ≤ 255 := by
  unfold peakCandidate; split
  · omega
  · exact Nat.div_le_of_le_mul (Nat.mul_le_mul_right 255 (min_le_right acc _))

theorem State.InRange.peakStep (h : s.InRange) (c : Chan) (acc : Nat) : (s.peakStep c acc).InRange := by
  have ⟨f16, acc1, blank, peak, trip⟩ := (EngineContext.inRange_iff _).mp (h.eng c)
  exact h.modEng ((EngineContext.inRange_iff _).mpr ⟨f16, acc1, blank, max_le peak (peakCandidate_le _ _), trip⟩)

theorem State.InRange.closingSample (h : s.InRange) (c : Chan) (m : Sample) : (s.closingSample c m).InRange :=
  ((h.enterSample c (Nat.le_of_lt_succ m.current.isLt)).judgeSample c m _).1.peakStep c _

theorem State.InRange.applySample (h : s.InRange) (c : Chan) (m : Sample) (k : Nat) (mismatch : Bool) :
    (s.applySample c m k mismatch).InRange := by
  have h1 : (s.modSup c (voltageStage s.glob m.volt.toNat)).InRange :=
    h.modSup (SupplyContext.inRange_voltageStage h.maskLength (Nat.le_of_lt_succ m.volt.isLt) (h.sup c))
  have h2 := (h1.channelSample c m k mismatch).countStage c
  unfold State.applySample; dsimp only; split
  · exact h2.closingSample c m
  · exact h2

end

end Sys2Proof.Machine
end

section
/-! Ranges: the slot arbiter, the settings unit, the enrollment unit, the branch port and the resets. -/

namespace Sys2Proof.Machine

section
variable {s : State}

/-! ### The slot arbiter (06.2 to 06.6) -/

theorem State.InRange.openStroke (h : s.InRange) (c : Chan) : (s.openStroke c).InRange := by
  have ⟨working, _, _, teachVisited⟩ := (ProfileContext.inRange_iff _).mp (h.prof c)
  have ⟨_, _, _, peak, trip⟩ := (EngineContext.inRange_iff _).mp (h.eng c)
  have ⟨low, high, mask, prev, _⟩ := (SupplyContext.inRange_iff _).mp (h.sup c)
  have blank : (s.cset c).blanking ≤ 31 := Int.ofNat_le.mp (h.cset c .blanking).2
  unfold State.openStroke
  refine h.modChan ?_
  simp only [ChannelUnit.inRange_iff, EngineContext.inRange_iff, ProfileContext.inRange_iff, SupplyContext.inRange_iff]
  exact ⟨h.ctl c, ⟨Nat.zero_le _, Nat.zero_le _, blank, peak, trip⟩,
    ⟨working, fun b => by simp [ProfileContext.openStroke], Nat.zero_le _, teachVisited⟩, h.rev c,
    ⟨low, high, mask, prev, Nat.zero_le _⟩, h.readCopy c⟩

theorem ChannelUnit.inRange_engLeaving {u : ChannelUnit} (h : u.eng.inRange = true) :
    (ChannelUnit.engLeaving u).inRange = true := by
  unfold ChannelUnit.engLeaving; split
  · exact EngineContext.inRange_closeStroke h
  · exact h

theorem State.InRange.grant (h : s.InRange) {e : Entry} (he : e.motion.inRange = true) : (s.grant e).InRange := by
  have granted (st : ChanState) : State.InRange { s with
      arb := { slots := s.arb.slots.set e.channel true, queue := s.arb.queue.filter (fun x => decide (x.channel ≠ e.channel)),
               stagger := 0 }
      chans := s.chans.set e.channel
        { s.chans.get e.channel with
          ctl := { (s.chans.get e.channel).ctl with st := st, motion := some e.motion }
          eng := ChannelUnit.engLeaving (s.chans.get e.channel) } } :=
    { h.setUnit (c := e.channel) (u := { s.chans.get e.channel with
          ctl := { (s.chans.get e.channel).ctl with st := st, motion := some e.motion }
          eng := ChannelUnit.engLeaving (s.chans.get e.channel) })
        (by
          simp only [ChannelUnit.inRange_iff, ChannelRecord.inRange_iff]
          exact ⟨⟨h.pos _, he⟩, ChannelUnit.inRange_engLeaving (h.eng _), h.prof _, h.rev _, h.sup _, h.readCopy _⟩) with
      queue := fun x hx => h.queue x (List.mem_filter.mp hx).1
      stagger := Nat.zero_le _ }
  unfold State.grant; dsimp only; split
  · exact granted _
  · exact (granted _).openStroke _

theorem State.InRange.arbitrate (h : s.InRange) : s.arbitrate.InRange := by
  have h1 : State.InRange { s with arb := { s.arb with stagger := min 16 (s.arb.stagger + 1) } } :=
    { h with stagger := min_le_left _ _ }
  unfold State.arbitrate; dsimp only; split
  · split
    · next e he =>
      refine h1.grant (h.queue e ?_)
      simp only [State.winner, Option.or_eq_some_iff] at he
      rcases he with he | ⟨-, he | ⟨-, he⟩⟩ <;> exact List.mem_of_find?_eq_some he
    · exact h1
  · exact h1

theorem State.InRange.flushEntry (h : s.InRange) (c : Chan) : (s.flushEntry c).InRange := by
  unfold State.flushEntry; split
  · exact (h.teachFail c _).vacate c _
  · exact h

theorem State.InRange.queueExpires (h : s.InRange) (c : Chan) : (s.queueExpires c).InRange := by
  have h1 := (h.teachFail c .order).vacate c .idle
  unfold State.queueExpires; split
  · exact h1.modCtl (h1.ctl c)
  · exact { h with queue := fun e he => h.queue e (List.mem_filter.mp he).1 }

/-! ### The settings unit (10) -/

theorem State.InRange.store (h : s.InRange) : s.stg.store.image.inRange = true := ((SettingsUnit.inRange_iff _).mp h.stg).2.1

theorem State.InRange.writing (h : s.InRange) {i : Image} {check : BitVec 16} (hw : s.stg.write = some (.lockIn i check)) :
    i.inRange = true := by
  have := ((SettingsUnit.inRange_iff _).mp h.stg).2.2.1
  rw [hw] at this; exact this

theorem State.InRange.scanPos (h : s.InRange) : s.stg.scanPos ≤ 63 := ((SettingsUnit.inRange_iff _).mp h.stg).2.2.2

theorem SettingsUnit.inRange_readStore {u : SettingsUnit} (h : u.store.image.inRange = true) : (readStore u).inRange = true := by
  refine (SettingsUnit.inRange_iff _).mpr ⟨?_, h, rfl, Nat.zero_le _⟩
  show (if storeVerifies u.store then u.store.image else Image.factory).inRange = true
  split
  · exact h
  · exact Image.inRange_factory

theorem State.InRange.enterPhase (h : s.InRange) (p : Phase) : (s.enterPhase p).InRange := by
  have ⟨image, store, write, scan⟩ := (SettingsUnit.inRange_iff _).mp h.stg
  unfold State.enterPhase; split
  · exact { h with stg := (SettingsUnit.inRange_iff _).mpr ⟨image, store, write, Nat.zero_le _⟩ }
  · exact { h with stg := (SettingsUnit.inRange_iff _).mpr ⟨image, store, write, scan⟩ }

theorem State.InRange.storeWriteFails (h : s.InRange) : s.storeWriteFails.InRange :=
  { h with stg := (SettingsUnit.inRange_iff _).mpr ⟨h.image, h.store, rfl, h.scanPos⟩ }

theorem State.InRange.lockInCompletes (h : s.InRange) {i : Image} (hi : i.inRange = true) (check : BitVec 16) :
    (s.lockInCompletes i check).InRange := by
  unfold State.lockInCompletes
  refine State.InRange.foldl (fun _ c hs => hs.copyBaseline c) (State.InRange.enterPhase ?_ _)
  exact { h with stg := (SettingsUnit.inRange_iff _).mpr ⟨h.image, hi, rfl, h.scanPos⟩ }

theorem State.InRange.reopenCompletes (h : s.InRange) : s.reopenCompletes.InRange := by
  unfold State.reopenCompletes
  refine State.InRange.enterPhase ?_ _
  exact { h with stg := (SettingsUnit.inRange_iff _).mpr ⟨h.image, h.store, rfl, h.scanPos⟩ }

theorem SettingsUnit.inRange_checkStepOf {u : SettingsUnit} (h : u.inRange = true) (now : Nat) :
    (checkStepOf u now).inRange = true := by
  have ⟨image, store, write, _⟩ := (SettingsUnit.inRange_iff _).mp h
  unfold checkStepOf; dsimp only; split
  · next hlt => exact (SettingsUnit.inRange_iff _).mpr ⟨image, store, write, hlt⟩
  · exact (SettingsUnit.inRange_iff _).mpr ⟨image, store, write, Nat.zero_le _⟩

/-! ### The enrollment unit (08.3 to 08.5) -/

theorem NodeContext.inRange_enrolled {n : NodeContext} (h : n.inRange = true) : (NodeContext.enrolled n).inRange = true :=
  (NodeContext.inRange_iff _).mpr ⟨((NodeContext.inRange_iff _).mp h).1, Nat.zero_le _, Nat.zero_le _, Nat.zero_le _, le_refl _,
    le_refl _⟩

theorem NodeContext.inRange_rejoined {n : NodeContext} (h : n.inRange = true) : (NodeContext.rejoined n).inRange = true := by
  have ⟨since, _, _, _, _, worst⟩ := (NodeContext.inRange_iff _).mp h
  exact (NodeContext.inRange_iff _).mpr ⟨since, Nat.zero_le _, Nat.zero_le _, Nat.zero_le _, (by decide : 4 ≤ 7), worst⟩

theorem State.InRange.miss (h : s.InRange) : s.enr.miss ≤ 3 := ((EnrollmentUnit.inRange_iff _).mp h.enr).1
theorem State.InRange.rejoinCount (h : s.InRange) : s.enr.rejoinCount ≤ 64 := ((EnrollmentUnit.inRange_iff _).mp h.enr).2

theorem State.InRange.endRun (h : s.InRange) : s.endRun.InRange := by
  have h2 := (h.withEnr (e := { s.enr with st := .idle, settle := none }) h.enr).rebind
    (State.nodeAddrs { s with enr := { s.enr with st := .idle, settle := none } })
  unfold State.endRun; dsimp only
  generalize State.rebind { s with enr := { s.enr with st := .idle, settle := none } } _ = t at h2 ⊢
  have h3 := h2.withEnr (e := { t.enr with mismatch := decide (t.nodeCount ≠ t.glob.expectedNodes) }) h2.enr
  split
  · exact h3.enterPhase _
  · exact h3

theorem State.InRange.makeRecord (h : s.InRange) (r : NodeRecord) : (s.makeRecord r).InRange := by
  have h1 := (h.modNode (a := s.enr.offer) (NodeContext.inRange_enrolled (h.node _))).withEnr
    (e := { s.enr with table := s.enr.table.set s.enr.offer (some r), miss := 0 })
    ((EnrollmentUnit.inRange_iff _).mpr ⟨Nat.zero_le _, h.rejoinCount⟩)
  unfold State.makeRecord; dsimp only; split
  · exact h1.endRun
  · exact h1.withEnr h1.enr

theorem State.InRange.missOffer (h : s.InRange) : s.missOffer.InRange := by
  have h1 := h.withEnr (e := { s.enr with miss := min 3 (s.enr.miss + 1) })
    ((EnrollmentUnit.inRange_iff _).mpr ⟨min_le_left _ _, h.rejoinCount⟩)
  unfold State.missOffer; dsimp only; split
  · exact h1.endRun
  · exact h1

theorem State.InRange.channelLosesNode (h : s.InRange) (c : Chan) : (s.channelLosesNode c).InRange := by
  have h1 := h.setCauses c { (s.chan c).ctl.causes with nodeLost := true }
  unfold State.channelLosesNode; dsimp only; split
  · exact h1.modCtl (h1.ctl c)
  · exact h1

theorem EnrollmentUnit.inRange_lose {e : EnrollmentUnit} (h : e.inRange = true) (a : Node) :
    (EnrollmentUnit.lose e a).inRange = true := by
  rw [EnrollmentUnit.inRange_iff] at *
  refine ⟨h.1, ?_⟩
  show (if scheduleEmpty e.schedule then 0 else e.rejoinCount) ≤ 64
  split
  · exact Nat.zero_le _
  · exact h.2

theorem State.InRange.rejoinNode (h : s.InRange) (a : Node) (mismatch : Bool) : (s.rejoinNode a mismatch).InRange := by
  have regained (r : NodeRecord) : (s.regainRecord a r).InRange := by
    refine (h.modNode (NodeContext.inRange_rejoined (h.node a))).withEnr ((EnrollmentUnit.inRange_iff _).mpr ⟨h.miss, ?_⟩)
    dsimp only; split
    · exact Nat.zero_le _
    · exact h.rejoinCount
  unfold State.rejoinNode; split
  · exact h
  · split
    · exact h
    · dsimp only; refine State.InRange.rebind ?_ _
      split
      · exact regained _
      · exact (regained _).setCauses _ _

theorem State.InRange.slot0Ends (h : s.InRange) (content : SlotContent) : (s.slot0Ends content).InRange := by
  have h1 := h.withEnr (e := { s.enr with slot0 := .unused, reading := none }) h.enr
  unfold State.slot0Ends; dsimp only; split
  · exact h
  · split
    · exact h1.makeRecord _
    · exact h1
  · split
    · exact h1.missOffer
    · exact h1
  · split
    · exact h1.rejoinNode _ _
    · exact h1
  · exact h.withEnr h.enr

theorem State.InRange.readSlotEnds (h : s.InRange) (a : Node) (content : SlotContent) : (s.readSlotEnds a content).InRange := by
  have h1 := h.withEnr (e := { s.enr with reading := none }) h.enr
  have h2 := h.withEnr (e := { s.enr with reading := none, slot0 := .unused }) h.enr
  unfold State.readSlotEnds; dsimp only; split
  · exact h1
  · split
    · exact h2.makeRecord _
    · exact h1.rejoinNode a _

theorem EnrollmentUnit.inRange_attemptRejoin {e : EnrollmentUnit} (h : e.inRange = true) :
    (EnrollmentUnit.attemptRejoin e).inRange = true := by
  unfold EnrollmentUnit.attemptRejoin; split
  · exact (EnrollmentUnit.inRange_iff _).mpr ⟨((EnrollmentUnit.inRange_iff _).mp h).1, Nat.zero_le _⟩
  · exact h

theorem EnrollmentUnit.inRange_cycle {e : EnrollmentUnit} (h : e.inRange = true) (now : Nat) :
    (EnrollmentUnit.cycle e now).inRange = true := by
  have h1 : EnrollmentUnit.inRange { e with slot0 := .unused, reading := e.followUp, followUp := none } = true := h
  unfold EnrollmentUnit.cycle; dsimp only; split
  · exact h
  · split
    · exact h
    · exact h
  · exact h
  · split
    · exact h
    · split
      · exact EnrollmentUnit.inRange_attemptRejoin h1
      · next hlt => exact (EnrollmentUnit.inRange_iff _).mpr ⟨((EnrollmentUnit.inRange_iff _).mp h).1, by dsimp only; omega⟩

theorem State.InRange.flushed (h : s.InRange) (slots : Oct Bool) :
    State.InRange { s with arb := { SlotArbiter.flushed s.arb with slots := slots } } :=
  { h with queue := fun _ he => absurd he List.not_mem_nil }

theorem State.InRange.startEnroll (h : s.InRange) : s.startEnroll.InRange := by
  unfold State.startEnroll
  refine State.InRange.flushed (State.InRange.foldl (fun _ c hs => hs.becomeUnbound c) ?_) _
  exact { h with enr := (EnrollmentUnit.inRange_iff _).mpr ⟨Nat.zero_le _, Nat.zero_le _⟩ }

/-! ### The branch port (07) -/

theorem State.InRange.cycleStart (h : s.InRange) : s.cycleStart.InRange := by
  have h1 := h.arbitrate
  unfold State.cycleStart; dsimp only
  generalize s.arbitrate = t at h1 ⊢
  refine { h1 with node := fun a => ?_, place := Nat.zero_le _, enr := EnrollmentUnit.inRange_cycle h1.enr _ }
  have ⟨_, rest⟩ := (NodeContext.inRange_iff _).mp (h1.node a)
  show ((countCycles t.br.nodes).get a).inRange = true
  rw [countCycles, Oct.get_map]
  exact (NodeContext.inRange_iff _).mpr ⟨min_le_left _ _, rest⟩

theorem State.InRange.rejoinAttempted (h : s.InRange) : s.rejoinAttempted.InRange := by
  unfold State.rejoinAttempted; split
  · exact h
  · exact { h with enr := EnrollmentUnit.inRange_attemptRejoin h.enr }

theorem candidateGrade_le (g : GlobSettings) (bad : Nat) : candidateGrade g bad ≤ 7 := by
  unfold candidateGrade
  cases hf : [7, 6, 5, 4, 3, 2, 1].find? fun k => decide (bad ≤ g.q k) with
  | none => exact Nat.zero_le _
  | some k =>
    have : ∀ k ∈ [7, 6, 5, 4, 3, 2, 1], k ≤ 7 := by decide
    exact this k (List.mem_of_find?_eq_some hf)

theorem nextGrade_le (g : GlobSettings) {grade : Nat} (bad : Nat) (h : grade ≤ 7) : nextGrade g grade bad ≤ 7 := by
  have := candidateGrade_le g bad
  unfold nextGrade; dsimp only; split
  · exact this
  · split <;> omega

/-- A grade window is at most 512 slots long (07 R158). -/
theorem windowLength_le {g : GlobSettings} (h : g.gradeWindow ≤ 3) : windowLength g ≤ 512 :=
  Nat.mul_le_mul_left 64 (Nat.pow_le_pow_right (by decide) h)

theorem State.InRange.gradeWindow (h : s.InRange) : s.glob.gradeWindow ≤ 3 := Int.ofNat_le.mp (h.glob .gradeWindow).2

/-- Every value stands in its range but those of one node context. -/
def State.InRangeBut (a : Node) (s : State) : Prop := (s.modNode a fun _ => NodeContext.cold).InRange

theorem State.InRangeBut.modNode {a : Node} (h : s.InRangeBut a) {f : NodeContext → NodeContext}
    (hf : (f (s.br.nodes.get a)).inRange = true) : (s.modNode a f).InRange := by
  have h1 := State.InRange.modNode h (a := a) (f := fun _ => f (s.br.nodes.get a)) hf
  simpa only [State.modNode, Oct.set_set, Oct.get_set_self] using h1

theorem State.InRange.but (h : s.InRange) (a : Node) (f : NodeContext → NodeContext) : (s.modNode a f).InRangeBut a := by
  have h1 := h.modNode (a := a) (f := fun _ => NodeContext.cold) (by decide)
  simpa only [State.InRangeBut, State.modNode, Oct.set_set] using h1

theorem State.InRange.but_self (h : s.InRange) (a : Node) : s.InRangeBut a := h.modNode (by decide)

theorem State.blindStop_modNode (s : State) (c : Chan) (a : Node) (f : NodeContext → NodeContext) :
    (s.blindStop c).modNode a f = (s.modNode a f).blindStop c := by
  have h : (s.modNode a f).teachFail c .blind = (s.teachFail c .blind).modNode a f := by
    simp only [State.teachFail]
    show (if (s.chan c).prof.teach = .running then _ else _) = _
    split <;> rfl
  unfold State.blindStop; rw [h]
  have hbr : (s.teachFail c .blind).br = s.br := (onlyChannel_teachFail s c .blind).br
  simp only [State.modNode, State.modCtl, State.modChan, State.vacate]

theorem State.InRangeBut.blindTest {a : Node} (h : s.InRangeBut a) : (s.blindTest a).InRangeBut a := by
  unfold State.blindTest; split
  · split
    · unfold State.InRangeBut; rw [State.blindStop_modNode]; exact State.InRange.blindStop h _
    · exact h
  · exact h

/-- A node context whose slot has been counted: its window may stand at its end, 512 slots at most (07 R158). -/
def WindowCounted (n : NodeContext) : Prop := n.winPos ≤ 512 ∧ NodeContext.inRange { n with winPos := 0 } = true

theorem WindowCounted.of_inRange {n : NodeContext} (h : n.inRange = true) : WindowCounted n := by
  have ⟨since, run, winPos, rest⟩ := (NodeContext.inRange_iff _).mp h
  exact ⟨Nat.le_succ_of_le winPos, (NodeContext.inRange_iff _).mpr ⟨since, run, Nat.zero_le _, rest⟩⟩

theorem windowCounted_count {n : NodeContext} (h : n.inRange = true) (bad : Bool) :
    WindowCounted (NodeContext.count n bad) := by
  have ⟨since, run, winPos, winBad, rest⟩ := (NodeContext.inRange_iff _).mp h
  refine ⟨Nat.succ_le_succ winPos, (NodeContext.inRange_iff _).mpr ⟨since, run, Nat.zero_le _, ?_, rest⟩⟩
  show (if bad then min 512 (n.winBad + 1) else n.winBad) ≤ 512
  split <;> omega

/-- A node with its grades and window at 0 stands in its ranges, wherever its window stood. -/
theorem WindowCounted.lost {n : NodeContext} (h : WindowCounted n) :
    NodeContext.inRange { n with grade := 0, worst := 0, winPos := 0, winBad := 0 } = true := by
  have ⟨since, run, _⟩ := (NodeContext.inRange_iff _).mp h.2
  exact (NodeContext.inRange_iff _).mpr ⟨since, run, Nat.zero_le _, Nat.zero_le _, Nat.zero_le _, Nat.zero_le _⟩

theorem State.InRangeBut.declareLost {a : Node} (h : s.InRangeBut a) (hn : WindowCounted (s.br.nodes.get a)) :
    (s.declareLost a).InRange := by
  have h1 := h.modNode (f := fun n => { n with grade := 0, worst := 0, winPos := 0, winBad := 0 }) hn.lost
  have h2 := h1.withEnr (EnrollmentUnit.inRange_lose h.enr a)
  unfold State.declareLost; dsimp only; split
  · exact h2.channelLosesNode _
  · exact h2

theorem State.InRangeBut.windowEnd {a : Node} (h : s.InRangeBut a) (hn : WindowCounted (s.br.nodes.get a)) :
    (s.windowEnd a).InRange := by
  have ⟨since, run, _, winBad, grade, worst⟩ := (NodeContext.inRange_iff _).mp hn.2
  have hnext := nextGrade_le s.glob (s.br.nodes.get a).winBad grade
  unfold State.windowEnd; dsimp only
  generalize nextGrade s.glob (s.br.nodes.get a).grade (s.br.nodes.get a).winBad = next at hnext ⊢
  have h1 := h.modNode (f := fun n => { n with
      winPos := 0, winBad := 0, grade := next
      worst := if next = (s.br.nodes.get a).grade then n.worst else min n.worst next }) (by
    refine (NodeContext.inRange_iff _).mpr ⟨since, run, Nat.zero_le _, Nat.zero_le _, hnext, ?_⟩
    dsimp only; split
    · exact worst
    · exact le_trans (min_le_left _ _) worst)
  split
  · next hlt =>
    have hw := windowLength_le (State.InRange.gradeWindow h)
    have h2 := h.modNode (f := fun n => n)
      ((NodeContext.inRange_iff _).mpr ⟨since, run, Nat.le_of_lt_succ (lt_of_lt_of_le hlt hw), winBad, grade, worst⟩)
    simpa only [State.modNode, Oct.set_get_self] using h2
  · split
    · exact State.InRangeBut.declareLost (h1.but_self a) (.of_inRange (h1.node a))
    · exact h1

theorem State.InRange.goodSlot (h : s.InRange) (a : Node) (m : Sample) : (s.goodSlot a m).InRange := by
  have ⟨_, _, rest⟩ := (NodeContext.inRange_iff _).mp (h.node a)
  have h1 : (s.modNode a fun n => { n with badRun := 0, keep := some m.keep, since := 0 }).InRange :=
    h.modNode ((NodeContext.inRange_iff _).mpr ⟨Nat.zero_le _, Nat.zero_le _, rest⟩)
  have ends {t : State} (ht : t.InRange) : ((t.modNode a fun n => NodeContext.count n false).windowEnd a).InRange :=
    (ht.but a _).windowEnd (by simpa [State.modNode] using windowCounted_count (ht.node a) false)
  unfold State.goodSlot; dsimp only; split
  · exact ends (h1.applySample _ m _ _)
  · exact ends h1

theorem State.windowCounted_blindTest {a : Node} (h : WindowCounted (s.br.nodes.get a)) :
    WindowCounted ((s.blindTest a).br.nodes.get a) := by
  have hstop (c : Chan) : (s.blindStop c).br = s.br := (onlyChannel_teachFail s c .blind).br
  unfold State.blindTest; split
  · split
    · rw [hstop]; exact h
    · exact h
  · exact h

theorem State.InRange.badSlot (h : s.InRange) (a : Node) : (s.badSlot a).InRange := by
  have ⟨since, _, rest⟩ := (NodeContext.inRange_iff _).mp (h.node a)
  have h1 := (h.but a fun n => NodeContext.count { n with badRun := min 63 (n.badRun + 1) } true).blindTest
  have hn := windowCounted_count (n := { s.br.nodes.get a with badRun := min 63 ((s.br.nodes.get a).badRun + 1) })
    ((NodeContext.inRange_iff _).mpr ⟨since, min_le_left _ _, rest⟩) true
  have hn1 := State.windowCounted_blindTest (s := s.modNode a fun n => NodeContext.count { n with badRun := min 63 (n.badRun + 1) } true)
    (a := a) (by simpa [State.modNode] using hn)
  unfold State.badSlot; dsimp only; split
  · exact h1.declareLost hn1
  · exact h1.windowEnd hn1

theorem State.InRange.replySlotEnds (h : s.InRange) (a : Node) (content : SlotContent) :
    (s.replySlotEnds a content).InRange := by
  unfold State.replySlotEnds; split
  · exact h.readSlotEnds a content
  · split
    · split
      · exact h.goodSlot a _
      all_goals exact h.badSlot a
    · exact h

theorem State.InRange.toPlace (h : s.InRange) {n : Nat} (hn : n ≤ 9) : (s.toPlace n).InRange := { h with place := hn }

theorem State.InRange.endReplySlot (h : s.InRange) (a : Node) (content : SlotContent) : (s.endReplySlot a content).InRange :=
  (h.replySlotEnds a content).toPlace (by omega)

theorem State.InRange.silentUpTo (h : s.InRange) (n : Nat) : (s.silentUpTo n).InRange := by
  refine State.InRange.foldl (fun s a hs => ?_) h
  split
  · exact hs.endReplySlot a _
  · exact hs

theorem State.InRange.replySlotRow (h : s.InRange) (a : Node) (content : SlotContent) : (s.replySlotRow a content).InRange := by
  unfold State.replySlotRow; split
  · exact (h.silentUpTo _).endReplySlot a content
  · exact h

theorem State.InRange.slot0Row (h : s.InRange) (content : SlotContent) : (s.slot0Row content).InRange := by
  unfold State.slot0Row; split
  · exact ((h.silentUpTo 8).slot0Ends content).toPlace (le_refl 9)
  · exact h

/-! ### Resets (08.1, 08.2) -/

theorem ResetUnit.inRange_supplyCounts {r : ResetUnit} (h : r.inRange = true) (vbat : Nat) :
    (supplyCounts vbat r).inRange = true := by
  have ⟨low, high⟩ := (ResetUnit.inRange_iff _).mp h
  unfold supplyCounts; dsimp only; split
  · have hhigh : (if Config.vbatHigh ≤ vbat then min 4 (r.highCount + 1) else 0) ≤ 4 := by split <;> omega
    generalize (if Config.vbatHigh ≤ vbat then min 4 (r.highCount + 1) else 0) = count at hhigh ⊢
    split
    · exact (ResetUnit.inRange_iff _).mpr ⟨Nat.zero_le _, hhigh⟩
    · exact (ResetUnit.inRange_iff _).mpr ⟨low, hhigh⟩
  · refine (ResetUnit.inRange_iff _).mpr ⟨?_, high⟩
    dsimp only; split <;> omega

theorem State.InRange.modRst (h : s.InRange) {f : ResetUnit → ResetUnit} (hf : (f s.rst).inRange = true) : (s.modRst f).InRange :=
  { h with rst := hf }

theorem ChannelUnit.inRange_cold : (ChannelUnit.cold (Bins.const 0)).inRange = true := by decide +kernel

theorem State.InRange.coldReset (h : s.InRange) (cause : ResetCause) : (s.coldReset cause).InRange := by
  unfold State.coldReset; split
  · exact h
  · exact
      { unit := fun c => by rw [State.held, Oct.get_const]; exact ChannelUnit.inRange_cold
        ctx := (by decide : ContextUnit.stale.inRange = true)
        queue := fun _ he => absurd he List.not_mem_nil
        stagger := Nat.zero_le _
        node := fun a => by rw [State.held]; exact (Oct.allGood_iff _ BranchPort.cold.nodes).mp (by decide) a
        place := le_refl 9
        enr := (by decide : EnrollmentUnit.cold.inRange = true)
        trk := (by decide : TrunkPort.cold.inRange = true)
        stg := (SettingsUnit.inRange_iff _).mpr ⟨h.image, h.store, rfl, Nat.zero_le _⟩
        rst := h.rst }

theorem State.InRange.coldStart (h : s.InRange) : s.coldStart.InRange := by
  have hstg := SettingsUnit.inRange_readStore h.store
  have base := ((Image.inRange_iff _).mp ((SettingsUnit.inRange_iff _).mp hstg).1).2.2.1
  refine { h with unit := fun c => ?_, stg := hstg, rst := h.rst, enr := h.enr }
  unfold State.coldStart; dsimp only
  rw [Oct.get_ofFn]
  exact (ChannelUnit.inRange_iff _).mpr ⟨h.ctl c, h.eng c,
    (ProfileContext.inRange_iff _).mpr ⟨base c, ((ProfileContext.inRange_iff _).mp (h.prof c)).2⟩, h.rev c, h.sup c, h.readCopy c⟩

theorem ProfileContext.inRange_ofBaseline {b : Bins Nat} (h : ∀ x, b.get x ≤ 4095) :
    (ProfileContext.ofBaseline b).inRange = true :=
  (ProfileContext.inRange_iff _).mpr ⟨h, fun x => by simp [ProfileContext.ofBaseline], Nat.zero_le _, Nat.zero_le _⟩

theorem ChannelUnit.inRange_warm {u : ChannelUnit} (h : u.inRange = true) {b : Bins Nat} (hb : ∀ x, b.get x ≤ 4095) :
    (ChannelUnit.warm u b).inRange = true := by
  obtain ⟨ctl, eng, _, rev, _, _⟩ := (ChannelUnit.inRange_iff _).mp h
  have trip := ((EngineContext.inRange_iff _).mp eng).2.2.2.2
  simp only [ChannelUnit.inRange_iff, ChannelRecord.inRange_iff, EngineContext.inRange_iff, ReversalContext.inRange_iff,
    SupplyContext.inRange_iff]
  exact ⟨⟨((ChannelRecord.inRange_iff _).mp ctl).1, rfl⟩,
    ⟨Nat.zero_le _, Nat.zero_le _, Nat.zero_le _, Nat.zero_le _, trip⟩, ProfileContext.inRange_ofBaseline hb,
    ⟨rfl, ((ReversalContext.inRange_iff _).mp rev).2⟩, ⟨Nat.zero_le _, Nat.zero_le _, Nat.zero_le _, rfl, Nat.zero_le _⟩, trip⟩

theorem State.InRange.warmReset (h : s.InRange) : s.warmReset.InRange := by
  have hstg := SettingsUnit.inRange_readStore h.store
  have base := ((Image.inRange_iff _).mp ((SettingsUnit.inRange_iff _).mp hstg).1).2.2.1
  unfold State.warmReset
  refine State.InRange.enterPhase (State.InRange.rebind ?_ _) _
  refine
    { h with
      unit := fun c => ?_
      ctx := (by decide : ContextUnit.stale.inRange = true)
      queue := fun _ he => absurd he List.not_mem_nil
      stagger := Nat.zero_le _
      enr := (EnrollmentUnit.inRange_iff _).mpr ⟨Nat.zero_le _, h.rejoinCount⟩
      trk := (TrunkPort.inRange_iff _).mpr ⟨Nat.zero_le _, rfl, rfl⟩
      stg := hstg
      rst := h.rst }
  rw [Oct.get_ofFn]
  exact ChannelUnit.inRange_warm (h.unit c) (base c)

theorem State.InRange.tryWarmReset (h : s.InRange) : s.tryWarmReset.InRange := by
  unfold State.tryWarmReset; split
  · exact h
  · exact h.warmReset

end

end Sys2Proof.Machine
end

section
/-! Steps: what an invariant has to be kept by for every step but a storage fault to keep it. -/

namespace Sys2Proof.Machine

/-- A command read from eight bytes has the code of its first byte. -/
theorem commandOfBytes_code {b : Oct Byte} {k : Command} (h : commandOfBytes b = some k) : commandCodeOf b.a0 = some k.code := by
  unfold commandOfBytes at h
  dsimp only at h
  split at h <;> first | (obtain rfl := Option.some.inj h; assumption) | exact nomatch h

/-- The command of a COMMAND payload has the payload's code. -/
theorem payloadCommand_code {p : CommandPayload} {k : Command} (h : payloadCommand p = some k) :
    commandCodeOf (payloadCode p) = some k.code := by
  cases p with
  | short b => exact commandOfBytes_code h
  | long code ch first values =>
    by_cases hc : commandCodeOf code = some .loadBaseline
    · rw [payloadCommand, if_pos hc] at h
      obtain rfl := Option.some.inj h; exact hc
    · rw [payloadCommand, if_neg hc] at h
      exact nomatch h

/-- A command of a running part does nothing while a cold reset is held, and is its function on a running part. -/
theorem whileRunning_cases {s t : State} {f : State → State} (h : whileRunning s f = .next t) :
    (s.rst.active = true ∧ t = s) ∨ (s.rst.active = false ∧ t = f s) := by
  cases hr : s.rst.active with
  | true => rw [whileRunning_held s f hr] at h; exact .inl ⟨rfl, (Host.Outcome.next.inj h).symm⟩
  | false => rw [whileRunning_running s f hr] at h; exact .inr ⟨rfl, (Host.Outcome.next.inj h).symm⟩

/-- A property that time, the queue of commands and the operations of the rows keep, where the rows take them. -/
structure RowsKeep (P : State → Prop) : Prop where
  ticks : ∀ {s : State} (now free : Nat) (q : List Instr), P s → P { s with now := now, freeCount := free, pending := q }
  coldReset : ∀ {s : State} (cause : ResetCause), P s → P (s.coldReset cause)
  modRst : ∀ {s : State} {f : ResetUnit → ResetUnit}, (∀ r, (f r).active = r.active) →
    (∀ r, r.inRange = true → (f r).inRange = true) → P s → P (s.modRst f)
  coldStart : ∀ {s : State}, s.rst.active = true → P s → P s.coldStart
  takeCycle : ∀ {s : State} (p : CyclePayload), s.rst.active = false → P s → P (s.takeCycle p)
  manage : ∀ {s : State} (path : Path) (code : Byte) (cmd : Option Command), s.rst.active = false →
    (∀ k, cmd = some k → commandCodeOf code = some k.code) → P s → P (s.manage path code cmd)
  setReceiver : ∀ {s : State} (r : Receiver), P s → P (s.setReceiver r)
  assembleReport : ∀ {s : State}, P s → P s.assembleReport
  answerSent : ∀ {s : State}, s.rst.active = false → P s → P s.answerSent
  trunkLost : ∀ {s : State}, P s → P s.trunkLost
  lockInCompletes : ∀ {s : State} {i : Image} {check : BitVec 16}, s.rst.active = false →
    s.stg.write = some (.lockIn i check) → P s → P (s.lockInCompletes i check)
  reopenCompletes : ∀ {s : State}, s.rst.active = false → s.stg.write = some .reopen → P s → P s.reopenCompletes
  storeWriteFails : ∀ {s : State}, P s → P s.storeWriteFails
  checkStep : ∀ {s : State}, s.phase = .run → P s → P { s with stg := checkStepOf s.stg s.now }
  endHeld : ∀ {s : State} (c : Chan), P s → P (s.endHeld c)
  queueExpires : ∀ {s : State} (c : Chan), s.queueDue c = true → P s → P (s.queueExpires c)
  escalationExpires : ∀ {s : State} (c : Chan), P s → P (s.escalationExpires c)
  cycleStart : ∀ {s : State}, P s → P s.cycleStart
  settleOver : ∀ {s : State}, P s → P { s with enr := { s.enr with settle := none } }
  busOn : ∀ {s : State}, s.enr.st = .busOff → P s → P { s with
    enr := { s.enr with st := .settle, settle := some (s.now + Config.settleTicks) }, br := { s.br with busPower := true } }
  rejoinAttempted : ∀ {s : State}, P s → P s.rejoinAttempted
  replySlotRow : ∀ {s : State} (a : Node) (content : SlotContent), s.rst.active = false → P s → P (s.replySlotRow a content)
  slot0Row : ∀ {s : State} (content : SlotContent), s.rst.active = false → P s → P (s.slot0Row content)

section
variable {P : State → Prop} {s t : State}

/-- The row of a command of a running part keeps what its function keeps on a running part. -/
theorem whileRunning_keeps {f : State → State} (hf : s.rst.active = false → P s → P (f s)) (hs : P s)
    (h : whileRunning s f = .next t) : P t := by
  rcases whileRunning_cases h with ⟨-, rfl⟩ | ⟨hr, rfl⟩
  · exact hs
  · exact hf hr hs

/-- A timer row keeps what its expiry keeps. -/
theorem ite_keeps {p : Prop} [Decidable p] {x : State} (hx : p → P x) (hs : P s) : P (if p then x else s) := by
  split
  · next h => exact hx h
  · exact hs

theorem RowsKeep.tick (K : RowsKeep P) (hs : P s) : P s.tick := by
  unfold State.tick; split
  · split
    · exact K.ticks s.now s.freeCount _ hs
    · exact hs
  · exact K.ticks (s := s) (s.now + 1) _ _ hs

theorem RowsKeep.supplySample (K : RowsKeep P) (hs : P s) (vbat : Nat) : P (s.supplySample vbat) := by
  have h1 : P (s.modRst (supplyCounts vbat)) :=
    K.modRst (fun r => (supplyCounts_frame vbat r).1) (fun _ h => ResetUnit.inRange_supplyCounts h vbat) hs
  have hold (r : ResetUnit) (h : r.inRange = true) : (ResetUnit.beginHold r).inRange = true :=
    (ResetUnit.inRange_iff _).mpr ⟨((ResetUnit.inRange_iff _).mp h).1, Nat.zero_le _⟩
  unfold State.supplySample; dsimp only; split
  · exact K.modRst (fun _ => rfl) hold (K.coldReset _ h1)
  · exact h1

theorem RowsKeep.storeWriteComplete (K : RowsKeep P) (hs : P s) (verified : Bool) :
    (execLockInStoreWriteComplete verified s = .next t → P t) ∧ (execReopenStoreWriteComplete verified s = .next t → P t) := by
  constructor
  · refine whileRunning_keeps (fun hr hs => ?_) hs
    split
    · next hw =>
      split
      · exact K.lockInCompletes hr hw hs
      · exact K.storeWriteFails hs
    · exact hs
  · refine whileRunning_keeps (fun hr hs => ?_) hs
    split
    · next hw =>
      split
      · exact K.reopenCompletes hr hw hs
      · exact K.storeWriteFails hs
    · exact hs

/-- A cycle start ends the slots still to end, and starts the cycle. -/
theorem RowsKeep.branchCycleStart (K : RowsKeep P) (hs : P s) (h : execBranchCycleStart s = .next t) : P t :=
  whileRunning_keeps (fun hr hs => ite_keeps (fun _ => K.cycleStart (K.slot0Row _ hr hs)) hs) hs h

/-- Every command but a storage fault keeps what the rows keep. -/
theorem RowsKeep.exec (K : RowsKeep P) {i : Instr} (hi : ∀ p, i ≠ .storageFault p) (hs : P s)
    (h : exec i s = .next t) : P t := by
  have managed {path : Path} {cmd : Command} (h : execManaged path cmd s = .next t) : P t :=
    whileRunning_keeps (fun hr hs => K.manage path _ _ hr (fun k hk => Option.some.inj hk ▸ commandCodeOf_byte _) hs) hs h
  have running {f : State → State} (h : whileRunning s f = .next t) (hf : s.rst.active = false → P s → P (f s)) : P t :=
    whileRunning_keeps hf hs h
  have hold (r : ResetUnit) (h : r.inRange = true) : (ResetUnit.beginHold r).inRange = true :=
    (ResetUnit.inRange_iff _).mpr ⟨((ResetUnit.inRange_iff _).mp h).1, Nat.zero_le _⟩
  cases i with
  | powerOn =>
    obtain rfl := Host.Outcome.next.inj h
    exact K.modRst (fun _ => rfl) hold (K.coldReset _ hs)
  | resetLine low =>
    obtain rfl := Host.Outcome.next.inj h
    cases low with
    | true => exact K.modRst (f := fun r => { r with lineLow := true }) (fun _ => rfl) (fun _ h => h) (K.coldReset _ hs)
    | false => exact K.modRst (f := fun r => { r with lineLow := false }) (fun _ => rfl) (fun _ h => h) hs
  | coldStart =>
    obtain rfl := Host.Outcome.next.inj h
    exact ite_keeps (fun hr => K.coldStart hr.1 hs) hs
  | supplySample vbat => obtain rfl := Host.Outcome.next.inj h; exact K.supplySample hs vbat
  | goodCycleFrame p => exact running (f := fun s => s.takeCycle p) h fun hr hs => K.takeCycle p hr hs
  | goodCommandFrame p =>
    exact running (f := fun s => s.manage .command (payloadCode p) (payloadCommand p)) h fun hr hs =>
      K.manage _ _ _ hr (fun _ => payloadCommand_code) hs
  | frameDiscarded why => exact running (f := fun s => s.setReceiver .hunt) h fun _ hs => K.setReceiver _ hs
  | interByteGap b => exact running (f := fun s => s.setReceiver (receiverByte .hunt b).1) h fun _ hs => K.setReceiver _ hs
  | reportAssembly => exact running h fun _ hs => K.assembleReport hs
  | answerSent => exact running h fun hr hs => K.answerSent hr hs
  | readChannelStatus | readTripRecordPart1 | readTripRecordPart2 | readPeakRatio | readLinkGrade | readNodeIdentity
  | readSettingValue | readBaselineBin | readWorkingBin | readZoneRecord | readRefusalReason | readTeachResult
  | readPartStatus | readCheckValue | restorePosition | resetPart | reopen | writeSetting | loadBaseline | setZone
  | clearZones | teach | lockIn | enroll => exact managed h
  | lockInStoreWriteComplete verified => exact (K.storeWriteComplete hs verified).1 h
  | reopenStoreWriteComplete verified => exact (K.storeWriteComplete hs verified).2 h
  | checkStep => exact running h fun _ hs => ite_keeps (fun hr => K.checkStep hr.1 hs) hs
  | storageFault p => exact absurd rfl (hi p)
  | holdTimerExpiry c => exact running h fun _ hs => ite_keeps (fun _ => K.endHeld c hs) hs
  | queueTimeout c => exact running h fun _ hs => ite_keeps (fun hd => K.queueExpires c hd hs) hs
  | trunkLoss => exact running h fun _ hs => ite_keeps (fun _ => K.trunkLost hs) hs
  | escalationWindowExpiry c => exact running h fun _ hs => K.escalationExpires c hs
  | branchCycleStart => exact K.branchCycleStart hs h
  | nodeSettleExpiry => exact running h fun _ hs => ite_keeps (fun _ => K.settleOver hs) hs
  | busOffExpiry => exact running h fun _ hs => ite_keeps (fun hb => K.busOn hb.1 hs) hs
  | rejoinAttempt => exact running h fun _ hs => K.rejoinAttempted hs
  | replySlotEnd a content => exact running h fun hr hs => K.replySlotRow a content hr hs
  | slot0End content => exact running h fun hr hs => K.slot0Row content hr hs

/-- Every step that takes no storage fault keeps what the rows keep. -/
theorem RowsKeep.step (K : RowsKeep P) (hf : ∀ p rest, s.pending ≠ .storageFault p :: rest) (hs : P s)
    (h : step s = .next t) : P t := by
  unfold Machine.step at h
  split at h
  · obtain rfl := Host.Outcome.next.inj h; exact K.tick hs
  · next i rest hp =>
    exact K.exec (fun p hi => hf p rest (hi ▸ hp)) (K.ticks s.now s.freeCount rest hs) h

end

end Sys2Proof.Machine
end

section
/-! Ranges: management, the trunk port and storage faults; every step keeps the ranges. -/

namespace Sys2Proof.Machine

section
variable {s : State}

/-! ### The commands by their owning rules -/

theorem Image.inRange_setChan {i : Image} (h : i.inRange = true) (c : Chan) {cs : ChanSettings} (hc : cs.inRange = true) :
    Image.inRange { i with chan := i.chan.set c cs } = true := by
  obtain ⟨chan, rest⟩ := (Image.inRange_iff _).mp h
  exact (Image.inRange_iff _).mpr ⟨(Oct.allGood_iff _ _).mp (Oct.allGood_set c ((Oct.allGood_iff _ _).mpr chan) hc), rest⟩

theorem Image.inRange_setGlob {i : Image} (h : i.inRange = true) {g : GlobSettings} (hg : g.inRange = true) :
    Image.inRange { i with glob := g } = true := by
  obtain ⟨chan, zones, baseline, -⟩ := (Image.inRange_iff _).mp h
  exact (Image.inRange_iff _).mpr ⟨chan, zones, baseline, hg⟩

theorem Image.inRange_setZones {i : Image} (h : i.inRange = true) (c : Chan) {zs : List Zone} (hz : zonesInRange zs = true) :
    Image.inRange { i with zones := i.zones.set c zs } = true := by
  obtain ⟨chan, zones, rest⟩ := (Image.inRange_iff _).mp h
  exact (Image.inRange_iff _).mpr
    ⟨chan, (Oct.allGood_iff _ _).mp (Oct.allGood_set c ((Oct.allGood_iff _ _).mpr zones) hz), rest⟩

theorem zonesInRange_iff (zs : List Zone) : zonesInRange zs = true ↔ zs.length ≤ 6 ∧ ∀ z ∈ zs, z.inRange = true := by
  simp only [zonesInRange, Bool.and_eq_true, upTo_iff, List.all_eq_true]

theorem Zone.inRange_iff (z : Zone) : z.inRange = true ↔
    (-255 ≤ z.start ∧ z.start ≤ 4095) ∧ (-255 ≤ z.stop ∧ z.stop ≤ 4095) ∧ z.start ≤ z.stop ∧ z.kind ≤ 2 ∧
    (-128 ≤ z.adjust ∧ z.adjust ≤ 127) := by
  simp only [Zone.inRange, Bool.and_eq_true, upTo_iff, within_iff, decide_eq_true_eq, and_assoc]

theorem State.InRange.onChannel (h : s.InRange) {f : Chan → Answered} (hf : ∀ c, (f c).state.InRange) (ch : Byte) :
    (s.onChannel ch f).state.InRange := by
  unfold State.onChannel; split
  · exact hf _
  · exact h

theorem State.InRange.okWith (h : s.InRange) (fields : List (Nat × Int)) : (s.okWith fields).state.InRange := h

theorem State.InRange.readPeak (h : s.InRange) (c : Chan) : (s.readPeak c).state.InRange := by
  have ⟨f16, acc, blank, _, trip⟩ := (EngineContext.inRange_iff _).mp (h.eng c)
  refine State.InRange.okWith (State.InRange.modEng h ?_) _
  exact (EngineContext.inRange_iff _).mpr ⟨f16, acc, blank, Nat.zero_le _, trip⟩

theorem State.InRange.readTripPart1 (h : s.InRange) (c : Chan) : (s.readTripPart1 c).state.InRange := by
  have trip := ((EngineContext.inRange_iff _).mp (h.eng c)).2.2.2.2
  refine State.InRange.okWith (State.InRange.modChan h ?_) _
  exact (ChannelUnit.inRange_iff _).mpr ⟨h.ctl c, h.eng c, h.prof c, h.rev c, h.sup c, trip⟩

theorem State.InRange.readGrade (h : s.InRange) (c : Chan) : (s.readGrade c).state.InRange := by
  unfold State.readGrade; split
  · split
    · exact h
    · refine State.InRange.okWith (State.InRange.modNode h ?_) _
      obtain ⟨since, run, winPos, winBad, grade, -⟩ := (NodeContext.inRange_iff _).mp (h.node _)
      exact (NodeContext.inRange_iff _).mpr ⟨since, run, winPos, winBad, grade, grade⟩
  · exact h

theorem State.InRange.read (h : s.InRange) (item first second : Byte) : (s.read item first second).state.InRange := by
  unfold State.read; split
  · exact h.onChannel (fun _ => h) _
  · exact h.onChannel h.readTripPart1 _
  · exact h.onChannel (fun _ => h) _
  · exact h.onChannel h.readPeak _
  · exact h.onChannel h.readGrade _
  · unfold State.readIdentity; split
    · exact h
    · split <;> exact h
  · unfold State.readSetting; split
    · exact h.onChannel (fun _ => h) _
    · exact h
    · exact h
  · exact h.onChannel (fun c => by unfold State.readBaseline; split <;> exact h) _
  · exact h.onChannel (fun c => by unfold State.readWorking; split <;> exact h) _
  · exact h.onChannel (fun c => by unfold State.readZone; dsimp only; split <;> exact h) _
  · exact h.onChannel (fun _ => h) _
  · exact h.onChannel (fun _ => h) _
  all_goals exact h

theorem State.InRange.restorePosition (h : s.InRange) (c : Chan) (position : BitVec 16) :
    (s.restorePosition c position).state.InRange := by
  have ht : (0 : Int) ≤ (s.cset c).travel := Int.natCast_nonneg _
  have hmax : ((s.cset c).travel : Int) ≤ 4032 := (h.cset c .travel).2
  have hp := clamp_within ht position.toInt
  unfold State.restorePosition; split
  · exact h.setPos (f := fun r => { r with pos := clamp 0 (s.cset c).travel position.toInt, referenced := true })
      (p := clamp 0 (s.cset c).travel position.toInt) ⟨by omega, by omega⟩ rfl rfl
  · exact h

theorem State.InRange.writeChanSetting (h : s.InRange) (c : Chan) (k : ChanSetting) (v : Int) :
    (s.writeChanSetting c k v).InRange := by
  have h1 : (s.modImage fun i => { i with chan := i.chan.set c ((i.chan.get c).write k v) }).InRange :=
    h.modImage (Image.inRange_setChan h.image c
      (ChanSettings.inRange_write (((Image.inRange_iff _).mp h.image).1 c) k v))
  unfold State.writeChanSetting; dsimp only; split
  · exact h1.rebind _
  · exact h1.copyBaseline c
  · exact h1.copyBaseline c
  · exact h1

theorem State.InRange.writeSetting (h : s.InRange) (ch id : Byte) (value : BitVec 16) :
    (s.writeSetting ch id value).state.InRange := by
  unfold State.writeSetting; split
  · refine h.onChannel (fun c => ?_) _
    split
    · exact h
    · exact h.writeChanSetting c _ _
  · split
    · exact h
    · refine State.InRange.okWith (State.InRange.modImage h ?_) _
      exact Image.inRange_setGlob h.image (GlobSettings.inRange_write ((Image.inRange_iff _).mp h.image).2.2.2 _ _)
  · exact h

theorem loadBins_le {base : Bins Nat} (h : ∀ b, base.get b ≤ 4095) (first : Nat) (values : Oct (BitVec 16)) (b : Fin 64) :
    (loadBins base first values).get b ≤ 4095 := by
  unfold loadBins; rw [Bins.get_ofFn]; split
  · exact Int.toNat_le.mpr (clamp_within (by decide) _).2
  · exact h b

theorem State.InRange.loadBaseline (h : s.InRange) (c : Chan) (first : Byte) (values : Oct (BitVec 16)) :
    (s.loadBaseline c first values).state.InRange := by
  unfold State.loadBaseline; split
  · exact h
  · split
    · exact h
    · refine State.InRange.okWith (State.InRange.copyBaseline (State.InRange.modImage h ?_) c) _
      exact Image.inRange_setBaseline h.image c (loadBins_le (h.baseline c) _ _)

theorem State.InRange.setZone (h : s.InRange) (c : Chan) (index : Byte) (start stop : BitVec 13) (kind : BitVec 4)
    (adjust : BitVec 8) : (s.setZone c index start stop kind adjust).state.InRange := by
  have ⟨hlen, hall⟩ := (zonesInRange_iff _).mp (((Image.inRange_iff _).mp h.image).2.1 c)
  unfold State.setZone; split
  · exact h
  · next hindex =>
    split
    · exact h
    · next k hk =>
      have hkind : ZoneKind.code k ≤ 2 := by cases k <;> decide
      have hadjust : -128 ≤ adjust.toInt ∧ adjust.toInt ≤ 127 :=
        ⟨BitVec.le_toInt adjust, Int.le_of_lt_add_one (BitVec.toInt_lt)⟩
      dsimp only; split
      · exact h
      · next hord =>
        split
        · exact h
        · have hz := (Zone.inRange_iff { start := clamp (-255) 4095 start.toInt, stop := clamp (-255) 4095 stop.toInt,
                                         kind := ZoneKind.code k, adjust := adjust.toInt }).mpr
            ⟨clamp_within (by decide) _, clamp_within (by decide) _, not_lt.mp hord, hkind, hadjust⟩
          refine State.InRange.okWith (State.InRange.modImage h ?_) _
          refine Image.inRange_setZones h.image c ((zonesInRange_iff _).mpr ?_)
          split
          · refine ⟨by simpa using hlen, fun z hm => ?_⟩
            rcases List.mem_or_eq_of_mem_set hm with hm | rfl
            · exact hall z hm
            · exact hz
          · refine ⟨by rw [List.length_append, List.length_singleton]; omega, fun z hm => ?_⟩
            rcases List.mem_append.mp hm with hm | hm
            · exact hall z hm
            · rw [List.mem_singleton.mp hm]; exact hz

theorem State.InRange.clearZones (h : s.InRange) (c : Chan) : (s.clearZones c).state.InRange := by
  unfold State.clearZones; split
  · exact h
  · refine State.InRange.okWith (State.InRange.modImage h ?_) _
    exact Image.inRange_setZones h.image c rfl

theorem State.InRange.teach (h : s.InRange) (c : Chan) : (s.teach c).state.InRange := by
  have ⟨working, stroke, visited, _⟩ := (ProfileContext.inRange_iff _).mp (h.prof c)
  unfold State.teach; split
  · refine State.InRange.okWith (State.InRange.joinQueue (h.modProf ?_) c rfl) _
    exact (ProfileContext.inRange_iff _).mpr ⟨working, stroke, visited, Nat.zero_le _⟩
  · exact h

theorem State.InRange.lockIn (h : s.InRange) : s.lockIn.state.InRange := by
  unfold State.lockIn; split
  · exact h
  · split
    · exact h
    · exact { h with stg := (SettingsUnit.inRange_iff _).mpr ⟨h.image, h.store, h.image, h.scanPos⟩ }

theorem State.InRange.perform (h : s.InRange) (cmd : Command) : (s.perform cmd).state.InRange := by
  cases cmd with
  | read item first second => exact h.read item first second
  | restorePosition ch position => exact h.onChannel (fun c => h.restorePosition c position) ch
  | resetPart => unfold State.perform State.resetPart; dsimp only; split <;> exact h
  | reopen =>
    unfold State.perform State.reopen; dsimp only; split
    · exact { h with stg := (SettingsUnit.inRange_iff _).mpr ⟨h.image, h.store, rfl, h.scanPos⟩ }
    · exact h
  | writeSetting ch id value => exact h.writeSetting ch id value
  | loadBaseline ch first values => exact h.onChannel (fun c => h.loadBaseline c first values) ch
  | setZone ch index start stop kind adjust => exact h.onChannel (fun c => h.setZone c index start stop kind adjust) ch
  | clearZones ch => exact h.onChannel h.clearZones ch
  | teach ch => exact h.onChannel h.teach ch
  | lockIn => exact h.lockIn
  | enroll =>
    unfold State.perform State.enroll; dsimp only; split
    · exact h
    · exact h.startEnroll

/-! ### Dispatch and delivery -/

theorem State.InRange.withTrunk (h : s.InRange) {k : TrunkPort} (hk : k.inRange = true) : State.InRange { s with trk := k } :=
  { h with trk := hk }

theorem State.InRange.judge (h : s.InRange) (path : Path) (code : Byte) (cmd : Option Command) :
    (s.judge path code cmd).state.InRange := by
  unfold State.judge; split
  · exact h
  · unfold State.dispatch; split
    · exact h
    · split
      · exact h
      · split
        · exact h
        · split
          · exact h
          · split
            · exact h
            · exact h.perform _

theorem State.InRange.joinAnswers (h : s.InRange) (a : Answer) : (s.joinAnswers a).InRange := by
  have ⟨_, rest⟩ := (TrunkPort.inRange_iff _).mp h.trk
  unfold State.joinAnswers; split
  · next hlt =>
    refine h.withTrunk ((TrunkPort.inRange_iff _).mpr ⟨?_, rest⟩)
    rw [List.length_append]; exact hlt
  · split
    · exact h.tryWarmReset
    · exact h

theorem State.InRange.deliver (h : s.InRange) (path : Path) (r : Reply) (resets : Bool) : (s.deliver path r resets).InRange := by
  have ⟨answers, collector, _⟩ := (TrunkPort.inRange_iff _).mp h.trk
  cases path with
  | command => exact h.joinAnswers _
  | side => exact h.withTrunk ((TrunkPort.inRange_iff _).mpr ⟨answers, collector, rfl⟩)

theorem TrunkPort.inRange_arrived {k : TrunkPort} (h : k.inRange = true) (path : Path) : (TrunkPort.arrived k path).inRange = true := by
  have ⟨answers, _, response⟩ := (TrunkPort.inRange_iff _).mp h
  cases path with
  | command => exact h
  | side => exact (TrunkPort.inRange_iff _).mpr ⟨answers, rfl, response⟩

theorem State.InRange.manage (h : s.InRange) (path : Path) (code : Byte) (cmd : Option Command) :
    (s.manage path code cmd).InRange :=
  ((h.withTrunk (TrunkPort.inRange_arrived h.trk path)).judge path code cmd).deliver path _ _

/-! ### The trunk port (09) -/

theorem TrunkPort.inRange_abandon {k : TrunkPort} (h : k.inRange = true) : (TrunkPort.abandon k).inRange = true :=
  (TrunkPort.inRange_iff _).mpr ⟨((TrunkPort.inRange_iff _).mp h).1, rfl, rfl⟩

theorem TrunkPort.inRange_collect {k : TrunkPort} (h : k.inRange = true) (marker : Byte) (fragment : BitVec 16) :
    (TrunkPort.collect k marker fragment).1.inRange = true := by
  have ⟨answers, _, response⟩ := (TrunkPort.inRange_iff _).mp h
  have collecting (x : Collector) (hx : x.inRange = true) : TrunkPort.inRange { k with collector := x } = true :=
    (TrunkPort.inRange_iff _).mpr ⟨answers, hx, response⟩
  unfold TrunkPort.collect; split
  · split
    · exact h
    · exact (TrunkPort.inRange_iff _).mpr ⟨answers, rfl, response⟩
  · split
    · exact (TrunkPort.inRange_iff _).mpr ⟨answers, rfl, rfl⟩
    · split
      · unfold TrunkPort.nextFragment; split
        · next hc _ => exact collecting _ (by rw [hc]; rfl)
        · next hc _ => exact collecting _ (by rw [hc]; rfl)
        · exact collecting _ rfl
        · exact TrunkPort.inRange_abandon h
      · exact TrunkPort.inRange_abandon h

theorem TrunkPort.inRange_chooseSide {k : TrunkPort} (h : k.inRange = true) (marker : Byte) :
    (TrunkPort.chooseSide k marker).2.inRange = true := by
  have ⟨answers, collector, response⟩ := (TrunkPort.inRange_iff _).mp h
  unfold TrunkPort.chooseSide; split
  · next r hr =>
    split
    · refine (TrunkPort.inRange_iff _).mpr ⟨answers, collector, ?_⟩
      rw [hr, absentOr_some, within_iff] at response
      dsimp only; split
      · rfl
      · rw [absentOr_some, within_iff]; dsimp only; omega
    · exact h
  · exact h

theorem State.InRange.joinReport (h : s.InRange) (marker : Byte) : (s.joinReport marker).InRange :=
  (h.withTrunk (k := { (TrunkPort.chooseSide s.trk marker).2 with resetArmed := false })
    (TrunkPort.inRange_chooseSide h.trk marker)).joinAnswers _

theorem ContextUnit.inRange_contextOf (p : CyclePayload) : (contextOf p).inRange = true := by
  refine (ContextUnit.inRange_iff _).mpr ⟨Nat.le_of_lt_succ p.speed.isLt, Nat.le_of_lt_succ (BitVec.isLt _), ?_⟩
  show -40 ≤ ((min p.temp.toNat 127 : Nat) : Int) - 40 ∧ ((min p.temp.toNat 127 : Nat) : Int) - 40 ≤ 87
  omega

theorem State.InRange.sideCommand (h : s.InRange) (b : Option (Oct Byte)) : (s.sideCommand b).InRange := by
  cases b with
  | none => exact h
  | some b => exact h.manage .side _ _

theorem State.InRange.bump (h : s.InRange) : s.bump.InRange := { h with }

theorem State.InRange.ordersAndSide (h : s.InRange) (orders : Oct Byte) (command : Option (Oct Byte)) :
    (s.ordersAndSide orders command).InRange := by
  unfold State.ordersAndSide; split
  · exact h.orderGates orders
  · split
    · exact (h.bump.orderGates orders).sideCommand _
    · exact (h.bump.sideCommand _).orderGates orders

theorem State.InRange.takeCycle (h : s.InRange) (p : CyclePayload) : (s.takeCycle p).InRange := by
  have h1 : (State.restartLoss { s with ctx := contextOf p, trk := { s.trk with rx := .hunt } }).InRange :=
    { h with ctx := ContextUnit.inRange_contextOf p }
  exact ((h1.withTrunk (TrunkPort.inRange_collect h1.trk p.marker p.fragment)).ordersAndSide _ _).joinReport _

theorem State.InRange.assembleReport (h : s.InRange) : s.assembleReport.InRange := by
  have ⟨answers, rest⟩ := (TrunkPort.inRange_iff _).mp h.trk
  unfold State.assembleReport; split
  · next hans =>
    refine { h with unit := fun c => ?_, trk := (TrunkPort.inRange_iff _).mpr ⟨?_, rest⟩ }
    · show ((s.chans.map fun u : ChannelUnit => { u with eng := { u.eng with tripFlag := false } }).get c).inRange = true
      rw [Oct.get_map]; exact h.unit c
    · rw [hans] at answers; exact answers
  · exact h

theorem State.InRange.answerSent (h : s.InRange) : s.answerSent.InRange := by
  have ⟨answers, rest⟩ := (TrunkPort.inRange_iff _).mp h.trk
  unfold State.answerSent; split
  · exact h
  · next a waiting hans =>
    rw [hans] at answers
    have h1 : State.InRange { s with trk := { s.trk with answers := waiting } } :=
      h.withTrunk ((TrunkPort.inRange_iff _).mpr ⟨le_trans (Nat.le_succ _) answers, rest⟩)
    split
    · dsimp only; split
      · exact h1.tryWarmReset
      · exact h1
    · exact h

theorem State.InRange.trunkLost (h : s.InRange) : s.trunkLost.InRange := by
  have ⟨answers, _, _⟩ := (TrunkPort.inRange_iff _).mp h.trk
  have step (t : State) (c : Chan) (ht : t.InRange) : (t.channelTrunkLoss c).InRange := by
    have h1 : (t.modCtl c fun r => { r with lastOrder := Order.initial }).InRange := ht.modCtl (ht.ctl c)
    exact (h1.endHeld c).flushEntry c
  have h0 : State.InRange { s with ctx := ContextUnit.stale, trk := TrunkPort.lost s.trk } :=
    { h with ctx := (by decide : ContextUnit.stale.inRange = true)
             trk := (TrunkPort.inRange_iff _).mpr ⟨answers, rfl, rfl⟩ }
  have h1 := State.InRange.foldl (fun t c ht => step t c ht) h0
  unfold State.trunkLost; dsimp only
  generalize octIndexes.foldl State.channelTrunkLoss _ = t at h1 ⊢
  exact { h1 with queue := fun _ he => absurd he List.not_mem_nil }

/-! ### Storage faults that leave a value in its range (10 R189) -/

theorem State.InRange.putAt (h : s.InRange) {p : StoragePlace} (hp : p.inRange = true) : (s.putAt p).InRange := by
  have ⟨chan, zones, baseline, glob⟩ := (Image.inRange_iff _).mp h.image
  cases p <;> simp only [State.putAt, StoragePlace.inRange, upTo_iff, within_iff] at hp ⊢
  case chanSetting c id v =>
    refine State.InRange.modImage h ?_
    exact Image.inRange_setChan h.image c (ChanSettings.inRange_put (chan c) hp)
  case globSetting id v =>
    refine State.InRange.modImage h ?_
    exact Image.inRange_setGlob h.image (GlobSettings.inRange_put glob hp)
  case zones c zs =>
    refine State.InRange.modImage h ?_
    exact Image.inRange_setZones h.image c hp
  case baselineBin c b v =>
    refine State.InRange.modImage h ?_
    refine Image.inRange_setBaseline h.image c fun x => ?_
    rw [Bins.get_set]; split
    · exact hp
    · exact baseline c x
  case workingBin c b v =>
    obtain ⟨working, rest⟩ := (ProfileContext.inRange_iff _).mp (h.prof c)
    refine State.InRange.modProf h ?_
    refine (ProfileContext.inRange_iff _).mpr ⟨fun x => ?_, rest⟩
    rw [Bins.get_set]; split
    · exact hp
    · exact working x
  case channel => exact h.modCtl hp
  case engine => exact h.modEng hp
  case profile => exact h.modProf hp
  case reversal => exact h.modRev hp
  case supply => exact h.modSup hp
  case readCopy c r =>
    refine State.InRange.modChan h ?_
    exact (ChannelUnit.inRange_iff _).mpr ⟨h.ctl c, h.eng c, h.prof c, h.rev c, h.sup c, hp⟩
  case context => exact { h with ctx := hp }
  case arbiter r =>
    simp only [SlotArbiter.inRange, Bool.and_eq_true, List.all_eq_true, upTo_iff] at hp
    exact { h with queue := hp.1.2, stagger := hp.2 }
  case branchNode => exact h.modNode hp
  case branchBus => exact { h with place := hp }
  case enrollment => exact { h with enr := hp }
  case trunk => exact { h with trk := hp }
  case settings => exact { h with stg := hp }
  case resets => exact { h with rst := hp }
  case clock => exact { h with }

end

/-! ### Every step -/

/-- The operations of every row keep the ranges. -/
theorem rowsKeep_inRange : RowsKeep State.InRange where
  ticks _ _ _ h := { h with }
  coldReset cause h := h.coldReset cause
  modRst _ hf h := h.modRst (hf _ h.rst)
  coldStart _ h := h.coldStart
  takeCycle p _ h := h.takeCycle p
  manage path code cmd _ _ h := h.manage path code cmd
  setReceiver _ h := { h with }
  assembleReport h := h.assembleReport
  answerSent _ h := h.answerSent
  trunkLost h := h.trunkLost
  lockInCompletes _ hw h := h.lockInCompletes (h.writing hw) _
  reopenCompletes _ _ h := h.reopenCompletes
  storeWriteFails h := h.storeWriteFails
  checkStep _ h := { h with stg := SettingsUnit.inRange_checkStepOf h.stg _ }
  endHeld c h := h.endHeld c
  queueExpires c _ h := h.queueExpires c
  escalationExpires c h := by
    unfold State.escalationExpires; split
    · exact h.modRev (ReversalContext.inRange_clearLevel (h.rev c))
    · exact h
  cycleStart h := h.cycleStart
  settleOver h := { h with }
  busOn _ h := { h with }
  rejoinAttempted h := h.rejoinAttempted
  replySlotRow a content _ h := h.replySlotRow a content
  slot0Row content _ h := h.slot0Row content

theorem step_inRange {s t : State} (h : s.InRange) (hp : ∀ p rest, s.pending = .storageFault p :: rest → p.inRange = true)
    (hstep : step s = .next t) : t.InRange := by
  by_cases hf : ∃ p rest, s.pending = .storageFault p :: rest
  · obtain ⟨p, rest, hq⟩ := hf
    unfold step at hstep
    rw [hq] at hstep
    change execStorageFault p { s with pending := rest } = .next t at hstep
    unfold execStorageFault at hstep
    split at hstep
    · obtain rfl := Host.Outcome.next.inj hstep
      exact State.InRange.putAt (s := { s with pending := rest }) { h with } (hp p rest hq)
    · exact nomatch hstep
  · exact rowsKeep_inRange.step (fun p rest hq => hf ⟨p, rest, hq⟩) h hstep

end Sys2Proof.Machine

namespace Sys2Proof.Proofs

open Sys2Proof.Machine

/-- Settles O59: the ranges hold block by block (`State.InRange`), and the operations of every row keep them. -/
theorem everyStepKeepsTheRanges : Obligations.EveryStepKeepsTheRanges := by
  intro s t h hp hstep
  rw [State.inRange_iff] at *
  exact step_inRange h hp hstep

end Sys2Proof.Proofs
end

section
/-! Orders: the tests of the order gate as the statements name them (01 R18 to R21). -/

namespace Sys2Proof.Machine

open Sys2Proof.Claim

/-! ### Directions and targets -/

theorem State.presetTarget_eq (s : State) (c : Chan) (o : Order) : s.presetTarget c o = presetTo s c o := by
  have hn : (0 : Int) ≤ ((s.cset c).presetOf o.preset : Int) := Int.natCast_nonneg _
  unfold State.presetTarget presetTo clamp
  show (if _ then _ else if ((s.cset c).travel : Int) < _ then _ else _) =
    ((min (s.cset c).travel ((s.cset c).presetOf o.preset) : Nat) : Int)
  split
  · omega
  · split <;> omega

/-- The direction of an order is the one it goes in. -/
theorem State.orderDir_eq_some (s : State) (c : Chan) (o : Order) (d : Dir) : s.orderDir c o = some d ↔ goes s c o d := by
  have hp := s.presetTarget_eq c o
  obtain ⟨kind, source, preset⟩ := o
  unfold State.orderDir
  rw [hp, show s.chan c = s.chans.get c from rfl]
  cases kind with
  | preset =>
    dsimp only
    by_cases h1 : (s.chans.get c).ctl.pos < presetTo s c ⟨.preset, source, preset⟩
    · have h2 : ¬presetTo s c ⟨.preset, source, preset⟩ < (s.chans.get c).ctl.pos := by omega
      cases d <;> simp [goes, h1, h2]
    · by_cases h2 : presetTo s c ⟨.preset, source, preset⟩ < (s.chans.get c).ctl.pos
      · cases d <;> simp [goes, h1, h2]
      · cases d <;> simp [goes, h1, h2]
  | _ => cases d <;> simp [goes]

/-- An order into motion is taken with no motion exactly where it stays put. -/
theorem State.takesNoMotion_iff (s : State) (c : Chan) {o : Order} (h : wantsMotion o) :
    s.takesNoMotion c o = true ↔ staysPut s c o := by
  have hp := s.presetTarget_eq c o
  have hd := s.orderDir_eq_some c o
  obtain ⟨hnone, hstop⟩ := h
  unfold State.takesNoMotion
  cases hdir : s.orderDir c o with
  | none =>
    have hno : ∀ d, ¬goes s c o d := fun d hg => by rw [← hd, hdir] at hg; cases hg
    have h1 := hno .toOpen
    have h2 := hno .toClosed
    simp only [goes, not_or, not_and] at h1 h2
    have hk : o.kind = .preset := by
      obtain ⟨kind, source, preset⟩ := o
      cases kind <;> simp_all
    exact iff_of_true rfl (.inl ⟨hk, le_antisymm (not_lt.mp (h1.2.2 hk)) (not_lt.mp (h2.2.2 hk))⟩)
  | some d =>
    have hg := (hd d).mp hdir
    cases d with
    | toClosed =>
      refine iff_of_false Bool.false_ne_true ?_
      rintro (⟨hk, heq⟩ | ⟨hk | hk, -⟩) <;> simp_all [goes]
    | toOpen =>
      simp only [goes] at hg
      simp only [Bool.and_eq_true, decide_eq_true_eq, staysPut]
      constructor
      · rintro ⟨⟨hk, href⟩, hpos⟩
        exact .inr ⟨by rcases hg with h | h | h <;> simp_all, href, hpos⟩
      · rintro (⟨hk, heq⟩ | ⟨hk, href, hpos⟩)
        · rcases hg with h | h | ⟨-, h⟩ <;> simp_all
        · exact ⟨⟨by rcases hk with h | h <;> simp [h], href⟩, hpos⟩

theorem State.carried_eq_some (s : State) (c : Chan) (m : Motion) : s.carried c = some m ↔ carries s c m := by
  show (match (s.chans.get c).ctl.st with
    | .waiting => (s.entryOf c).map Entry.motion
    | .opening => (s.chans.get c).ctl.motion
    | .closing => (s.chans.get c).ctl.motion
    | _ => none) = some m ↔ _
  unfold carries
  cases hst : (s.chans.get c).ctl.st <;> simp [State.entryOf]

theorem isHeldKind_iff (o : Order) : isHeldKind o = true ↔ o.kind = .openHeld ∨ o.kind = .closeHeld := by simp [isHeldKind]

theorem isHeldUser_iff (o : Order) : isHeldUser o = true ↔ heldUser o := by simp [isHeldUser, heldUser, isHeldKind_iff]

theorem intoMotion_iff (o : Order) : intoMotion o = true ↔ wantsMotion o := by simp [intoMotion, wantsMotion]

theorem isTaken_iff (s : State) (c : Chan) (o : Order) :
    isTaken o (decide (o ≠ (s.chans.get c).ctl.lastOrder)) = true ↔ taken s c o := by
  simp [isTaken, taken, isHeldKind_iff, or_assoc]

/-- An order that goes in a direction is one into motion. -/
theorem wantsMotion_of_goes {s : State} {c : Chan} {o : Order} {d : Dir} (h : goes s c o d) : wantsMotion o := by
  unfold wantsMotion
  cases d <;> rcases h with h | h | ⟨h, -⟩ <;> simp [h]

/-! ### The refusal checks (01 R20) -/

theorem State.linkGrade_eq (s : State) (c : Chan) : s.linkGrade c = gradeOf s c := by
  have hchan : s.chan c = s.chans.get c := rfl
  have hcset : s.cset c = s.stg.image.chan.get c := rfl
  unfold State.linkGrade gradeOf nodeOf
  rw [hchan, hcset]
  by_cases ha : 1 ≤ (s.stg.image.chan.get c).nodeAddr ∧ (s.stg.image.chan.get c).nodeAddr ≤ 8
  · simp only [dif_pos ha]
  · simp only [dif_neg ha, ite_self]

/-- The refusal reasons in the order of their checks. -/
def refusalReasons : List RefusalReason :=
  [.notReady, .absent, .inhibited, .reversing, .fallback, .notCommissioned, .unreferenced, .escalated, .lockout, .degraded]

/-- The check of a reason, as `State.refusalChecks` lists it. -/
def State.refusalCheck (s : State) (c : Chan) (o : Order) : RefusalReason → Bool
  | .notReady => decide (s.stg.phase = .starting)
  | .absent => decide ((s.chans.get c).ctl.st = .absent)
  | .inhibited => decide ((s.chans.get c).ctl.st = .inhibited)
  | .reversing => decide ((s.chans.get c).ctl.st = .reversing)
  | .fallback => s.stg.configFault && (intoMotion o && !isHeldUser o)
  | .notCommissioned => decide (s.stg.phase = .setup) && (intoMotion o && !isHeldUser o)
  | .unreferenced => !(s.chans.get c).ctl.referenced && (intoMotion o && !isHeldUser o)
  | .escalated => (s.orderCloses c o && !isHeldUser o) && decide ((s.chans.get c).rev.level = 3)
  | .lockout => (s.orderCloses c o && !isHeldUser o) && decide (1 ≤ (s.chans.get c).rev.level)
  | .degraded => s.orderCloses c o && s.degraded c && (decide (o.kind = .closeExpress) || decide (o.source ≠ .user))

theorem State.refusalOf_eq_find (s : State) (c : Chan) (o : Order) :
    s.refusalOf c o = refusalReasons.find? (s.refusalCheck c o) := by
  have h : s.refusalChecks c o = refusalReasons.map fun r => (s.refusalCheck c o r, r) := rfl
  rw [State.refusalOf, h, List.find?_map, Option.map_map]
  exact Option.map_id'

theorem State.refusalCheck_iff (s : State) (c : Chan) (o : Order) (why : RefusalReason) :
    s.refusalCheck c o why = true ↔ checkApplies s c o why := by
  have hsource : o.source ≠ .user ↔ o.source = .rain ∨ o.source = .global := by cases o.source <;> simp
  have hcloses : s.orderCloses c o = true ↔ wantsClose s c o := by
    rw [State.orderCloses, decide_eq_true_iff]; exact s.orderDir_eq_some c o .toClosed
  have hdegraded : s.degraded c = true ↔ gradeOf s c ≤ s.stg.image.glob.degradedGrade := by
    rw [State.degraded, decide_eq_true_iff, s.linkGrade_eq]; rfl
  have hheld : isHeldUser o = false ↔ ¬heldUser o := by rw [← isHeldUser_iff, Bool.not_eq_true]
  cases why <;>
    simp only [State.refusalCheck, checkApplies, Bool.and_eq_true, Bool.or_eq_true, Bool.not_eq_true', decide_eq_true_eq,
      intoMotion_iff, hheld, hcloses, hdegraded, hsource, and_assoc]

/-- In a list sorted by a number, `find?` answers the item of the lowest number that passes. -/
theorem find?_eq_some_of_sorted {α : Type} (f : α → Nat) (p : α → Bool) :
    ∀ {l : List α}, l.Pairwise (fun x y => f x < f y) → ∀ w, l.find? p = some w ↔
      w ∈ l ∧ p w = true ∧ ∀ x ∈ l, f x < f w → p x = false
  | [], _, w => by simp
  | a :: l, hs, w => by
    have ⟨ha, hl⟩ := List.pairwise_cons.mp hs
    cases hp : p a with
    | true =>
      rw [List.find?_cons_of_pos hp]
      constructor
      · rintro ⟨⟩
        exact ⟨List.mem_cons_self, hp, fun x hx hlt => by
          rcases List.mem_cons.mp hx with rfl | hx
          · exact absurd hlt (lt_irrefl _)
          · exact absurd hlt (not_lt.mpr (ha x hx).le)⟩
      · rintro ⟨hw, -, hfirst⟩
        rcases List.mem_cons.mp hw with rfl | hw
        · rfl
        · rw [hfirst a List.mem_cons_self (ha w hw)] at hp; cases hp
    | false =>
      rw [List.find?_cons_of_neg (by simp [hp]), find?_eq_some_of_sorted f p hl w]
      constructor
      · rintro ⟨hw, hpw, hfirst⟩
        exact ⟨List.mem_cons_of_mem _ hw, hpw, List.forall_mem_cons.mpr ⟨fun _ => hp, hfirst⟩⟩
      · rintro ⟨hw, hpw, hfirst⟩
        refine ⟨(List.mem_cons.mp hw).resolve_left ?_, hpw, (List.forall_mem_cons.mp hfirst).2⟩
        rintro rfl; rw [hp] at hpw; cases hpw

theorem mem_refusalReasons (why : RefusalReason) : why ∈ refusalReasons := by cases why <;> decide

/-- The first of the ten checks that applies gives the reason of a refusal (01 R20). -/
theorem State.refusalOf_eq_some (s : State) (c : Chan) (o : Order) (why : RefusalReason) :
    s.refusalOf c o = some why ↔
      checkApplies s c o why ∧ ∀ other, checkNumber other < checkNumber why → ¬checkApplies s c o other := by
  rw [s.refusalOf_eq_find, find?_eq_some_of_sorted checkNumber _ (by decide)]
  simp only [mem_refusalReasons, true_and, forall_const, s.refusalCheck_iff, ← Bool.not_eq_true]

theorem State.refusalOf_eq_none (s : State) (c : Chan) (o : Order) :
    s.refusalOf c o = none ↔ ∀ other, ¬checkApplies s c o other := by
  simp only [s.refusalOf_eq_find, List.find?_eq_none, mem_refusalReasons, forall_const, s.refusalCheck_iff]

end Sys2Proof.Machine
end

section
/-! Agreement between the blocks about one channel: what the checks of Safety.lean say of a unit, its slot, its entry and its
binding, and which changes of a unit keep it. -/

namespace Sys2Proof.Machine

/-! ### The agreement about one channel -/

/-- The motion or entry a unit carries, given its entry's items (01 R2). -/
def ChannelUnit.carries (u : ChannelUnit) (entry : Option Motion) : Option Motion :=
  match u.ctl.st with
  | .waiting => entry
  | .opening => u.ctl.motion
  | .closing => u.ctl.motion
  | _ => none

/-- The stroke of an engine is at rest: A, the first-sample mark and the blanking count (02 R32). -/
def strokeAtRest (e : EngineContext) : Prop := e.acc = 0 ∧ e.first = false ∧ e.blank = 0

/-- What `State.channelConsistent` checks of a channel: of its unit, its slot, its entry's items, and whether it is bound. -/
structure UnitFits (u : ChannelUnit) (slot : Bool) (entry : Option Motion) (bound : Bool) : Prop where
  motion : motionFits u.ctl = true
  holds : slot = inMotion u.ctl.st
  waits : entry.isSome = decide (u.ctl.st = .waiting)
  hold : u.ctl.hold.isSome = (ChannelUnit.carries u entry).any fun m => decide (m.origin = .held)
  reference : u.ctl.referenced = true ∨ (ChannelUnit.carries u entry).any needsReference = false
  absent : u.ctl.st = .absent ↔ bound = false
  unbound : u.ctl.st = .absent → u.ctl.referenced = false ∧ u.ctl.base = none
  causes : anyCause u.ctl.causes = decide (u.ctl.st = .inhibited)
  undervolt : u.ctl.causes.undervolt = u.sup.undervolt
  target : u.rev.target.isSome = decide (u.ctl.st = .reversing)
  window : u.rev.window.isSome = true ∨ u.rev.level = 0
  engine : u.ctl.st = .closing ∨ strokeAtRest u.eng
  teach : u.prof.teach = .running → ChannelUnit.carries u entry = some teachMotion ∧
    (u.ctl.st = .waiting ∨ u.prof.marks.teachStroke = true)

/-- The items of a channel's entry. -/
def State.entryMotion (s : State) (c : Chan) : Option Motion := (s.entryOf c).map Entry.motion

/-- The blocks agree about a channel. -/
def State.ChannelFits (s : State) (c : Chan) : Prop :=
  UnitFits (s.chans.get c) (s.arb.slots.get c) (s.entryMotion c) (s.isBound c)

theorem State.carried_eq (s : State) (c : Chan) : s.carried c = ChannelUnit.carries (s.chans.get c) (s.entryMotion c) := rfl

theorem State.channelConsistent_iff (s : State) (c : Chan) : s.channelConsistent c = true ↔ s.ChannelFits c := by
  have hentry : (s.entryOf c).isSome = (s.entryMotion c).isSome := (Option.isSome_map ..).symm
  simp only [State.channelConsistent, State.placeFits, State.holdFits, State.referenceFits, State.bindingFits, causesFit,
    reversalFits, engineFits, State.teachFits, hentry, s.carried_eq, Bool.and_eq_true, beq_iff_eq, Bool.or_eq_true,
    decide_eq_true_eq, Bool.not_eq_true', Option.isNone_iff_eq_none, and_assoc]
  constructor
  · rintro ⟨motion, slot, entry, hold, reference, absent, unbound, causes, undervolt, target, window, engine, teach⟩
    refine ⟨motion, slot, entry, hold, reference, ?_, fun ha => ?_, causes, undervolt, target, window, engine, fun ht => ?_⟩
    · rw [← decide_eq_true_iff (p := (s.chans.get c).ctl.st = .absent)]
      show decide ((s.chan c).ctl.st = .absent) = true ↔ _
      rw [absent]; cases s.isBound c <;> simp
    · exact ⟨(unbound.resolve_left (· ha)).1, (unbound.resolve_left (· ha)).2.1⟩
    · exact (teach.resolve_left (· ht)).imp_left of_decide_eq_true
  · intro h
    refine ⟨h.motion, h.holds, h.waits, h.hold, h.reference, ?_, ?_, h.causes, h.undervolt, h.target, h.window, h.engine, ?_⟩
    · have := h.absent
      show decide ((s.chans.get c).ctl.st = .absent) = _
      cases hb : s.isBound c <;> simp_all
    · by_cases ha : (s.chans.get c).ctl.st = .absent
      · refine .inr ⟨(h.unbound ha).1, (h.unbound ha).2, ?_⟩
        show anyCause (s.chans.get c).ctl.causes = false
        rw [h.causes, ha]; rfl
      · exact .inl ha
    · by_cases ht : (s.chans.get c).prof.teach = .running
      · exact .inr ((h.teach ht).imp_left (decide_eq_true ·))
      · exact .inl ht

section
variable {u : ChannelUnit} {slot bound : Bool} {entry : Option Motion}

/-! ### What a fitting unit says -/

theorem ChannelUnit.carries_eq_some {m : Motion} (h : ChannelUnit.carries u entry = some m) :
    (u.ctl.st = .waiting ∧ entry = some m) ∨ ((u.ctl.st = .opening ∨ u.ctl.st = .closing) ∧ u.ctl.motion = some m) := by
  unfold ChannelUnit.carries at h
  split at h <;> simp_all

/-- A channel that carries something is bound and free of causes. -/
theorem UnitFits.st_of_carries (_h : UnitFits u slot entry bound) {m : Motion} (hm : ChannelUnit.carries u entry = some m) :
    u.ctl.st ≠ .absent ∧ u.ctl.st ≠ .inhibited := by
  rcases ChannelUnit.carries_eq_some hm with ⟨h, -⟩ | ⟨h | h, -⟩ <;> simp [h]

/-- A teach runs with a latched motion or entry only. -/
theorem UnitFits.no_teach_of_held (h : UnitFits u slot entry bound) {m : Motion} (hm : ChannelUnit.carries u entry = some m)
    (ho : m.origin = .held) : u.prof.teach ≠ .running := by
  intro ht
  have hteach : m = teachMotion := Option.some.inj (hm.symm.trans (h.teach ht).1)
  rw [hteach] at ho
  exact nomatch ho

/-- A channel that is neither WAITING nor CLOSING runs no teach. -/
theorem UnitFits.no_teach (h : UnitFits u slot entry bound) (hw : u.ctl.st ≠ .waiting) (hc : u.ctl.st ≠ .closing) :
    u.prof.teach ≠ .running := by
  intro ht
  rcases ChannelUnit.carries_eq_some (h.teach ht).1 with ⟨hst, -⟩ | ⟨hst | hst, hm⟩
  · exact hw hst
  · have := h.motion
    simp [motionFits, hst, hm, teachMotion] at this
  · exact hc hst

/-- A channel that moves or waits is bound. -/
theorem UnitFits.bound_of_ne (h : UnitFits u slot entry bound) (ha : u.ctl.st ≠ .absent) : bound = true := by
  cases bound
  · exact absurd (h.absent.mpr rfl) ha
  · rfl

theorem UnitFits.of_bound_eq (h : UnitFits u slot entry bound) {bound' : Bool} (hb : bound' = bound) :
    UnitFits u slot entry bound' := hb ▸ h

/-- Outside CLOSING, and after leaving it, the stroke is at rest. -/
theorem UnitFits.strokeAtRest_leaving (h : UnitFits u slot entry bound) : strokeAtRest (ChannelUnit.engLeaving u) := by
  unfold ChannelUnit.engLeaving; split
  · exact ⟨rfl, rfl, rfl⟩
  · next hc => exact h.engine.resolve_left hc

/-! ### Changes of a unit -/

/-- A channel at rest carries nothing. -/
theorem ChannelUnit.carries_of_atRest (hst : atRest u.ctl.st = true) (entry : Option Motion) :
    ChannelUnit.carries u entry = none := by
  unfold ChannelUnit.carries
  rcases (atRest_iff _).mp hst with h | h | h <;> rw [h]

theorem inMotion_of_atRest {st : ChanState} (h : atRest st = true) : inMotion st = false := by
  rcases (atRest_iff _).mp h with rfl | rfl | rfl <;> rfl

/-- A unit at rest: nothing carried, no target, no stroke and no teach. -/
theorem UnitFits.rest (hst : atRest u.ctl.st = true) (motion : u.ctl.motion = none)
    (hold : u.ctl.hold = none) (target : u.rev.target = none) (engine : strokeAtRest u.eng) (teach : u.prof.teach ≠ .running)
    (absent : u.ctl.st = .absent ↔ bound = false) (unbound : u.ctl.st = .absent → u.ctl.referenced = false ∧ u.ctl.base = none)
    (causes : anyCause u.ctl.causes = decide (u.ctl.st = .inhibited)) (undervolt : u.ctl.causes.undervolt = u.sup.undervolt)
    (window : u.rev.window.isSome = true ∨ u.rev.level = 0) : UnitFits u false none bound := by
  have hcarries := ChannelUnit.carries_of_atRest hst none
  refine ⟨?_, (inMotion_of_atRest hst).symm, ?_, ?_, .inr (by rw [hcarries]; rfl), absent, unbound, causes, undervolt, ?_, window,
    .inr engine, fun ht => absurd ht teach⟩
  · unfold motionFits; rw [motion]; rcases (atRest_iff _).mp hst with h | h | h <;> rw [h] <;> rfl
  · rcases (atRest_iff _).mp hst with h | h | h <;> rw [h] <;> rfl
  · rw [hold, hcarries]; rfl
  · rw [target]; rcases (atRest_iff _).mp hst with h | h | h <;> rw [h] <;> rfl

/-- A fitting unit at rest has no slot, no entry, no motion, no hold timer, no target, no stroke and no teach. -/
theorem UnitFits.at_rest (h : UnitFits u slot entry bound) (hst : atRest u.ctl.st = true) :
    slot = false ∧ entry = none ∧ u.ctl.motion = none ∧ u.ctl.hold = none ∧ u.rev.target = none ∧ strokeAtRest u.eng ∧
    u.prof.teach ≠ .running := by
  have hw : u.ctl.st ≠ .waiting ∧ u.ctl.st ≠ .closing ∧ u.ctl.st ≠ .reversing := by
    rcases (atRest_iff _).mp hst with h | h | h <;> rw [h] <;> decide
  have hmotion := h.motion
  have hhold := h.hold
  have htarget := h.target
  have hwaits := h.waits
  rw [ChannelUnit.carries_of_atRest hst] at hhold
  rw [decide_eq_false hw.2.2] at htarget
  rw [decide_eq_false hw.1] at hwaits
  refine ⟨h.holds.trans (inMotion_of_atRest hst), by simpa using hwaits, ?_, by simpa using hhold, by simpa using htarget,
    h.engine.resolve_left hw.2.1, h.no_teach hw.1 hw.2.1⟩
  unfold motionFits at hmotion
  rcases (atRest_iff _).mp hst with h | h | h <;> rw [h] at hmotion <;> simpa using hmotion

/-- A unit at rest goes to another state at rest, with causes and binding that fit there. -/
theorem UnitFits.at_rest_again (h : UnitFits u slot entry bound) (hst : atRest u.ctl.st = true) {r : ChannelRecord}
    {sup : SupplyContext} {bound' : Bool} (hr : atRest r.st = true) (hm : r.motion = u.ctl.motion) (hh : r.hold = u.ctl.hold)
    (absent : r.st = .absent ↔ bound' = false) (unbound : r.st = .absent → r.referenced = false ∧ r.base = none)
    (causes : anyCause r.causes = decide (r.st = .inhibited)) (undervolt : r.causes.undervolt = sup.undervolt) :
    UnitFits { u with ctl := r, sup := sup } slot entry bound' := by
  obtain ⟨rfl, rfl, motion, hold, target, engine, teach⟩ := h.at_rest hst
  exact .rest hr (hm.trans motion) (hh.trans hold) target engine teach absent unbound causes undervolt h.window

/-- A bound channel free of causes stops in IDLE. -/
theorem UnitFits.leave_idle (h : UnitFits u slot entry bound) (ha : u.ctl.st ≠ .absent) (hi : u.ctl.st ≠ .inhibited)
    (ht : u.prof.teach ≠ .running) : UnitFits (ChannelUnit.leave u .idle) false none bound :=
  .rest rfl rfl rfl rfl h.strokeAtRest_leaving ht
    (iff_of_false nofun (by rw [h.bound_of_ne ha]; decide)) nofun
    (h.causes.trans (by rw [decide_eq_false hi]; rfl)) h.undervolt h.window

/-- A teach that fails: the failed one carries on like a unit without a teach. -/
theorem UnitFits.failTeach (h : UnitFits u slot entry bound) {p : ProfileContext} (hp : p.teach ≠ .running) :
    UnitFits { u with prof := p } slot entry bound :=
  { h with teach := fun ht => absurd ht hp }

/-- A channel loses its reference where it carries nothing that needs one. -/
theorem UnitFits.unreference (h : UnitFits u slot entry bound) (hn : (ChannelUnit.carries u entry).any needsReference = false) :
    UnitFits { u with ctl := { u.ctl with referenced := false } } slot entry bound :=
  { h with reference := .inr hn, unbound := fun ha => ⟨rfl, (h.unbound ha).2⟩ }

/-- An IDLE channel joins the queue with a motion that its reference allows (01 R23). -/
theorem UnitFits.join (h : UnitFits u slot entry bound) (hst : u.ctl.st = .idle) {m : Motion} {p : ProfileContext} {hold : Option Nat}
    (hhold : hold.isSome = decide (m.origin = .held)) (href : u.ctl.referenced = true ∨ needsReference m = false)
    (ht : p.teach = .running → m = teachMotion) :
    UnitFits { u with ctl := { u.ctl with st := .waiting, latched := Latched.none, hold := hold }, prof := p } slot (some m) bound where
  motion := by simpa [motionFits, hst] using h.motion
  holds := by rw [h.holds, hst]; rfl
  waits := rfl
  hold := hhold
  reference := href
  absent := iff_of_false nofun (by rw [h.bound_of_ne (by rw [hst]; decide)]; decide)
  unbound ha := nomatch ha
  causes := by rw [h.causes, hst]; rfl
  undervolt := h.undervolt
  target := by rw [h.target, hst]; rfl
  window := h.window
  engine := .inr (h.engine.resolve_left (by rw [hst]; decide))
  teach hp := ⟨congrArg some (ht hp), .inl rfl⟩

/-- An order of the same direction turns the items of an entry LATCHED (01 R24). -/
theorem UnitFits.turn_entry (h : UnitFits u slot (some m) bound) (hst : u.ctl.st = .waiting) {m' : Motion}
    (ho : m'.origin = .latched) (href : u.ctl.referenced = true) (ht : u.prof.teach ≠ .running) :
    UnitFits { u with ctl := { u.ctl with hold := none } } slot (some m') bound :=
  { h with
    waits := by rw [show (some m').isSome = (some m).isSome from rfl]; exact h.waits
    hold := by simp [ChannelUnit.carries, hst, ho]
    reference := .inl href
    teach := fun hr => absurd hr ht }

/-- An order of the same direction turns a motion record LATCHED (01 R24). -/
theorem UnitFits.turn_motion (h : UnitFits u slot entry bound) {m : Motion} {f : Motion → Motion}
    (hst : u.ctl.st = .opening ∨ u.ctl.st = .closing) (hm : u.ctl.motion = some m) (hd : (f m).dir = m.dir)
    (ho : (f m).origin = .latched) (href : u.ctl.referenced = true) (ht : u.prof.teach ≠ .running) :
    UnitFits { u with ctl := { u.ctl with motion := u.ctl.motion.map f, hold := none } } slot entry bound :=
  { h with
    motion := by
      have := h.motion
      rcases hst with hst | hst <;> simpa [motionFits, hst, hm, hd] using this
    hold := by rcases hst with hst | hst <;> simp [ChannelUnit.carries, hst, hm, ho]
    reference := .inl href
    teach := fun hr => absurd hr ht }

/-- The hold timer of a held motion or entry restarts (01 R19). -/
theorem UnitFits.restartHold (h : UnitFits u slot entry bound) {m : Motion} (hm : ChannelUnit.carries u entry = some m)
    (ho : m.origin = .held) (expiry : Nat) : UnitFits { u with ctl := { u.ctl with hold := some expiry } } slot entry bound :=
  have hold : true = (ChannelUnit.carries u entry).any fun m => decide (m.origin = .held) := by simp [hm, ho]
  { h with hold := hold }

/-- The hold timer stops where nothing held is carried. -/
theorem UnitFits.stopHold (h : UnitFits u slot entry bound) (hm : ∀ m, ChannelUnit.carries u entry = some m → m.origin ≠ .held) :
    UnitFits { u with ctl := { u.ctl with hold := none } } slot entry bound :=
  have hold : false = (ChannelUnit.carries u entry).any fun m => decide (m.origin = .held) := by
    cases hc : ChannelUnit.carries u entry with
    | none => rfl
    | some m => simp [hm m hc]
  { h with hold := hold }

/-- The winner of a grant takes its slot and starts its motion (06 R135). -/
theorem UnitFits.start (h : UnitFits u slot (some m) bound) {st : ChanState} {e : EngineContext} {p : ProfileContext}
    {sup : SupplyContext} (hst : (st = .opening ∧ m.dir = .toOpen ∧ strokeAtRest e) ∨ (st = .closing ∧ m.dir = .toClosed))
    (hp : p.teach = .running → u.prof.teach = .running ∧ (st = .closing → p.marks.teachStroke = true))
    (hsup : sup.undervolt = u.sup.undervolt) :
    UnitFits { u with ctl := { u.ctl with st := st, motion := some m }, eng := e, prof := p, sup := sup } true none bound := by
  have hw : u.ctl.st = .waiting := by simpa using h.waits.symm
  have hcw : ChannelUnit.carries u (some m) = some m := by simp [ChannelUnit.carries, hw]
  have hcs : ChannelUnit.carries { u with ctl := { u.ctl with st := st, motion := some m }, eng := e, prof := p, sup := sup } none =
      some m := by rcases hst with ⟨rfl, -⟩ | ⟨rfl, -⟩ <;> rfl
  refine ⟨?_, ?_, ?_, ?_, ?_, ?_, ?_, ?_, h.undervolt.trans hsup.symm, ?_, h.window, ?_, fun ht => ?_⟩
  · rcases hst with ⟨rfl, hd, -⟩ | ⟨rfl, hd⟩ <;> simp [motionFits, hd]
  · rcases hst with ⟨rfl, -⟩ | ⟨rfl, -⟩ <;> rfl
  · rcases hst with ⟨rfl, -⟩ | ⟨rfl, -⟩ <;> rfl
  · rw [hcs, ← hcw]; exact h.hold
  · rw [hcs, ← hcw]; exact h.reference
  · rw [h.bound_of_ne (by rw [hw]; decide)]
    rcases hst with ⟨rfl, -⟩ | ⟨rfl, -⟩ <;> simp
  · rcases hst with ⟨rfl, -⟩ | ⟨rfl, -⟩ <;> exact fun ha => nomatch ha
  · have := h.causes
    rw [hw] at this
    rcases hst with ⟨rfl, -⟩ | ⟨rfl, -⟩ <;> exact this
  · have := h.target
    rw [hw] at this
    rcases hst with ⟨rfl, -⟩ | ⟨rfl, -⟩ <;> exact this
  · rcases hst with ⟨-, -, he⟩ | ⟨rfl, -⟩
    · exact .inr he
    · exact .inl rfl
  · obtain ⟨hrun, hmark⟩ := hp ht
    have hteach := (h.teach hrun).1
    rw [hcw] at hteach
    refine ⟨hcs.trans hteach, .inr ?_⟩
    rcases hst with ⟨-, hd, -⟩ | ⟨rfl, -⟩
    · rw [Option.some.inj hteach] at hd; exact nomatch hd
    · exact hmark rfl

/-- A CLOSING channel trips: it reverses with its slot kept (04 R89). -/
theorem UnitFits.reverse (h : UnitFits u slot entry bound) (hst : u.ctl.st = .closing) (ht : u.prof.teach ≠ .running)
    (t : Int) (level w : Nat) :
    UnitFits { u with
      ctl := { u.ctl with st := .reversing, motion := none, hold := none }
      eng := closeStroke u.eng
      rev := { target := some t, level := level, window := some w } } slot entry bound where
  motion := rfl
  holds := by rw [h.holds, hst]; rfl
  waits := by rw [h.waits, hst]; rfl
  hold := rfl
  reference := .inr rfl
  absent := iff_of_false nofun (by rw [h.bound_of_ne (by rw [hst]; decide)]; decide)
  unbound ha := nomatch ha
  causes := by rw [h.causes, hst]; rfl
  undervolt := h.undervolt
  target := rfl
  window := .inl rfl
  engine := .inr ⟨rfl, rfl, rfl⟩
  teach hr := absurd hr ht

end

end Sys2Proof.Machine
end

section
/-! Agreement between the blocks: what `State.consistent` says block by block, and what a change of one channel has to keep. -/

namespace Sys2Proof.Machine

/-! ### The agreement, block by block -/

/-- What `State.nodeConsistent` checks of an address: of its record, its place in the schedule, its context, and whether a run has
still to reach it. -/
structure NodeFits (record : Option NodeRecord) (scheduled : Bool) (n : NodeContext) (ahead : Bool) : Prop where
  schedule : scheduled = record.any fun r => decide (r.st = .lost)
  grade : scheduled = true → n.grade = 0
  worst : n.worst ≤ n.grade
  offered : ahead = true → record = none

/-- A run in progress has still to reach the offer of an address. -/
def EnrollmentUnit.ahead (e : EnrollmentUnit) (a : Node) : Bool := decide (e.st ≠ .idle) && !decide (a < e.offer)

/-- The blocks agree about an address. -/
def State.AddressFits (s : State) (a : Node) : Prop :=
  NodeFits (s.enr.table.get a) (s.enr.schedule.get a) (s.br.nodes.get a) (EnrollmentUnit.ahead s.enr a)

theorem State.nodeConsistent_iff (s : State) (a : Node) : s.nodeConsistent a = true ↔ s.AddressFits a := by
  simp only [State.nodeConsistent, Bool.and_eq_true, beq_iff_eq, Bool.or_eq_true, Bool.not_eq_true', decide_eq_true_eq,
    Option.isNone_iff_eq_none, and_assoc]
  constructor
  · rintro ⟨schedule, grade, worst, offered⟩
    refine ⟨schedule, fun hs => grade.resolve_left (by rw [← schedule, hs]; decide), worst, fun ha => ?_⟩
    simp only [EnrollmentUnit.ahead, Bool.and_eq_true, Bool.not_eq_true', decide_eq_false_iff_not] at ha
    rcases offered with (hrun | hlt) | hnone
    · exact absurd ha.1 (by rw [show decide (s.enr.st ≠ .idle) = s.runInProgress from rfl, hrun]; decide)
    · exact absurd hlt ha.2
    · exact hnone
  · intro h
    refine ⟨h.schedule, ?_, h.worst, ?_⟩
    · rw [← h.schedule]
      cases hs : s.enr.schedule.get a
      · exact .inl rfl
      · exact .inr (h.grade hs)
    · cases hrun : s.runInProgress
      · exact .inl (.inl rfl)
      · by_cases hlt : a < s.enr.offer
        · exact .inl (.inr hlt)
        · refine .inr (h.offered ?_)
          rw [EnrollmentUnit.ahead, show decide (s.enr.st ≠ .idle) = s.runInProgress from rfl, hrun, decide_eq_false hlt]
          rfl

/-- What `State.phaseConsistent` checks, condition by condition: of the settings unit, the enrollment unit, and whether a cold reset
is held. -/
structure PhaseFits (u : SettingsUnit) (e : EnrollmentUnit) (active : Bool) : Prop where
  starting : u.phase = .starting → e.st ≠ .idle ∧ e.fromCold = true ∧
    (u.chosen = .setup ∨ (u.chosen = .run ∧ u.locked.isSome = true))
  cold : e.st ≠ .idle → e.fromCold = true → u.phase = .starting
  held : active = true → u.phase = .starting ∧ e.offer = 0
  run : u.phase = .run → u.locked.isSome = true ∧ e.st = .idle
  timer : u.checkTimer.isSome = decide (u.phase = .run)
  lockIn : ∀ i check, u.write = some (.lockIn i check) → u.phase = .setup ∧ e.st = .idle
  reopen : u.write = some .reopen → u.phase = .run

theorem State.runInProgress_iff (s : State) : s.runInProgress = true ↔ s.enr.st ≠ .idle := decide_eq_true_iff

theorem State.runInProgress_eq_false (s : State) : s.runInProgress = false ↔ s.enr.st = .idle := by
  rw [← Bool.not_eq_true, s.runInProgress_iff, not_not]

theorem State.phaseConsistent_iff (s : State) : s.phaseConsistent = true ↔ PhaseFits s.stg s.enr s.rst.active := by
  have hor {p q : Prop} : ¬p ∨ q ↔ (p → q) := by by_cases p <;> simp [*]
  have hbool {b : Bool} {q : Prop} : b = false ∨ q ↔ (b = true → q) := by cases b <;> simp
  have hcold : (s.stg.phase = .starting ∨ (s.runInProgress && s.enr.fromCold) = false) ↔
      (s.enr.st ≠ .idle → s.enr.fromCold = true → s.stg.phase = .starting) := by
    rw [← s.runInProgress_iff]
    cases s.runInProgress <;> cases s.enr.fromCold <;> simp
  unfold State.phaseConsistent
  rw [Bool.and_eq_true]
  simp only [State.startConsistent, show s.phase = s.stg.phase from rfl, Bool.and_eq_true, Bool.or_eq_true, Bool.not_eq_true',
    decide_eq_true_eq, beq_iff_eq, hor, hbool, hcold, s.runInProgress_iff, s.runInProgress_eq_false, and_assoc, ne_eq]
  constructor
  · rintro ⟨starting, cold, held, run, timer, write⟩
    refine ⟨starting, cold, held, run, timer, fun i check hw => ?_, fun hw => ?_⟩
    · rw [hw] at write
      simpa [State.phase, s.runInProgress_eq_false] using write
    · rw [hw] at write; simpa using write
  · intro h
    refine ⟨h.starting, h.cold, h.held, h.run, h.timer, ?_⟩
    split
    · rfl
    · next hw => simpa [s.runInProgress_eq_false] using h.lockIn _ _ hw
    · next hw => simpa using h.reopen hw

/-- The blocks agree, the phase aside, where the channels bound are as given. -/
structure State.BlocksFit (s : State) (bound : Chan → Bool) : Prop where
  chan : ∀ c, UnitFits (s.chans.get c) (s.arb.slots.get c) (s.entryMotion c) (bound c)
  node : ∀ a, s.AddressFits a
  nodup : (s.arb.queue.map Entry.channel).Nodup
  slots : s.slotsHeld ≤ s.glob.slots
  collector : collectorConsistent s.trk = true

/-- The blocks of the part agree with one another. -/
structure State.Consistent (s : State) : Prop extends s.BlocksFit s.isBound where
  phase : PhaseFits s.stg s.enr s.rst.active

theorem State.consistent_iff (s : State) : s.consistent = true ↔ s.Consistent := by
  simp only [State.consistent, State.queueConsistent, Bool.and_eq_true, octIndexes_all, State.channelConsistent_iff,
    State.nodeConsistent_iff, State.phaseConsistent_iff, decide_eq_true_eq]
  exact ⟨fun ⟨⟨⟨⟨chan, node⟩, phase⟩, nodup, slots⟩, collector⟩ => ⟨⟨chan, node, nodup, slots, collector⟩, phase⟩,
    fun ⟨⟨chan, node, nodup, slots, collector⟩, phase⟩ => ⟨⟨⟨⟨chan, node⟩, phase⟩, nodup, slots⟩, collector⟩⟩

end Sys2Proof.Machine
end

section
/-! Agreement between the blocks: changes of one channel, the order gate and the start queue keep it. -/

namespace Sys2Proof.Machine

/-! ### Binding and the slots held -/

/-- Binding rests on the NODE_ADDR settings, on which addresses have a record, and on whether a run is in progress. -/
theorem State.isBound_congr {s t : State} (haddr : ∀ d, (t.cset d).nodeAddr = (s.cset d).nodeAddr)
    (htable : ∀ a, (t.enr.table.get a).isSome = (s.enr.table.get a).isSome) (hrun : t.runInProgress = s.runInProgress) (c : Chan) :
    t.isBound c = s.isBound c := by
  unfold State.isBound
  simp only [haddr, htable, hrun]

theorem OnlyChannel.isBound_eq {c : Chan} {s t : State} (h : OnlyChannel c s t) (d : Chan) : t.isBound d = s.isBound d :=
  State.isBound_congr (fun _ => by unfold State.cset; rw [h.stg]) (fun _ => by rw [h.enr])
    (by unfold State.runInProgress; rw [h.enr]) d

/-- No channel is bound during a run. -/
theorem State.isBound_of_run {s : State} (h : s.runInProgress = true) (c : Chan) : s.isBound c = false := by
  unfold State.isBound; split
  · rfl
  · simp [h]

/-- A bound channel has its address, and the address a record. -/
theorem State.record_of_isBound {s : State} {c : Chan} (h : s.isBound c = true) :
    ∃ r, (nodeOf (s.cset c).nodeAddr).bind (fun a => s.enr.table.get a) = some r := by
  unfold State.isBound at h; split at h
  · exact nomatch h
  · next a ha =>
    simp only [Bool.and_eq_true, and_assoc] at h
    obtain ⟨r, hr⟩ := Option.isSome_iff_exists.mp h.1
    exact ⟨r, by rw [ha]; exact hr⟩

/-- How many of eight flags are set, one of them apart. -/
theorem countP_set (o : Oct Bool) (c : Chan) (b : Bool) :
    (o.set c b).toList.countP (fun x => x) + (o.get c).toNat = o.toList.countP (fun x => x) + b.toNat := by
  obtain ⟨a0, a1, a2, a3, a4, a5, a6, a7⟩ := o
  revert c
  refine fin8_cases ?_ ?_ ?_ ?_ ?_ ?_ ?_ ?_ <;>
    simp only [Oct.toList, Oct.set, Oct.get, List.countP_cons, List.countP_nil] <;>
    simp only [Bool.toNat, Bool.cond_eq_ite] <;> omega

theorem countP_release_le (o : Oct Bool) (c : Chan) :
    (o.set c false).toList.countP (fun x => x) ≤ o.toList.countP (fun x => x) := by
  have := countP_set o c false
  simp only [Bool.toNat_false] at this; omega

theorem countP_take_le (o : Oct Bool) (c : Chan) :
    (o.set c true).toList.countP (fun x => x) ≤ o.toList.countP (fun x => x) + 1 := by
  have := countP_set o c true
  simp only [Bool.toNat_true] at this; omega

theorem nodup_filter_channels {q : List Entry} (h : (q.map Entry.channel).Nodup) (p : Entry → Bool) :
    ((q.filter p).map Entry.channel).Nodup := h.sublist (List.filter_sublist.map _)

section
variable {s t : State} {c : Chan}

/-! ### A change of one channel -/

/-- What happens to one channel keeps the agreement when it leaves that channel fitting, one entry per channel, and no more
slots held than SLOTS. -/
theorem State.BlocksFit.onChannel {bound bound' : Chan → Bool} (h : s.BlocksFit bound) (only : OnlyChannel c s t)
    (hbound : ∀ d, d ≠ c → bound' d = bound d) (hnodup : (t.arb.queue.map Entry.channel).Nodup)
    (hslots : t.slotsHeld ≤ s.glob.slots) (hc : UnitFits (t.chan c) (t.arb.slots.get c) (t.entryMotion c) (bound' c)) :
    t.BlocksFit bound' where
  chan d := by
    by_cases hd : d = c
    · rw [hd]; exact hc
    · unfold State.entryMotion
      rw [hbound d hd, only.chans d hd, only.slots d hd, only.entries d hd]; exact h.chan d
  node a := by
    unfold State.AddressFits
    rw [only.enr, only.br]; exact h.node a
  nodup := hnodup
  slots := by unfold State.glob; rw [only.stg]; exact hslots
  collector := by rw [only.trk]; exact h.collector

theorem State.Consistent.onChannel (h : s.Consistent) (only : OnlyChannel c s t)
    (hnodup : (t.arb.queue.map Entry.channel).Nodup) (hslots : t.slotsHeld ≤ s.glob.slots)
    (hc : UnitFits (t.chan c) (t.arb.slots.get c) (t.entryMotion c) (s.isBound c)) : t.Consistent where
  toBlocksFit := h.toBlocksFit.onChannel only (fun d _ => only.isBound_eq d) hnodup hslots (by rw [only.isBound_eq]; exact hc)
  phase := by rw [only.stg, only.enr, only.rst]; exact h.phase

/-- A change of one channel that leaves the arbiter alone. -/
theorem State.Consistent.changed (h : s.Consistent) (only : OnlyChannel c s t) (harb : t.arb = s.arb)
    (hc : UnitFits (t.chan c) (s.arb.slots.get c) (s.entryMotion c) (s.isBound c)) : t.Consistent := by
  refine h.onChannel only (by rw [harb]; exact h.nodup) (by unfold State.slotsHeld; rw [harb]; exact h.slots) ?_
  unfold State.entryMotion State.entryOf
  rw [harb]; exact hc

/-- A change of one channel that takes its slot or its entry away. -/
theorem State.Consistent.emptied (h : s.Consistent) (only : OnlyChannel c s t) (harb : t.arb = SlotArbiter.drop s.arb c)
    (hc : UnitFits (t.chan c) false none (s.isBound c)) : t.Consistent := by
  refine h.onChannel only ?_ ?_ ?_
  · rw [harb]; exact nodup_filter_channels h.nodup _
  · unfold State.slotsHeld; rw [harb]; exact le_trans (countP_release_le _ _) h.slots
  · unfold State.entryMotion State.entryOf
    rw [harb]
    simp only [SlotArbiter.drop, Oct.get_set_self]
    rw [find_entry_filter_self]; exact hc

theorem State.Consistent.modChan (h : s.Consistent) {f : ChannelUnit → ChannelUnit}
    (hf : UnitFits (f (s.chans.get c)) (s.arb.slots.get c) (s.entryMotion c) (s.isBound c)) : (s.modChan c f).Consistent :=
  h.changed (onlyChannel_modChan s c f) rfl (by rw [State.chan_modChan_self]; exact hf)

/-- A change of the record's items that no agreement speaks of. -/
theorem State.Consistent.modCtl (h : s.Consistent) {f : ChannelRecord → ChannelRecord}
    (hf : UnitFits { s.chans.get c with ctl := f (s.chans.get c).ctl } (s.arb.slots.get c) (s.entryMotion c) (s.isBound c)) :
    (s.modCtl c f).Consistent := h.modChan (f := fun u => { u with ctl := f u.ctl }) hf

/-- A change of the working image that leaves the NODE_ADDR settings and SLOTS alone. -/
theorem State.Consistent.modImage (h : s.Consistent) {f : Image → Image}
    (haddr : ∀ d, ((f s.stg.image).chan.get d).nodeAddr = (s.stg.image.chan.get d).nodeAddr)
    (hslots : (f s.stg.image).glob.slots = s.stg.image.glob.slots) : (s.modImage f).Consistent where
  chan d := (h.chan d).of_bound_eq (State.isBound_congr (s := s) (t := s.modImage f) haddr (fun _ => rfl) rfl d)
  node := h.node
  nodup := h.nodup
  slots := le_of_le_of_eq h.slots hslots.symm
  collector := h.collector
  phase := { h.phase with }

/-! ### Leaving motion or the queue -/

/-- A teach that fails leaves a profile context without a running teach. -/
theorem State.chan_teachFail (s : State) (c : Chan) (why : TeachReason) :
    ∃ p : ProfileContext, (s.teachFail c why).chan c = { s.chan c with prof := p } ∧ p.teach ≠ .running := by
  by_cases h : (s.chan c).prof.teach = .running
  · rw [State.teachFail_running s c why h]
    exact ⟨_, State.chan_modChan_self _ _ _, nofun⟩
  · rw [State.teachFail_idle s c why h]
    exact ⟨_, rfl, h⟩

theorem State.Consistent.teachFail (h : s.Consistent) (c : Chan) (why : TeachReason) : (s.teachFail c why).Consistent := by
  obtain ⟨p, hp, hn⟩ := s.chan_teachFail c why
  refine h.changed (onlyChannel_teachFail s c why) (s.arb_teachFail c why) ?_
  rw [hp]; exact (h.chan c).failTeach hn

theorem State.no_teach_teachFail (s : State) (c : Chan) (why : TeachReason) : ((s.teachFail c why).chan c).prof.teach ≠ .running := by
  obtain ⟨p, hp, hn⟩ := s.chan_teachFail c why
  rw [hp]; exact hn

theorem State.Consistent.vacate (h : s.Consistent) (ha : (s.chan c).ctl.st ≠ .absent) (hi : (s.chan c).ctl.st ≠ .inhibited)
    (ht : (s.chan c).prof.teach ≠ .running) : (s.vacate c .idle).Consistent :=
  h.emptied (onlyChannel_vacate s c _) rfl (by rw [State.chan_vacate_self]; exact (h.chan c).leave_idle ha hi ht)

/-- A channel that is bound and free of causes stops in IDLE, a teach failing. -/
theorem State.Consistent.stop (h : s.Consistent) (ha : (s.chan c).ctl.st ≠ .absent) (hi : (s.chan c).ctl.st ≠ .inhibited)
    (why : TeachReason) : ((s.teachFail c why).vacate c .idle).Consistent :=
  (h.teachFail c why).vacate (by rw [State.ctl_teachFail]; exact ha) (by rw [State.ctl_teachFail]; exact hi)
    (s.no_teach_teachFail c why)

theorem State.Consistent.refuse (h : s.Consistent) (c : Chan) (why : RefusalReason) : (s.refuse c why).Consistent :=
  h.modCtl { h.chan c with }

/-! ### The order gate (01 R18 to R25) -/

theorem State.Consistent.st_of_carried (h : s.Consistent) {m : Motion} (hm : s.carried c = some m) :
    (s.chan c).ctl.st ≠ .absent ∧ (s.chan c).ctl.st ≠ .inhibited := (h.chan c).st_of_carries hm

theorem State.Consistent.heldEnd (h : s.Consistent) (c : Chan) (o : Order) : (s.heldEnd c o).Consistent := by
  unfold State.heldEnd; split
  · next m hm =>
    split
    · next hheld =>
      obtain ⟨ha, hi⟩ := h.st_of_carried hm
      exact h.vacate ha hi ((h.chan c).no_teach_of_held hm hheld.1)
    · exact h
  · exact h

theorem State.Consistent.endHeld (h : s.Consistent) (c : Chan) : (s.endHeld c).Consistent := by
  unfold State.endHeld; split
  · next m hm =>
    split
    · next hheld =>
      obtain ⟨ha, hi⟩ := h.st_of_carried hm
      exact h.vacate ha hi ((h.chan c).no_teach_of_held hm hheld)
    · next hheld =>
      refine h.modCtl ((h.chan c).stopHold fun m' hm' => ?_)
      rw [Option.some.inj (hm'.symm.trans hm)]; exact hheld
  · next hnone => exact h.modCtl ((h.chan c).stopHold fun m hm => nomatch hm.symm.trans hnone)

theorem State.Consistent.endCarried (h : s.Consistent) (ha : (s.chan c).ctl.st ≠ .absent) (hi : (s.chan c).ctl.st ≠ .inhibited)
    (ht : (s.chan c).prof.teach ≠ .running) : (s.endCarried c).Consistent := by
  unfold State.endCarried; split
  · exact h
  · exact h.vacate ha hi ht

theorem State.st_endCarried (s : State) (c : Chan) : ((s.endCarried c).chan c).ctl.st = .idle := by
  unfold State.endCarried; split
  · next h => exact h
  · rw [State.chan_vacate_self]; rfl

/-- A channel without an entry joins the start queue: one entry per channel still. -/
theorem nodup_join {q : List Entry} (h : (q.map Entry.channel).Nodup) {e : Entry}
    (he : q.find? (fun x => decide (x.channel = e.channel)) = none) : ((q ++ [e]).map Entry.channel).Nodup := by
  rw [List.find?_eq_none] at he
  rw [List.map_append, List.nodup_append]
  refine ⟨h, List.nodup_singleton _, fun a ha b hb => ?_⟩
  obtain ⟨x, hx, rfl⟩ := List.mem_map.mp ha
  rw [List.mem_singleton.mp hb]
  simpa using he x hx

/-- The entry of a channel that has just joined is its new one. -/
theorem find_entry_join {q : List Entry} {e : Entry} (he : q.find? (fun x => decide (x.channel = e.channel)) = none) :
    (q ++ [e]).find? (fun x => decide (x.channel = e.channel)) = some e := by
  rw [List.find?_append, he]; simp

/-- An IDLE channel joins the start queue, as an order or TEACH has it (01 R23, 03 R79). -/
theorem State.Consistent.join (h : s.Consistent) (hst : (s.chan c).ctl.st = .idle) {m : Motion}
    {f : ProfileContext → ProfileContext} (href : (s.chan c).ctl.referenced = true ∨ needsReference m = false)
    (ht : (f (s.chan c).prof).teach = .running → m = teachMotion) : ((s.modProf c f).joinQueue c m).Consistent := by
  have hnone : s.entryOf c = none := by
    have := (h.chan c).waits
    rw [show (s.chans.get c).ctl.st = .idle from hst, State.entryMotion, Option.isSome_map] at this
    simpa using this
  refine h.onChannel (c := c) ((onlyChannel_modProf s c f).trans (onlyChannel_joinQueue _ c m))
    (nodup_join h.nodup hnone) h.slots ?_
  have hentry : ((s.modProf c f).joinQueue c m).entryMotion c = some m :=
    congrArg (Option.map Entry.motion) (find_entry_join (e := ⟨c, m, s.now, s.inMs (50 * s.glob.queueTimeout)⟩) hnone)
  rw [hentry]
  have := (h.chan c).join hst (p := f (s.chan c).prof)
    (hold := if m.origin = .held then some (s.inMs s.glob.holdTimeout) else none) (by split <;> simp [*]) href ht
  unfold State.chan
  simp only [State.joinQueue, State.chans_modProf, Oct.get_set_self]
  exact this

theorem State.joinQueue_eq (s : State) (c : Chan) (m : Motion) : s.joinQueue c m = (s.modProf c id).joinQueue c m := by
  rw [show s.modProf c id = s from s.modChan_id c _ rfl]

/-- An entry changed in place (06 R130). -/
theorem State.Consistent.turnEntry (h : s.Consistent) {f : Motion → Motion} {g : ChannelRecord → ChannelRecord}
    (hc : UnitFits { s.chan c with ctl := g (s.chan c).ctl } (s.arb.slots.get c) ((s.entryMotion c).map f) (s.isBound c)) :
    ((s.modEntry c f).modCtl c g).Consistent := by
  refine h.onChannel ((onlyChannel_modEntry s c f).trans (onlyChannel_modCtl _ c g)) ?_ h.slots ?_
  · have : (s.arb.queue.map fun e => if e.channel = c then { e with motion := f e.motion } else e).map Entry.channel =
        s.arb.queue.map Entry.channel := by
      rw [List.map_map]; exact List.map_congr_left fun e _ => by simp only [Function.comp]; split <;> rfl
    exact (congrArg List.Nodup this).mpr h.nodup
  · have hentry : ((s.modEntry c f).modCtl c g).entryMotion c = (s.entryMotion c).map f := by
      show Option.map Entry.motion (List.find? _ (List.map _ _)) = _
      rw [find_entry_map, Option.map_map]
      unfold State.entryMotion
      rw [Option.map_map]
      exact congrArg (Option.map · _) (funext fun e => by simp)
    rw [hentry]
    unfold State.chan
    simp only [State.chans_modCtl, State.chans_modEntry, Oct.get_set_self]
    exact hc

/-- What an order that has passed the checks relies on: the channel is neither ABSENT nor INHIBITED nor REVERSING, no teach runs,
and an order into motion other than a held USER one finds the reference. -/
structure State.Passed (s : State) (c : Chan) (o : Order) : Prop where
  notAbsent : (s.chan c).ctl.st ≠ .absent
  notInhibited : (s.chan c).ctl.st ≠ .inhibited
  teach : (s.chan c).prof.teach ≠ .running
  reference : intoMotion o = true → isHeldUser o = false → (s.chan c).ctl.referenced = true

theorem State.intoMotion_of_orderDir {o : Order} {d : Dir} (h : s.orderDir c o = some d) : intoMotion o = true :=
  (intoMotion_iff o).mpr (wantsMotion_of_goes ((s.orderDir_eq_some c o d).mp h))

/-- The items an order gives need no reference that the channel does not have. -/
theorem State.Passed.motionOf (h : s.Passed c o) (hinto : intoMotion o = true) (d : Dir) :
    (s.chan c).ctl.referenced = true ∨ needsReference (s.motionOf c o d) = false := by
  cases hheld : isHeldUser o with
  | false => exact .inl (h.reference hinto hheld)
  | true =>
    have ⟨hkind, hsource⟩ : isHeldKind o = true ∧ o.source = .user := by simpa [isHeldUser] using hheld
    exact .inr (by simp [needsReference, State.motionOf, hkind, hsource])

theorem State.Consistent.sameDirection (h : s.Consistent) {o : Order} (hp : s.Passed c o) (hinto : intoMotion o = true) {m : Motion}
    (hm : s.carried c = some m) : (s.sameDirection c o m).Consistent := by
  unfold State.sameDirection; split
  · split
    · next ho => exact h.modCtl ((h.chan c).restartHold hm ho _)
    · exact h
  · next hkind =>
    have href := hp.reference hinto (by simp only [isHeldUser, Bool.not_eq_true] at *; rw [hkind]; rfl)
    unfold State.modCarried; split
    · next hst =>
      refine h.turnEntry ?_
      have hentry : s.entryMotion c = some m := by
        rw [s.carried_eq] at hm; unfold ChannelUnit.carries at hm
        rw [show (s.chans.get c).ctl.st = .waiting from hst] at hm; exact hm
      have hc := h.chan c
      rw [hentry] at hc ⊢
      exact hc.turn_entry hst rfl href hp.teach
    · next hst =>
      rcases ChannelUnit.carries_eq_some hm with ⟨hw, -⟩ | ⟨hmoves, hrecord⟩
      · exact absurd hw hst
      · refine h.changed ((onlyChannel_modCtl s c _).trans (onlyChannel_modCtl _ c _)) rfl ?_
        unfold State.chan
        simp only [State.chans_modCtl, Oct.get_set_self]
        exact (h.chan c).turn_motion hmoves hrecord rfl rfl href hp.teach

theorem State.Passed.joins (h : s.Consistent) {o : Order} (hp : s.Passed c o) {d : Dir} (hd : s.orderDir c o = some d) :
    ((s.endCarried c).joinQueue c (s.motionOf c o d)).Consistent := by
  have hend := h.endCarried hp.notAbsent hp.notInhibited hp.teach
  have hkept : ((s.endCarried c).chan c).ctl.referenced = (s.chan c).ctl.referenced ∧
      ((s.endCarried c).chan c).prof = (s.chan c).prof := by
    unfold State.endCarried; split
    · exact ⟨rfl, rfl⟩
    · rw [State.chan_vacate_self]; exact ⟨rfl, rfl⟩
  rw [State.joinQueue_eq]
  refine hend.join (s.st_endCarried c) ?_ fun ht => absurd ht (by rw [hkept.2]; exact hp.teach)
  rw [hkept.1]; exact hp.motionOf (State.intoMotion_of_orderDir hd) d

theorem State.Consistent.actInMotion (h : s.Consistent) {o : Order} (hp : s.Passed c o) : (s.actInMotion c o).Consistent := by
  unfold State.actInMotion; split
  · exact h.endCarried hp.notAbsent hp.notInhibited hp.teach
  · split
    · exact h
    · next d hd =>
      split
      · exact State.Passed.joins h hp hd
      · next m hm =>
        split
        · exact h.sameDirection hp (State.intoMotion_of_orderDir hd) hm
        · exact State.Passed.joins h hp hd

/-- An order that passes the checks finds what it relies on. -/
theorem State.passed_of_refusalOf {o : Order} (h : s.refusalOf c o = none) (ht : (s.chan c).prof.teach ≠ .running) :
    s.Passed c o := by
  have hnone := (s.refusalOf_eq_none c o).mp h
  refine ⟨fun ha => hnone .absent ha, fun hi => hnone .inhibited hi, ht, fun hinto hheld => ?_⟩
  by_contra href
  refine hnone .unreferenced ⟨Bool.eq_false_of_not_eq_true href, (intoMotion_iff o).mp hinto, fun hu => ?_⟩
  rw [(isHeldUser_iff o).mpr hu] at hheld
  exact nomatch hheld

theorem State.Consistent.takeOrder (h : s.Consistent) (c : Chan) (o : Order) : (s.takeOrder c o).Consistent := by
  have h1 := h.teachFail c .order
  unfold State.takeOrder; dsimp only; split
  · exact h1.refuse c _
  · next hpass =>
    have hp := State.passed_of_refusalOf hpass (s.no_teach_teachFail c .order)
    split
    · exact h1.endCarried hp.notAbsent hp.notInhibited hp.teach
    · exact h1.actInMotion hp

theorem State.Consistent.orderGate (h : s.Consistent) (c : Chan) (o : Order) : (s.orderGate c o).Consistent := by
  have h1 : (s.modCtl c fun r => { r with lastOrder := o }).Consistent := h.modCtl { h.chan c with }
  unfold State.orderGate; dsimp only; split
  · exact (h1.heldEnd c o).takeOrder c o
  · exact h1.heldEnd c o

/-- An operation on each channel in turn keeps the agreement if it keeps it on one. -/
theorem State.Consistent.foldl {op : State → Chan → State} (hop : ∀ s c, s.Consistent → (op s c).Consistent)
    (h : s.Consistent) : (octIndexes.foldl op s).Consistent := by
  generalize octIndexes = l
  induction l generalizing s with
  | nil => exact h
  | cons c l ih => exact ih (hop s c h)

theorem State.Consistent.orderGates (h : s.Consistent) (orders : Oct Byte) : (s.orderGates orders).Consistent :=
  State.Consistent.foldl (op := fun s c => s.orderGate c (orderOfByte (orders.get c))) (fun _ c hs => hs.orderGate c _) h

/-! ### The start queue (06.4 to 06.6) -/

theorem State.Consistent.flushEntry (h : s.Consistent) (c : Chan) : (s.flushEntry c).Consistent := by
  unfold State.flushEntry; split
  · next hst => exact h.stop (by rw [hst]; decide) (by rw [hst]; decide) _
  · exact h

/-- A queue timeout that is due finds its channel WAITING. -/
theorem State.Consistent.waiting_of_queueDue (h : s.Consistent) (hd : s.queueDue c = true) : (s.chan c).ctl.st = .waiting := by
  obtain ⟨e, he, hc, -⟩ := (s.queueDue_iff c).mp hd
  have hsome : (s.entryOf c).isSome = true := by
    unfold State.entryOf
    rw [List.find?_isSome]
    exact ⟨e, he, by simpa using hc⟩
  have := (h.chan c).waits
  rw [State.entryMotion, Option.isSome_map, hsome] at this
  exact of_decide_eq_true this.symm

theorem State.Consistent.queueExpires (h : s.Consistent) (hd : s.queueDue c = true) : (s.queueExpires c).Consistent := by
  have hst := h.waiting_of_queueDue hd
  have h1 : ((s.teachFail c .order).vacate c .idle).Consistent := h.stop (by rw [hst]; decide) (by rw [hst]; decide) _
  unfold State.queueExpires; rw [if_pos hst]
  exact h1.modCtl { h1.chan c with }

/-- The entry that wins a grant decision stands in the queue. -/
theorem State.winner_mem {e : Entry} (h : s.winner = some e) : e ∈ s.arb.queue := by
  unfold State.winner at h
  rcases Option.or_eq_some_iff.mp h with h | ⟨-, h⟩
  · exact List.mem_of_find?_eq_some h
  · rcases Option.or_eq_some_iff.mp h with h | ⟨-, h⟩ <;> exact List.mem_of_find?_eq_some h

/-- With one entry per channel, an entry in the queue is the entry of its channel. -/
theorem State.entryOf_of_mem (h : (s.arb.queue.map Entry.channel).Nodup) {e : Entry} (he : e ∈ s.arb.queue) :
    s.entryOf e.channel = some e := by
  have hsome : (s.entryOf e.channel).isSome = true := by
    unfold State.entryOf
    rw [List.find?_isSome]
    exact ⟨e, he, by simp⟩
  obtain ⟨x, hx⟩ := Option.isSome_iff_exists.mp hsome
  have hxc : x.channel = e.channel := by simpa using List.find?_some hx
  rw [hx, List.inj_on_of_nodup_map h (List.mem_of_find?_eq_some hx) he hxc]

theorem onlyChannel_grant (s : State) (e : Entry) : OnlyChannel e.channel { s with arb := { s.arb with stagger := 0 } } (s.grant e) := by
  have h1 (u : ChannelUnit) : OnlyChannel e.channel { s with arb := { s.arb with stagger := 0 } } { s with
      arb := { slots := s.arb.slots.set e.channel true
               queue := s.arb.queue.filter (fun x => decide (x.channel ≠ e.channel)), stagger := 0 }
      chans := s.chans.set e.channel u } :=
    ⟨fun _ hd => Oct.get_set_ne _ _ hd, fun _ hd => Oct.get_set_ne _ _ hd, fun _ hd => find_entry_filter _ hd, rfl, rfl, rfl,
     rfl, rfl, rfl, rfl, rfl, rfl, rfl⟩
  unfold State.grant; dsimp only; split
  · exact h1 _
  · exact (h1 _).trans (onlyChannel_modChan _ _ _)

theorem State.arb_grant (s : State) (e : Entry) : (s.grant e).arb =
    { slots := s.arb.slots.set e.channel true, queue := s.arb.queue.filter (fun x => decide (x.channel ≠ e.channel)),
      stagger := 0 } := by
  unfold State.grant; dsimp only; split <;> rfl

/-- The unit of a channel that a grant starts. -/
theorem State.chan_grant_fits (h : s.Consistent) {e : Entry} (he : s.entryOf e.channel = some e) :
    UnitFits ((s.grant e).chan e.channel) true none (s.isBound e.channel) := by
  have hc : UnitFits (s.chan e.channel) (s.arb.slots.get e.channel) (some e.motion) (s.isBound e.channel) := by
    have := h.chan e.channel
    unfold State.ChannelFits State.entryMotion at this
    rw [he] at this; exact this
  have hw : (s.chan e.channel).ctl.st = .waiting := by simpa using hc.waits.symm
  cases hd : e.motion.dir with
  | toOpen =>
    have hu : (s.grant e).chan e.channel = { s.chan e.channel with
        ctl := { (s.chan e.channel).ctl with st := .opening, motion := some e.motion }
        eng := ChannelUnit.engLeaving (s.chan e.channel) } := by
      simp [State.grant, hd, State.chan]
    rw [hu]
    exact hc.start (p := (s.chan e.channel).prof) (sup := (s.chan e.channel).sup) (.inl ⟨rfl, hd, hc.strokeAtRest_leaving⟩)
      (fun ht => ⟨ht, nofun⟩) rfl
  | toClosed =>
    have hu : (s.grant e).chan e.channel = { s.chan e.channel with
        ctl := { (s.chan e.channel).ctl with st := .closing, motion := some e.motion }
        eng := openEngine (s.cset e.channel) (ChannelUnit.engLeaving (s.chan e.channel))
        sup := { (s.chan e.channel).sup with strokeMask := 0 }
        prof := ProfileContext.openStroke (s.chan e.channel).prof s.phase (s.chan e.channel).rev.level } := by
      simp only [State.grant, hd, State.openStroke, State.chan, State.chans_modChan, Oct.get_set_self]; rfl
    rw [hu]
    exact hc.start (.inr ⟨rfl, hd⟩) (fun ht => ⟨ht, fun _ => decide_eq_true ht⟩) rfl

theorem State.Consistent.grant (h : s.Consistent) {e : Entry} (he : e ∈ s.arb.queue) (hfree : s.slotsHeld < s.glob.slots) :
    (s.grant e).Consistent := by
  have h0 : State.Consistent { s with arb := { s.arb with stagger := 0 } } := { h with }
  refine h0.onChannel (onlyChannel_grant s e) ?_ ?_ ?_
  · rw [State.arb_grant]; exact nodup_filter_channels h.nodup _
  · unfold State.slotsHeld; rw [State.arb_grant]
    exact le_trans (countP_take_le _ _) hfree
  · unfold State.entryMotion State.entryOf
    rw [State.arb_grant]
    simp only [Oct.get_set_self]
    rw [find_entry_filter_self]
    exact State.chan_grant_fits h (State.entryOf_of_mem h.nodup he)

theorem State.Consistent.arbitrate (h : s.Consistent) : s.arbitrate.Consistent := by
  have h1 : State.Consistent { s with arb := { s.arb with stagger := min 16 (s.arb.stagger + 1) } } := { h with }
  unfold State.arbitrate; dsimp only
  generalize ({ s with arb := { s.arb with stagger := min 16 (s.arb.stagger + 1) } } : State) = t at h1 ⊢
  split
  · next hg =>
    have hfree : t.slotsHeld < t.glob.slots := by
      simp only [State.grantsNow, Bool.and_eq_true, decide_eq_true_eq] at hg; exact hg.1.1
    split
    · next e hw => exact h1.grant (State.winner_mem hw) hfree
    · exact h1
  · exact h1

end

end Sys2Proof.Machine
end

section
/-! Agreement between the blocks: a good sample of a bound channel keeps it (01 R9, 02 R33, 03 R75, 04 R89, 06 R122). -/

namespace Sys2Proof.Machine

section
variable {s t : State} {c : Chan} {e : EnrollmentUnit} {r : ResetUnit}

/-! ### Inhibit causes and the reference -/

/-- The causes of a bound channel become `k` with the supply monitor's flag beside them: the channel goes to INHIBITED, to IDLE, or
stays, as the causes say (01 R5, R6). -/
theorem State.Consistent.setCauses_modSup (h : s.Consistent) (hb : s.isBound c = true) (f : SupplyContext → SupplyContext)
    (k : Causes) (hk : k.undervolt = (f (s.chan c).sup).undervolt) : ((s.modSup c f).setCauses c k).Consistent := by
  have hc : UnitFits (s.chan c) (s.arb.slots.get c) (s.entryMotion c) (s.isBound c) := h.chan c
  have hbound {st : ChanState} (hst : st ≠ .absent) : st = .absent ↔ s.isBound c = false := iff_of_false hst (by rw [hb]; decide)
  have habsent : (s.chan c).ctl.st ≠ .absent := fun ha => by rw [hc.absent.mp ha] at hb; exact nomatch hb
  have hcauses : anyCause ((s.modSup c f).chan c).ctl.causes = decide ((s.chan c).ctl.st = .inhibited) := by
    rw [State.modSup, State.chan_modChan_self]; exact hc.causes
  have only := (onlyChannel_modSup s c f).trans (onlyChannel_setCauses (s.modSup c f) c k)
  generalize ht : (s.modSup c f).setCauses c k = t at only ⊢
  simp only [State.setCauses, hcauses] at ht
  split at ht
  · next hcase =>
    have hidle : (s.chan c).ctl.st ≠ .inhibited := of_decide_eq_false hcase.1
    obtain ⟨p, hp, hn⟩ := State.chan_teachFail ((s.modSup c f).modCtl c fun r => { r with causes := k }) c .inhibited
    subst ht
    refine h.emptied only (by rw [State.arb_vacate, State.arb_teachFail]; rfl) ?_
    rw [State.chan_vacate_self, hp, State.modCtl, State.chan_modChan_self, State.modSup, State.chan_modChan_self]
    exact .rest rfl rfl rfl rfl hc.strokeAtRest_leaving hn (hbound nofun) nofun hcase.2 hk hc.window
  · next hstay =>
    split at ht
    · next hcase =>
      subst ht
      refine h.changed only rfl ?_
      rw [State.setSt, State.modCtl, State.chan_modChan_self, State.modCtl, State.chan_modChan_self, State.modSup,
        State.chan_modChan_self]
      have hst : (s.chan c).ctl.st = .inhibited := of_decide_eq_true hcase.1
      exact hc.at_rest_again (sup := f (s.chan c).sup) (by rw [hst]; rfl) rfl rfl rfl (hbound nofun) nofun hcase.2.1 hk
    · next hother =>
      subst ht
      refine h.changed only rfl ?_
      rw [State.modCtl, State.chan_modChan_self, State.modSup, State.chan_modChan_self]
      have hany : anyCause k = decide ((s.chan c).ctl.st = .inhibited) := by
        have hst : (s.chan c).ctl.st = ((s.modSup c f).chan c).ctl.st := by
          rw [State.modSup, State.chan_modChan_self]
        rw [← hst] at hother
        by_cases hi : (s.chan c).ctl.st = .inhibited
        · rw [decide_eq_true hi] at hother ⊢
          by_contra hk
          exact hother ⟨rfl, Bool.eq_false_of_not_eq_true hk, hi⟩
        · rw [decide_eq_false hi] at hstay ⊢
          exact Bool.eq_false_of_not_eq_true fun hk => hstay ⟨rfl, hk⟩
      exact { hc with unbound := fun ha => absurd ha habsent, causes := hany, undervolt := hk }

theorem State.modSup_id (s : State) (c : Chan) : s.modSup c id = s := s.modChan_id c _ rfl

theorem State.Consistent.setCauses (h : s.Consistent) (hb : s.isBound c = true) (k : Causes)
    (hk : k.undervolt = (s.chan c).sup.undervolt) : (s.setCauses c k).Consistent := by
  have := h.setCauses_modSup hb id k hk
  rwa [s.modSup_id c] at this

theorem State.Consistent.loseReference (h : s.Consistent) (c : Chan) : (s.loseReference c).Consistent := by
  have hc : UnitFits (s.chan c) (s.arb.slots.get c) (s.entryMotion c) (s.isBound c) := h.chan c
  have only := onlyChannel_loseReference s c
  generalize ht : s.loseReference c = t at only ⊢
  unfold State.loseReference at ht
  split at ht
  · dsimp only at ht
    have hcarried : (s.modCtl c fun r => { r with referenced := false }).carried c = s.carried c := by
      unfold State.carried
      rw [State.modCtl, State.chan_modChan_self]; rfl
    rw [hcarried] at ht
    have stays (hn : (s.carried c).any needsReference = false) (ht : (s.modCtl c fun r => { r with referenced := false }) = t) :
        t.Consistent := by
      subst ht
      exact h.modCtl (hc.unreference hn)
    split at ht
    · next m hm =>
      split at ht
      · obtain ⟨ha, hi⟩ := h.st_of_carried hm
        obtain ⟨p, hp, hn⟩ := State.chan_teachFail (s.modCtl c fun r => { r with referenced := false }) c .drift
        subst ht
        refine h.emptied only (by rw [State.arb_refuse, State.arb_vacate, State.arb_teachFail]; rfl) ?_
        rw [State.refuse, State.modCtl, State.chan_modChan_self, State.chan_vacate_self, hp, State.modCtl, State.chan_modChan_self]
        have hleft := (hc.failTeach hn).leave_idle ha hi hn
        exact { hleft with reference := .inr rfl, unbound := nofun }
      · next hneeds => exact stays (by rw [hm]; exact Bool.eq_false_of_not_eq_true hneeds) ht
    · next hnone => exact stays (by rw [hnone]; rfl) ht
  · exact ht ▸ h

/-! ### A bound channel that takes a sample -/

/-- The blocks agree, the channel is bound, and the enrollment unit and the reset unit are as given. -/
structure State.Serves (s : State) (c : Chan) (e : EnrollmentUnit) (r : ResetUnit) : Prop where
  fits : s.Consistent
  bound : s.isBound c = true
  enr : s.enr = e
  rst : s.rst = r

theorem State.Serves.unit (h : s.Serves c e r) : UnitFits (s.chan c) (s.arb.slots.get c) (s.entryMotion c) (s.isBound c) :=
  h.fits.chan c

theorem State.Serves.notAbsent (h : s.Serves c e r) : (s.chan c).ctl.st ≠ .absent := fun ha => by
  have := h.unit.absent.mp ha
  rw [h.bound] at this; exact nomatch this

theorem State.Serves.of_only (h : s.Serves c e r) (only : OnlyChannel c s t) (ht : t.Consistent) : t.Serves c e r :=
  ⟨ht, (only.isBound_eq c).trans h.bound, only.enr.trans h.enr, only.rst.trans h.rst⟩

theorem State.Serves.modChan (h : s.Serves c e r) {f : ChannelUnit → ChannelUnit}
    (hf : UnitFits (f (s.chan c)) (s.arb.slots.get c) (s.entryMotion c) (s.isBound c)) : (s.modChan c f).Serves c e r :=
  h.of_only (onlyChannel_modChan s c f) (h.fits.modChan hf)

theorem State.Serves.modCtl (h : s.Serves c e r) {f : ChannelRecord → ChannelRecord}
    (hf : UnitFits { s.chan c with ctl := f (s.chan c).ctl } (s.arb.slots.get c) (s.entryMotion c) (s.isBound c)) :
    (s.modCtl c f).Serves c e r := h.modChan (f := fun u => { u with ctl := f u.ctl }) hf

theorem State.Serves.vacate (h : s.Serves c e r) (hi : (s.chan c).ctl.st ≠ .inhibited) (ht : (s.chan c).prof.teach ≠ .running) :
    (s.vacate c .idle).Serves c e r := h.of_only (onlyChannel_vacate s c _) (h.fits.vacate h.notAbsent hi ht)

theorem State.Serves.stop (h : s.Serves c e r) (hi : (s.chan c).ctl.st ≠ .inhibited) (why : TeachReason) :
    ((s.teachFail c why).vacate c .idle).Serves c e r :=
  h.of_only ((onlyChannel_teachFail s c why).trans (onlyChannel_vacate _ c _)) (h.fits.stop h.notAbsent hi why)

theorem State.Serves.loseReference (h : s.Serves c e r) : (s.loseReference c).Serves c e r :=
  h.of_only (onlyChannel_loseReference s c) (h.fits.loseReference c)

theorem inMotion_iff (st : ChanState) : inMotion st = true ↔ st = .opening ∨ st = .closing ∨ st = .reversing := by
  cases st <;> simp [inMotion]

theorem ne_inhibited_of_inMotion {st : ChanState} (h : inMotion st = true) : st ≠ .inhibited := fun hi => by
  rw [hi] at h; exact nomatch h

/-! ### The channel controller (01 R9 to R16) -/

/-- The voltage stage and the causes of a sample: the cause UNDERVOLT follows the monitor's flag (01 R5, 06 R122). -/
theorem State.Serves.sampleCauses (h : s.Serves c e r) (f : SupplyContext → SupplyContext) (m : Sample) (mismatch : Bool) :
    ((s.modSup c f).sampleCauses c m mismatch).Serves c e r := by
  have h1 (k : Causes) (hk : k.undervolt = ((s.modSup c f).chan c).sup.undervolt) :
      ((s.modSup c f).setCauses c k).Serves c e r := by
    rw [State.modSup, State.chan_modChan_self] at hk
    exact h.of_only ((onlyChannel_modSup s c f).trans (onlyChannel_setCauses _ c k)) (h.fits.setCauses_modSup h.bound f k hk)
  unfold State.sampleCauses; dsimp only; split
  · exact (h1 _ rfl).loseReference
  · exact h1 _ rfl

theorem State.Serves.rebase (h : s.Serves c e r) (m : Sample) : (s.rebase c m).Serves c e r :=
  h.modCtl { h.unit with unbound := fun ha => absurd ha h.notAbsent }

theorem State.Serves.driftStop (h : s.Serves c e r) : (s.driftStop c).Serves c e r := by
  unfold State.driftStop; split
  · next hm => exact h.stop (ne_inhibited_of_inMotion hm) _
  · exact h

theorem State.Serves.movePosition (h : s.Serves c e r) (delta : Int) : (s.movePosition c delta).Serves c e r := by
  have h1 (p : Int) : (s.modCtl c fun r => { r with pos := p }).Serves c e r := h.modCtl { h.unit with }
  unfold State.movePosition; dsimp only; split
  · exact (h1 _).driftStop.loseReference
  · exact h1 _

theorem State.Serves.sampleCounter (h : s.Serves c e r) (m : Sample) (k : Nat) : (s.sampleCounter c m k).Serves c e r := by
  unfold State.sampleCounter; dsimp only; split
  · split
    · exact (h.rebase m).loseReference
    · exact h.rebase m
  · split
    · exact h.rebase m
    · split
      · exact (h.rebase m).driftStop.loseReference
      · exact (h.rebase m).movePosition _

theorem State.Serves.modRev_clearLevel (h : s.Serves c e r) : (s.modRev c ReversalContext.clearLevel).Serves c e r :=
  h.modChan { h.unit with window := .inr rfl }

theorem State.Serves.reversalClosedEnd (h : s.Serves c e r) : (s.reversalClosedEnd c).Serves c e r := by
  unfold State.reversalClosedEnd; split
  · exact h.modRev_clearLevel
  · exact h

/-- A running teach carries its teach motion, so its channel has its reference and no target. -/
theorem UnitFits.teach_referenced {u : ChannelUnit} {slot bound : Bool} {entry : Option Motion} (h : UnitFits u slot entry bound)
    (ht : u.prof.teach = .running) : u.ctl.referenced = true :=
  h.reference.resolve_right (by rw [(h.teach ht).1]; decide)

/-- The closing stroke of an unreferenced channel, or one with a target, is no teach stroke. -/
theorem UnitFits.no_teach_of_target {u : ChannelUnit} {slot bound : Bool} {entry : Option Motion} (h : UnitFits u slot entry bound)
    (hst : u.ctl.st = .closing) {target : Int} (hm : u.ctl.motion.bind Motion.target = some target) : u.prof.teach ≠ .running := by
  intro ht
  have := (h.teach ht).1
  rw [ChannelUnit.carries, hst] at this
  dsimp only at this
  rw [this] at hm
  exact nomatch hm

theorem State.Serves.unreferencedEnd (h : s.Serves c e r) (hst : (s.chan c).ctl.st = .closing)
    (href : (s.chan c).ctl.referenced = false) : (s.unreferencedEnd c).Serves c e r := by
  have ht : (s.chan c).prof.teach ≠ .running := fun ht => by
    rw [h.unit.teach_referenced ht] at href; exact nomatch href
  have h1 := h.vacate (by rw [hst]; decide) ht
  have h2 : ((s.vacate c .idle).modCtl c fun r => { r with pos := 0, referenced := true }).Serves c e r :=
    h1.modCtl { h1.unit with reference := .inl rfl, unbound := fun ha => absurd ha h1.notAbsent }
  exact h2.reversalClosedEnd

theorem State.Serves.endTests (h : s.Serves c e r) (atEnd : Bool) (before : Int) : (s.endTests c atEnd before).Serves c e r := by
  have stop (hi : (s.chan c).ctl.st ≠ .inhibited) (hw : (s.chan c).ctl.st ≠ .waiting) (hc : (s.chan c).ctl.st ≠ .closing) :
      (s.vacate c .idle).Serves c e r := h.vacate hi (h.unit.no_teach hw hc)
  unfold State.endTests; dsimp only; split
  · next hst =>
    have h1 := stop (by rw [hst]; decide) (by rw [hst]; decide) (by rw [hst]; decide)
    split <;> split
    · exact h1
    · exact h
    · exact h1
    · exact h
  · next hst =>
    split
    · next htarget =>
      cases hm : (s.chan c).ctl.motion.bind Motion.target with
      | none => rw [hm] at htarget; exact nomatch htarget
      | some target => exact h.vacate (by rw [hst]; decide) (h.unit.no_teach_of_target hst hm)
    · split
      · next hend =>
        rw [Bool.and_eq_true, Bool.not_eq_true'] at hend
        exact h.unreferencedEnd hst hend.2
      · exact h
  · next hst =>
    split
    · exact stop (by rw [hst]; decide) (by rw [hst]; decide) (by rw [hst]; decide)
    · exact h
  · exact h

theorem State.Serves.countStage (h : s.Serves c e r) : (s.countStage c).Serves c e r := by
  unfold State.countStage; split
  · exact h.modChan (f := fun u => { u with sup := { u.sup with strokeMask := min 1023 (u.sup.strokeMask + 1) } }) { h.unit with }
  · exact h

/-! ### The profile store at a closed end stop (03 R75) -/

theorem State.Serves.modBaseline (h : s.Serves c e r) (f : Oct (Bins Nat) → Oct (Bins Nat)) :
    (s.modImage fun i => { i with baseline := f i.baseline }).Serves c e r :=
  ⟨h.fits.modImage (fun _ => rfl) rfl, h.bound, h.enr, h.rst⟩

theorem State.Consistent.modProf (h : s.Consistent) (c : Chan) {f : ProfileContext → ProfileContext}
    (ht : (f (s.chan c).prof).teach = (s.chan c).prof.teach) (hm : (f (s.chan c).prof).marks = (s.chan c).prof.marks) :
    (s.modProf c f).Consistent := by
  have hc : UnitFits (s.chan c) (s.arb.slots.get c) (s.entryMotion c) (s.isBound c) := h.chan c
  refine h.modChan (f := fun u => { u with prof := f u.prof }) { h.chan c with teach := fun hr => ?_ }
  have hf : f (s.chans.get c).prof = f (s.chan c).prof := rfl
  dsimp only at hr ⊢
  rw [hf, ht] at hr
  rw [hf, hm]
  exact hc.teach hr

theorem State.Serves.modProf (h : s.Serves c e r) {f : ProfileContext → ProfileContext}
    (ht : (f (s.chan c).prof).teach = (s.chan c).prof.teach) (hm : (f (s.chan c).prof).marks = (s.chan c).prof.marks) :
    (s.modProf c f).Serves c e r := h.of_only (onlyChannel_modProf s c f) (h.fits.modProf c ht hm)

theorem State.Serves.copyBaseline (h : s.Serves c e r) : (s.copyBaseline c).Serves c e r := h.modProf rfl rfl

theorem State.Serves.learn (h : s.Serves c e r) (k : Int) : (s.learn c k).Serves c e r := by
  unfold State.learn; split
  · exact h.modProf rfl rfl
  · exact h

/-- The closed end stop of a CLOSING channel: a running teach is in its teach stroke and ends there, with one result or another. -/
theorem State.Serves.closedEndStop (h : s.Serves c e r) (hst : (s.chan c).ctl.st = .closing) : (s.closedEndStop c).Serves c e r := by
  have hi : (s.chan c).ctl.st ≠ .inhibited := by rw [hst]; decide
  unfold State.closedEndStop; dsimp only
  generalize (s.chan c).ctl.pos = k
  generalize decide (((s.cset c).driftTol : Int) < |k|) = drift
  generalize hs1 : ((s.vacate c .idle).modCtl c fun r =>
    { r with pos := 0, latched := { r.latched with drift := r.latched.drift || drift } }) = s1
  have hprof : (s1.chan c).prof = (s.chan c).prof := by
    rw [← hs1, State.modCtl, State.chan_modChan_self, State.chan_vacate_self]; rfl
  have only1 : OnlyChannel c s s1 := hs1 ▸ (onlyChannel_vacate s c _).trans (onlyChannel_modCtl _ c _)
  refine State.Serves.reversalClosedEnd ?_
  by_cases ht : (s.chan c).prof.teach = .running
  · have hmark := ((h.unit.teach ht).2).resolve_left (by rw [hst]; decide)
    have judged {f : ProfileContext → ProfileContext} (hr : (f (s.chan c).prof).teach ≠ .running) :
        (s1.modProf c f).Serves c e r := by
      refine h.of_only (only1.trans (onlyChannel_modProf _ c _)) (h.fits.emptied (only1.trans (onlyChannel_modProf _ c _)) ?_ ?_)
      · rw [← hs1]; rfl
      · rw [State.modProf, State.chan_modChan_self, hprof, ← hs1, State.modCtl, State.chan_modChan_self, State.chan_vacate_self]
        exact { (h.unit.failTeach hr).leave_idle h.notAbsent hi hr with }
    unfold State.profileClosedEnd; dsimp only
    rw [hprof, if_pos hmark, if_pos ht]
    unfold State.teachEnd; dsimp only
    generalize hres : (if ((s1.cset c).driftTol : Int) < |k| then TeachState.failed .drift
      else if (s1.chan c).prof.visited < 8 then .failed .short else .done) = result
    have hr : result ≠ .running := by
      rw [← hres]; split
      · nofun
      · split <;> nofun
    split
    · exact State.Serves.copyBaseline (State.Serves.modBaseline (judged hr) fun b => b.set c _)
    · exact judged hr
  · have h1 : s1.Serves c e r := by
      have hv := h.vacate hi ht
      rw [← hs1]; exact hv.modCtl { hv.unit with }
    unfold State.profileClosedEnd; dsimp only
    rw [hprof]
    split
    · exact h1
    · exact h1.learn k

/-! ### The pinch engine (02 R33) -/

theorem State.Serves.modEng_closing (h : s.Serves c e r) (hst : (s.chan c).ctl.st = .closing) (f : EngineContext → EngineContext) :
    (s.modEng c f).Serves c e r :=
  h.modChan (f := fun u => { u with eng := f u.eng }) { h.unit with engine := .inl hst }

theorem State.Serves.trip (h : s.Serves c e r) (hst : (s.chan c).ctl.st = .closing) (cause : TripCause) (ref margin acc : Nat) :
    (s.trip c cause ref margin acc).Serves c e r := by
  have h1 : (s.takeTrip c).Serves c e r := by
    have hf := h.of_only (onlyChannel_teachFail s c .trip) (h.fits.teachFail c .trip)
    refine hf.modChan ?_
    exact hf.unit.reverse (by rw [State.ctl_teachFail]; exact hst) (s.no_teach_teachFail c .trip) _ _ _
  unfold State.trip; dsimp only
  exact h1.modChan (f := fun u => { u with eng := { u.eng with
    trip := { cause := some cause, pos := (s.chan c).ctl.pos, bin := (binOfPos (s.chan c).ctl.pos (s.cset c).travel).val,
              f := effort (s.chan c).eng, r := ref, t := margin, a := acc, level := ((s.takeTrip c).chan c).rev.level,
              speed := s.ctx.speed, stamp := s.partClock }
    tripFlag := true } }) { h1.unit with }

theorem State.Serves.repairBin (h : s.Serves c e r) (b : Fin 64) : (s.repairBin c b).Serves c e r := by
  unfold State.repairBin; dsimp only; split
  · exact h
  · have h1 : (s.modProf c fun p => { p with working := p.working.set b ((s.stg.image.baseline.get c).get b) }).Serves c e r :=
      h.modProf rfl rfl
    exact h1.modCtl { h1.unit with }

theorem State.st_repairBin (s : State) (c : Chan) (b : Fin 64) : ((s.repairBin c b).chan c).ctl.st = (s.chan c).ctl.st := by
  unfold State.repairBin; dsimp only; split
  · rfl
  · rw [State.modCtl, State.chan_modChan_self, State.modProf, State.chan_modChan_self]

theorem State.Serves.accumulate (h : s.Serves c e r) (hst : (s.chan c).ctl.st = .closing) : (s.accumulate c).1.Serves c e r := by
  unfold State.accumulate; dsimp only
  generalize hb : binOfPos (s.chan c).ctl.pos (s.cset c).travel = b
  have h1 := h.repairBin b
  have hst1 : ((s.repairBin c b).chan c).ctl.st = .closing := (s.st_repairBin c b).trans hst
  generalize hacc : accStep _ _ _ = acc
  have h2 : ((s.repairBin c b).modEng c fun e => { e with acc := acc }).Serves c e r := h1.modEng_closing hst1 _
  have hst2 : (((s.repairBin c b).modEng c fun e => { e with acc := acc }).chan c).ctl.st = .closing := by
    rw [State.modEng, State.chan_modChan_self]; exact hst1
  split
  · exact h2.trip hst2 _ _ _ _
  · exact h2

theorem State.Serves.judgeSample (h : s.Serves c e r) (hst : (s.chan c).ctl.st = .closing) (m : Sample) (blanked : Bool) :
    (s.judgeSample c m blanked).1.Serves c e r := by
  unfold State.judgeSample; dsimp only; split
  · exact h.trip hst _ _ _ _
  · split
    · exact h.trip hst _ _ _ _
    · split
      · exact h.closedEndStop hst
      · split
        · exact h
        · exact h.accumulate hst

/-- Handing an entry to the stroke record leaves the teach state and the stroke marks (03 R74). -/
theorem ProfileContext.enter_keeps (p : ProfileContext) (b : Fin 64) (f : Nat) (blanked masked : Bool) :
    (ProfileContext.enter p b f blanked masked).teach = p.teach ∧ (ProfileContext.enter p b f blanked masked).marks = p.marks := by
  unfold ProfileContext.enter; split
  · exact ⟨rfl, rfl⟩
  · split <;> exact ⟨rfl, rfl⟩

theorem State.Serves.closingSample (h : s.Serves c e r) (hst : (s.chan c).ctl.st = .closing) (m : Sample) :
    (s.closingSample c m).Serves c e r := by
  have h1 : (s.enterSample c m.current.toNat).Serves c e r := by
    have h0 := h.modEng_closing hst (prepare m.current.toNat)
    obtain ⟨ht, hm⟩ := ProfileContext.enter_keeps ((s.modEng c (prepare m.current.toNat)).chan c).prof
      (binOfPos (s.chan c).ctl.pos (s.cset c).travel) (effort ((s.modEng c (prepare m.current.toNat)).chan c).eng)
      (decide (0 < (s.chan c).eng.blank)) (maskActive (s.chan c).sup)
    exact h0.modProf (f := fun p => ProfileContext.enter p (binOfPos (s.chan c).ctl.pos (s.cset c).travel)
      (effort ((s.modEng c (prepare m.current.toNat)).chan c).eng) (decide (0 < (s.chan c).eng.blank))
      (maskActive (s.chan c).sup)) ht hm
  have hst1 : ((s.enterSample c m.current.toNat).chan c).ctl.st = .closing := by
    unfold State.enterSample; dsimp only
    rw [State.modProf, State.chan_modChan_self, State.modEng, State.chan_modChan_self]; exact hst
  have h2 := h1.judgeSample hst1 m (decide (0 < (s.chan c).eng.blank))
  unfold State.closingSample State.peakStep; dsimp only
  generalize (s.enterSample c m.current.toNat).judgeSample c m (decide (0 < (s.chan c).eng.blank)) = j at h2 ⊢
  exact h2.modChan (f := fun u => { u with eng := { u.eng with peak := max u.eng.peak (peakCandidate (j.1.cset c) j.2) } })
    { h2.unit with }

/-- A good sample of a bound channel (01 R9, 06 R122). -/
theorem State.Serves.applySample (h : s.Serves c e r) (m : Sample) (k : Nat) (mismatch : Bool) :
    (s.applySample c m k mismatch).Serves c e r := by
  have h1 := (((h.sampleCauses (voltageStage s.glob m.volt.toNat) m mismatch).sampleCounter m k).endTests m.atEnd
    ((s.modSup c (voltageStage s.glob m.volt.toNat)).chan c).ctl.pos).countStage
  unfold State.applySample State.channelSample; dsimp only
  split
  · next hst => exact h1.closingSample hst m
  · exact h1

theorem State.Serves.blindStop (h : s.Serves c e r) (hm : inMotion (s.chan c).ctl.st = true) : (s.blindStop c).Serves c e r := by
  have h1 := h.stop (ne_inhibited_of_inMotion hm) .blind
  exact h1.modCtl { h1.unit with }

end

end Sys2Proof.Machine
end

section
/-! Agreement between the blocks: binding judged again, the node records, enrollment runs and the slots of a cycle keep it. -/

namespace Sys2Proof.Machine

section
variable {s t : State} {c : Chan} {bound : Chan → Bool}

/-! ### Binding judged again (01 R4) -/

/-- A channel becomes unbound: it fits as one that is not bound. -/
theorem State.BlocksFit.becomeUnbound (h : s.BlocksFit bound) (c : Chan) :
    (s.becomeUnbound c).BlocksFit (Function.update bound c false) := by
  have hc : UnitFits (s.chan c) (s.arb.slots.get c) (s.entryMotion c) (bound c) := h.chan c
  have harb : (s.becomeUnbound c).arb = SlotArbiter.drop s.arb c := by
    unfold State.becomeUnbound
    rw [State.arb_modChan, State.arb_vacate, State.arb_teachFail]
  refine h.onChannel (onlyChannel_becomeUnbound s c) (fun d hd => Function.update_of_ne hd _ _) ?_ ?_ ?_
  · rw [harb]; exact nodup_filter_channels h.nodup _
  · unfold State.slotsHeld; rw [harb]; exact le_trans (countP_release_le _ _) h.slots
  · obtain ⟨p, hp, hn⟩ := s.chan_teachFail c .inhibited
    unfold State.entryMotion State.entryOf
    rw [harb, Function.update_self]
    simp only [SlotArbiter.drop, Oct.get_set_self]
    rw [find_entry_filter_self, State.becomeUnbound, State.chan_modChan_self, State.chan_vacate_self, hp]
    exact .rest rfl rfl rfl rfl hc.strokeAtRest_leaving hn (iff_of_true rfl rfl) (fun _ => ⟨rfl, rfl⟩) rfl rfl hc.window

theorem State.st_becomeUnbound (s : State) (c : Chan) : ((s.becomeUnbound c).chan c).ctl.st = .absent := by
  unfold State.becomeUnbound
  rw [State.chan_modChan_self, State.chan_vacate_self]; rfl

/-- An ABSENT channel becomes bound: it fits as one that is bound. -/
theorem State.BlocksFit.becomeBound (h : s.BlocksFit bound) (hst : (s.chan c).ctl.st = .absent) (r : NodeRecord) :
    (s.becomeBound c r).BlocksFit (Function.update bound c true) := by
  have hc : UnitFits (s.chan c) (s.arb.slots.get c) (s.entryMotion c) (bound c) := h.chan c
  have only := onlyChannel_becomeBound s c r
  refine h.onChannel only (fun d hd => Function.update_of_ne hd _ _) h.nodup h.slots ?_
  rw [Function.update_self]
  unfold State.becomeBound; dsimp only
  rw [State.chan_modChan_self]
  cases hk : anyCause (causesOfRecord r) with
  | true => exact hc.at_rest_again (by rw [hst]; rfl) rfl rfl rfl (iff_of_false nofun nofun) nofun hk rfl
  | false => exact hc.at_rest_again (by rw [hst]; rfl) rfl rfl rfl (iff_of_false nofun nofun) nofun hk rfl

/-- A change of one channel and of nothing else leaves who else is bound. -/
theorem State.BlocksFit.judgeBinding (h : s.BlocksFit bound) (old : Oct Nat) (c : Chan) :
    (s.judgeBinding old c).BlocksFit (Function.update bound c (s.isBound c)) := by
  have habsent : (s.chan c).ctl.st = .absent ↔ bound c = false := (h.chan c).absent
  unfold State.judgeBinding; dsimp only
  generalize hkeeps : (s.isBound c && decide ((s.cset c).nodeAddr = old.get c)) = keeps
  by_cases hkept : (s.chan c).ctl.st ≠ .absent ∧ keeps = true
  · have hb : s.isBound c = true := by rw [hkept.2, Bool.and_eq_true] at hkeeps; exact hkeeps.1
    have hsame : Function.update bound c (s.isBound c) = bound := by
      rw [hb, Function.update_eq_self_iff]
      cases hbc : bound c
      · exact absurd (habsent.mpr hbc) hkept.1
      · rfl
    rw [hsame, decide_eq_true hkept.1, hkept.2, hb]
    exact h
  · have hflag : (decide ((s.chan c).ctl.st ≠ .absent) && keeps) = false := by
      rw [Bool.eq_false_iff, ne_eq, Bool.and_eq_true, decide_eq_true_eq]; exact hkept
    have h1 : ∃ t, (if (decide ((s.chan c).ctl.st ≠ .absent) && !keeps) = true then s.becomeUnbound c else s) = t ∧
        t.BlocksFit (Function.update bound c false) ∧ (t.chan c).ctl.st = .absent := by
      refine ⟨_, rfl, ?_⟩
      split
      · exact ⟨h.becomeUnbound c, s.st_becomeUnbound c⟩
      · next hstays =>
        have hst : (s.chan c).ctl.st = .absent := by
          by_contra hne
          refine hkept ⟨hne, ?_⟩
          rw [decide_eq_true hne] at hstays
          simpa using hstays
        rw [← habsent.mp hst, Function.update_eq_self]
        exact ⟨h, hst⟩
    obtain ⟨t, ht, hfit, hst⟩ := h1
    rw [ht, hflag]
    cases hb : s.isBound c with
    | false => exact hfit
    | true =>
      obtain ⟨r, hr⟩ := State.record_of_isBound hb
      rw [hr]
      have := hfit.becomeBound hst r
      rw [Function.update_idem] at this
      exact this

/-- After binding is judged again, the channels bound are those that are to be. -/
theorem State.BlocksFit.rebind (h : s.BlocksFit bound) (old : Oct Nat) : (s.rebind old).BlocksFit (s.rebind old).isBound := by
  have key : ∀ (l : List Chan) (t : State) (bound : Chan → Bool), t.BlocksFit bound → t.isBound = s.isBound →
      (l.foldl (State.judgeBinding old) t).isBound = s.isBound ∧
      (l.foldl (State.judgeBinding old) t).BlocksFit (fun d => if d ∈ l then s.isBound d else bound d) := by
    intro l
    induction l with
    | nil => exact fun t bound ht hb => ⟨hb, by simpa using ht⟩
    | cons c l ih =>
      intro t bound ht hb
      have := ih _ _ (ht.judgeBinding old c)
        ((funext fun d => (onlyChannel_judgeBinding old t c).isBound_eq d).trans hb)
      have hset : (fun d => if d ∈ l then s.isBound d else Function.update bound c (t.isBound c) d) =
          fun d => if d ∈ c :: l then s.isBound d else bound d := by
        funext d
        rw [hb]
        by_cases hl : d ∈ l
        · rw [if_pos hl, if_pos (List.mem_cons_of_mem _ hl)]
        · rw [if_neg hl]
          by_cases hd : d = c
          · rw [hd, Function.update_self, if_pos List.mem_cons_self]
          · rw [Function.update_of_ne hd, if_neg (by rw [List.mem_cons]; exact not_or.mpr ⟨hd, hl⟩)]
      exact ⟨this.1, hset ▸ this.2⟩
  obtain ⟨hb, hfit⟩ := key octIndexes s bound h rfl
  unfold State.rebind
  have hall : (fun d => if d ∈ octIndexes then s.isBound d else bound d) = s.isBound :=
    funext fun d => if_pos (mem_octIndexes d)
  rw [hb]; exact hall ▸ hfit

theorem State.stg_rebind (s : State) (old : Oct Nat) : (s.rebind old).stg = s.stg :=
  foldl_octIndexes_field _ State.stg (fun s c => (onlyChannel_judgeBinding old s c).stg) s

theorem State.enr_rebind (s : State) (old : Oct Nat) : (s.rebind old).enr = s.enr :=
  foldl_octIndexes_field _ State.enr (fun s c => (onlyChannel_judgeBinding old s c).enr) s

theorem State.rst_rebind (s : State) (old : Oct Nat) : (s.rebind old).rst = s.rst :=
  foldl_octIndexes_field _ State.rst (fun s c => (onlyChannel_judgeBinding old s c).rst) s

theorem State.trk_rebind (s : State) (old : Oct Nat) : (s.rebind old).trk = s.trk :=
  foldl_octIndexes_field _ State.trk (fun s c => (onlyChannel_judgeBinding old s c).trk) s

theorem State.Consistent.rebind (h : s.BlocksFit bound) (hp : PhaseFits s.stg s.enr s.rst.active) (old : Oct Nat) :
    (s.rebind old).Consistent where
  toBlocksFit := h.rebind old
  phase := by rw [s.stg_rebind, s.enr_rebind, s.rst_rebind]; exact hp

/-! ### Records and node contexts -/

/-- A change of one node context. -/
theorem State.Consistent.modNode (h : s.Consistent) (a : Node) {f : NodeContext → NodeContext}
    (hf : NodeFits (s.enr.table.get a) (s.enr.schedule.get a) (f (s.br.nodes.get a)) (EnrollmentUnit.ahead s.enr a)) :
    (s.modNode a f).Consistent :=
  { h with
    node := fun b => by
      unfold State.AddressFits
      simp only [State.enr_modNode, State.br_modNode]
      by_cases hb : b = a
      · rw [hb, Oct.get_set_self]; exact hf
      · rw [Oct.get_set_ne _ _ hb]; exact h.node b }

/-- A change of the enrollment unit that leaves the records, the schedule, the offer address and the run alone. -/
theorem State.Consistent.withEnr (h : s.Consistent) {e : EnrollmentUnit} (table : e.table = s.enr.table)
    (schedule : e.schedule = s.enr.schedule) (st : e.st = .idle ↔ s.enr.st = .idle) (offer : e.offer = s.enr.offer)
    (cold : e.fromCold = s.enr.fromCold) : State.Consistent { s with enr := e } where
  chan d := (h.chan d).of_bound_eq (State.isBound_congr (s := s) (t := { s with enr := e }) (fun _ => rfl)
    (fun _ => by rw [← table]) (by unfold State.runInProgress; exact decide_eq_decide.mpr (not_congr st)) d)
  node a := by
    have := h.node a
    unfold State.AddressFits EnrollmentUnit.ahead at *
    dsimp only
    rw [table, schedule, offer, show decide (e.st ≠ .idle) = decide (s.enr.st ≠ .idle) from decide_eq_decide.mpr (not_congr st)]
    exact this
  nodup := h.nodup
  slots := h.slots
  collector := h.collector
  phase :=
    { h.phase with
      starting := fun hp => ⟨(not_congr st).mpr (h.phase.starting hp).1, cold.trans (h.phase.starting hp).2.1,
        (h.phase.starting hp).2.2⟩
      cold := fun hst hc => h.phase.cold ((not_congr st).mp hst) (cold.symm.trans hc)
      held := fun ha => ⟨(h.phase.held ha).1, offer.trans (h.phase.held ha).2⟩
      run := fun hp => ⟨(h.phase.run hp).1, st.mpr (h.phase.run hp).2⟩
      lockIn := fun i check hw => ⟨(h.phase.lockIn i check hw).1, st.mpr (h.phase.lockIn i check hw).2⟩ }

/-- A change of the record of an address that has one, of its place in the schedule, and of its node context. -/
theorem State.Consistent.setRecord (h : s.Consistent) (a : Node) {record : Option NodeRecord} {scheduled : Bool} {n : NodeContext}
    (count : Nat) (hsome : record.isSome = (s.enr.table.get a).isSome)
    (hn : NodeFits record scheduled n (EnrollmentUnit.ahead s.enr a)) :
    State.Consistent { s with
      br := { s.br with nodes := s.br.nodes.set a n }
      enr := { s.enr with table := s.enr.table.set a record, schedule := s.enr.schedule.set a scheduled, rejoinCount := count } } where
  chan d := by
    refine (h.chan d).of_bound_eq ?_
    refine State.isBound_congr ?_ ?_ ?_ d
    · exact fun _ => rfl
    · intro b
      dsimp only
      rw [Oct.get_set]; split
      · next hb => rw [hb]; exact hsome
      · rfl
    · rfl
  node b := by
    unfold State.AddressFits
    dsimp only
    by_cases hb : b = a
    · rw [hb]
      simp only [Oct.get_set_self]
      exact hn
    · simp only [Oct.get_set_ne _ _ hb]
      exact h.node b
  nodup := h.nodup
  slots := h.slots
  collector := h.collector
  phase := { h.phase with }

/-- The channel that an address names is not ABSENT, so it is bound. -/
theorem State.Consistent.bound_of_channelOf (h : s.Consistent) {a : Node} (hc : s.channelOf a = some c) : s.isBound c = true := by
  have := List.find?_some hc
  simp only [Bool.and_eq_true, decide_eq_true_eq] at this
  exact (h.chan c).bound_of_ne this.1

/-! ### Loss and rejoin (08 R172) -/

theorem State.Consistent.channelLosesNode (h : s.Consistent) (hb : s.isBound c = true) : (s.channelLosesNode c).Consistent := by
  have h1 : (s.setCauses c { (s.chan c).ctl.causes with nodeLost := true }).Consistent := h.setCauses hb _ (h.chan c).undervolt
  have hc : UnitFits (s.chan c) (s.arb.slots.get c) (s.entryMotion c) (s.isBound c) := h.chan c
  unfold State.channelLosesNode; dsimp only; split
  · next hm =>
    refine h1.modCtl (UnitFits.unreference (h1.chan c) ?_)
    have hst : ((s.setCauses c { (s.chan c).ctl.causes with nodeLost := true }).chan c).ctl.st = .inhibited := by
      have hwas : anyCause (s.chan c).ctl.causes = false := by
        rw [hc.causes]; exact decide_eq_false (ne_inhibited_of_inMotion hm)
      simp only [State.setCauses]
      rw [if_pos ⟨hwas, rfl⟩, State.chan_vacate_self]; rfl
    rw [ChannelUnit.carries_of_atRest (by rw [show ((State.setCauses _ _ _).chans.get c).ctl.st = .inhibited from hst]; rfl)]
    rfl
  · exact h1

theorem State.Consistent.channelRegainsNode (h : s.Consistent) (hb : s.isBound c = true) (mismatch : Bool) :
    (s.channelRegainsNode c mismatch).Consistent := h.setCauses hb _ (h.chan c).undervolt

theorem State.Consistent.declareLost (h : s.Consistent) (a : Node) (hr : (s.enr.table.get a).isSome = true) :
    (s.declareLost a).Consistent := by
  have hahead (ha : EnrollmentUnit.ahead s.enr a = true) : False := by
    rw [(h.node a).offered ha] at hr; exact nomatch hr
  obtain ⟨r, hr⟩ := Option.isSome_iff_exists.mp hr
  have h2 : State.Consistent { s.modNode a (fun n => { n with grade := 0, worst := 0, winPos := 0, winBad := 0 }) with
      enr := EnrollmentUnit.lose s.enr a } :=
    h.setRecord a (scheduled := true) _ (by rw [Option.isSome_map])
      ⟨by rw [hr]; simp, fun _ => rfl, le_refl _, fun ha => (hahead ha).elim⟩
  unfold State.declareLost; dsimp only
  split
  · next c hc =>
    exact h2.channelLosesNode (h2.bound_of_channelOf (a := a) hc)
  · exact h2

theorem State.Consistent.rejoinNode (h : s.Consistent) (a : Node) (mismatch : Bool) : (s.rejoinNode a mismatch).Consistent := by
  unfold State.rejoinNode; split
  · exact h
  · next r hr =>
    split
    · exact h
    · next hlost =>
      have hst : r.st = .lost := not_not.mp hlost
      have hsched : s.enr.schedule.get a = true := by rw [(h.node a).schedule, hr]; simpa using hst
      have h1 : (s.regainRecord a (rejoinedRecord r mismatch)).Consistent := by
        refine h.setRecord a (record := some (rejoinedRecord r mismatch)) _ (by rw [hr]; rfl) ⟨?_, nofun, ?_, fun ha => ?_⟩
        · rw [Option.any_some, rejoinedRecord]; split <;> rfl
        · have := (h.node a).worst
          rw [(h.node a).grade hsched] at this
          exact le_trans this (Nat.zero_le _)
        · have := (h.node a).offered ha
          rw [hr] at this; exact nomatch this
      dsimp only
      generalize decide ((rejoinedRecord r mismatch).st = RecordState.mismatch) = fault
      have judged {t : State} (ht : t.Consistent) : (t.rebind t.nodeAddrs).Consistent :=
        State.Consistent.rebind ht.toBlocksFit ht.phase _
      split
      · exact judged h1
      · next c hc => exact judged (h1.channelRegainsNode (h1.bound_of_channelOf (a := a) hc) fault)

end

end Sys2Proof.Machine
end

section
/-! Agreement between the blocks: enrollment runs, the cycle start and the slots of a cycle keep it (07, 08). -/

namespace Sys2Proof.Machine

section
variable {s t : State} {c : Chan} {bound : Chan → Bool}

/-! ### Phases (10 R189) -/

/-- SETUP or a locked RUN is entered outside a run, with no cold reset held and no store write in flight. -/
theorem State.Consistent.enterPhase (h : s.BlocksFit s.isBound) (hidle : s.enr.st = .idle) (hrst : s.rst.active = false)
    (hw : s.stg.write = none) {p : Phase} (hp : p = .setup ∨ (p = .run ∧ s.stg.locked.isSome = true)) :
    (s.enterPhase p).Consistent := by
  have hnone {q : Prop} (w : StoreWrite) (h : s.stg.write = some w) : q := by rw [hw] at h; exact nomatch h
  have hrun {q : Prop} (h : s.enr.st ≠ .idle) : q := absurd hidle h
  have hheld {q : Prop} (h : s.rst.active = true) : q := by rw [hrst] at h; exact nomatch h
  unfold State.enterPhase; split
  · next hrunning =>
    exact { h with
      phase :=
        { starting := nofun
          cold := fun hr => hrun hr
          held := fun ha => hheld ha
          run := fun _ => ⟨(hp.resolve_left (by rw [hrunning]; decide)).2, hidle⟩
          timer := rfl
          lockIn := fun _ _ hx => hnone _ hx
          reopen := fun hx => hnone _ hx } }
  · next hsetup =>
    obtain rfl := hp.resolve_right fun hr => hsetup hr.1
    exact { h with
      phase :=
        { starting := nofun
          cold := fun hr => hrun hr
          held := fun ha => hheld ha
          run := nofun
          timer := rfl
          lockIn := fun _ _ hx => hnone _ hx
          reopen := fun hx => hnone _ hx } }

/-! ### Enrollment runs (08 R169, R170) -/

/-- No store write is in flight during a run. -/
theorem PhaseFits.no_write {u : SettingsUnit} {e : EnrollmentUnit} {active : Bool} (h : PhaseFits u e active) (hrun : e.st ≠ .idle) :
    u.write = none := by
  cases hw : u.write with
  | none => rfl
  | some w =>
    cases w with
    | lockIn i check => exact absurd (h.lockIn i check hw).2 hrun
    | reopen => exact absurd (h.run (h.reopen hw)).2 hrun

/-- A run as it ends, before binding is judged again (08 R170). -/
def State.runOver (s : State) : State := { s with enr := { s.enr with st := .idle, settle := none } }

theorem State.endRun_eq (s : State) : s.endRun =
    (let t := s.runOver.rebind s.runOver.nodeAddrs
     let u := { t with enr := { t.enr with mismatch := decide (t.nodeCount ≠ t.glob.expectedNodes) } }
     if s.enr.fromCold then u.enterPhase s.stg.chosen else u) := by
  unfold State.endRun State.runOver; rfl

/-- The end of a run: binding is judged again, and a run that followed a cold start enters the chosen phase. -/
theorem State.Consistent.endRun (h : s.runOver.BlocksFit bound)
    (hp : PhaseFits s.stg s.enr s.rst.active) (hrun : s.enr.st ≠ .idle) (hrst : s.rst.active = false) : s.endRun.Consistent := by
  have h2 := h.rebind s.runOver.nodeAddrs
  have hstg : (s.runOver.rebind s.runOver.nodeAddrs).stg = s.stg := s.runOver.stg_rebind s.runOver.nodeAddrs
  have henr := s.runOver.enr_rebind s.runOver.nodeAddrs
  have hrst2 : (s.runOver.rebind s.runOver.nodeAddrs).rst = s.rst := s.runOver.rst_rebind s.runOver.nodeAddrs
  rw [State.endRun_eq]; dsimp only
  generalize s.runOver.rebind s.runOver.nodeAddrs = t at h2 hstg henr hrst2 ⊢
  have hst : t.enr.st = .idle := by rw [henr]; rfl
  have h3 : State.BlocksFit { t with enr := { t.enr with mismatch := decide (t.nodeCount ≠ t.glob.expectedNodes) } }
      (State.isBound { t with enr := { t.enr with mismatch := decide (t.nodeCount ≠ t.glob.expectedNodes) } }) := { h2 with }
  split
  · next hcold =>
    have hstart := hp.starting (hp.cold hrun hcold)
    refine State.Consistent.enterPhase h3 hst (by rw [hrst2]; exact hrst) (by rw [hstg]; exact hp.no_write hrun) ?_
    rw [hstg]; exact hstart.2.2
  · next hcold =>
    have hph : s.stg.phase ≠ .starting := fun hph => hcold (hp.starting hph).2.1
    have hwrite := hp.no_write hrun
    have htimer := hp.timer
    refine { h3 with phase := ?_ }
    dsimp only
    rw [hstg, hrst2, hrst]
    exact { starting := fun hx => absurd hx hph
            cold := fun hx => absurd hst hx
            held := nofun
            run := fun hx => ⟨(hp.run hx).1, hst⟩
            timer := htimer
            lockIn := fun _ _ hx => by rw [hwrite] at hx; exact nomatch hx
            reopen := fun hx => by rw [hwrite] at hx; exact nomatch hx }

/-- A record is made at the offer address of a run: the run has then passed that address. -/
theorem State.Consistent.madeRecord (h : s.Consistent) (hrun : s.enr.st ≠ .idle) {r : NodeRecord} (hr : r.st ≠ .lost)
    {e : EnrollmentUnit} (table : e.table = s.enr.table.set s.enr.offer (some r)) (schedule : e.schedule = s.enr.schedule)
    (ahead : ∀ b, EnrollmentUnit.ahead e b = true → EnrollmentUnit.ahead s.enr b = true ∧ b ≠ s.enr.offer) :
    State.BlocksFit { s.modNode s.enr.offer NodeContext.enrolled with enr := e } s.isBound :=
  { h with
    node := fun b => by
      unfold State.AddressFits
      dsimp only [State.br_modNode]
      rw [table, schedule]
      by_cases hb : b = s.enr.offer
      · have hoffer : EnrollmentUnit.ahead s.enr s.enr.offer = true := by simp [EnrollmentUnit.ahead, hrun]
        have hsched : s.enr.schedule.get s.enr.offer = false := by
          rw [(h.node s.enr.offer).schedule, (h.node s.enr.offer).offered hoffer]; rfl
        rw [hb, Oct.get_set_self, Oct.get_set_self, hsched]
        exact ⟨by simpa using hr, nofun, le_refl _, fun ha => absurd rfl (ahead _ ha).2⟩
      · rw [Oct.get_set_ne _ _ hb, Oct.get_set_ne _ _ hb]
        exact { h.node b with offered := fun ha => (h.node b).offered (ahead b ha).1 } }

theorem State.Consistent.makeRecord (h : s.Consistent) (hrun : s.enr.st ≠ .idle) (hrst : s.rst.active = false) {r : NodeRecord}
    (hr : r.st ≠ .lost) : (s.makeRecord r).Consistent := by
  have hnext : ∀ a b : Node, a ≠ 7 → ¬ b < a + 1 → ¬ b < a ∧ b ≠ a := by decide
  unfold State.makeRecord; dsimp only; split
  · refine State.Consistent.endRun (bound := s.isBound) ?_ { h.phase with } hrun hrst
    exact h.madeRecord (e := { s.enr with
      table := s.enr.table.set s.enr.offer (some r), miss := 0, st := .idle, settle := none }) hrun hr rfl rfl fun _ ha => nomatch ha
  · next hlast =>
    have hbound : (State.isBound { s.modNode s.enr.offer NodeContext.enrolled with enr := { s.enr with
        table := s.enr.table.set s.enr.offer (some r), miss := 0, offer := s.enr.offer + 1, st := .settle,
        settle := some (s.now + Config.settleTicks) } }) = s.isBound :=
      funext fun d => (State.isBound_of_run rfl d).trans (State.isBound_of_run (s.runInProgress_iff.mpr hrun) d).symm
    have h1 := h.madeRecord (e := { s.enr with
        table := s.enr.table.set s.enr.offer (some r), miss := 0, offer := s.enr.offer + 1, st := .settle,
        settle := some (s.now + Config.settleTicks) }) hrun hr rfl rfl fun b ha => by
      simp only [EnrollmentUnit.ahead, Bool.and_eq_true, Bool.not_eq_true', decide_eq_false_iff_not] at ha
      obtain ⟨hlt, hne⟩ := hnext _ b hlast ha.2
      exact ⟨by simp [EnrollmentUnit.ahead, hrun, hlt], hne⟩
    exact
      { toBlocksFit := hbound ▸ h1
        phase :=
          { h.phase with
            starting := fun hx => ⟨nofun, (h.phase.starting hx).2⟩
            cold := fun _ hc => h.phase.cold hrun hc
            held := fun (ha : s.rst.active = true) => by rw [hrst] at ha; exact nomatch ha
            run := fun hx => absurd (h.phase.run hx).2 hrun
            lockIn := fun i check hx => absurd (h.phase.lockIn i check hx).2 hrun } }

theorem State.Consistent.missOffer (h : s.Consistent) (hrun : s.enr.st ≠ .idle) (hrst : s.rst.active = false) :
    s.missOffer.Consistent := by
  unfold State.missOffer; dsimp only; split
  · refine State.Consistent.endRun (bound := s.isBound) ?_ { h.phase with } hrun hrst
    exact { h with node := fun a => { h.node a with offered := fun ha => nomatch ha } }
  · exact h.withEnr rfl rfl Iff.rfl rfl rfl

/-! ### The slots of a cycle -/

/-- The blocks agree in a part that no cold reset holds. -/
structure State.Live (s : State) : Prop where
  fits : s.Consistent
  running : s.rst.active = false

theorem State.Live.of_rst (h : s.Live) (ht : t.Consistent) (hrst : t.rst = s.rst) : t.Live := ⟨ht, hrst ▸ h.running⟩

theorem State.rst_enterPhase (s : State) (p : Phase) : (s.enterPhase p).rst = s.rst := by
  unfold State.enterPhase; split <;> rfl

theorem State.rst_endRun (s : State) : s.endRun.rst = s.rst := by
  have h : (s.runOver.rebind s.runOver.nodeAddrs).rst = s.rst := s.runOver.rst_rebind s.runOver.nodeAddrs
  rw [State.endRun_eq]; dsimp only
  generalize s.runOver.rebind s.runOver.nodeAddrs = t at h ⊢
  split
  · exact (State.rst_enterPhase _ _).trans h
  · exact h

theorem State.rst_makeRecord (s : State) (r : NodeRecord) : (s.makeRecord r).rst = s.rst := by
  unfold State.makeRecord; dsimp only; split
  · exact State.rst_endRun _
  · rfl

theorem State.rst_missOffer (s : State) : s.missOffer.rst = s.rst := by
  unfold State.missOffer; dsimp only; split
  · exact State.rst_endRun _
  · rfl

theorem State.rst_rejoinNode (s : State) (a : Node) (mismatch : Bool) : (s.rejoinNode a mismatch).rst = s.rst := by
  unfold State.rejoinNode; split
  · rfl
  · split
    · rfl
    · dsimp only
      rw [State.rst_rebind]; split
      · rfl
      · exact (onlyChannel_setCauses _ _ _).rst

theorem State.rst_declareLost (s : State) (a : Node) : (s.declareLost a).rst = s.rst := by
  unfold State.declareLost; dsimp only; split
  · unfold State.channelLosesNode; dsimp only; split
    · exact (onlyChannel_setCauses _ _ _).rst
    · exact (onlyChannel_setCauses _ _ _).rst
  · rfl

theorem State.Live.slot0Ends (h : s.Live) (content : SlotContent) : (s.slot0Ends content).Live := by
  have h1 : State.Live { s with enr := { s.enr with slot0 := .unused, reading := none } } :=
    h.of_rst (h.fits.withEnr rfl rfl Iff.rfl rfl rfl) rfl
  unfold State.slot0Ends; dsimp only; split
  · exact h
  · split
    · next i _ _ hst =>
      exact h1.of_rst (h1.fits.makeRecord (by rw [hst]; decide) h.running nofun) (State.rst_makeRecord _ _)
    · exact h1
  · split
    · next hst => exact h1.of_rst (h1.fits.missOffer (by rw [hst]; decide) h.running) (State.rst_missOffer _)
    · exact h1
  · split
    · exact h1.of_rst (h1.fits.rejoinNode _ _) (State.rst_rejoinNode _ _ _)
    · exact h1
  · exact h1.of_rst (h1.fits.withEnr rfl rfl Iff.rfl rfl rfl) rfl

theorem State.Live.readSlotEnds (h : s.Live) (a : Node) (content : SlotContent) : (s.readSlotEnds a content).Live := by
  have h1 : State.Live { s with enr := { s.enr with reading := none } } :=
    h.of_rst (h.fits.withEnr rfl rfl Iff.rfl rfl rfl) rfl
  unfold State.readSlotEnds; dsimp only; split
  · exact h1
  · split
    · next hrun =>
      have h2 : State.Live { s with enr := { s.enr with reading := none, slot0 := .unused } } :=
        h.of_rst (h.fits.withEnr rfl rfl Iff.rfl rfl rfl) rfl
      exact h2.of_rst (h2.fits.makeRecord (s.runInProgress_iff.mp hrun) h.running nofun) (State.rst_makeRecord _ _)
    · exact h1.of_rst (h1.fits.rejoinNode a _) (State.rst_rejoinNode _ _ _)

/-- The address of a judged slot has a record that is not LOST. -/
theorem State.isJudged_iff (s : State) (a : Node) : s.isJudged a = true ↔ ∃ r, s.enr.table.get a = some r ∧ r.st ≠ .lost := by
  unfold State.isJudged
  cases s.enr.table.get a <;> simp

theorem State.Live.declareLost (h : s.Live) {a : Node} (hj : s.isJudged a = true) : (s.declareLost a).Live := by
  obtain ⟨r, hr, -⟩ := (s.isJudged_iff a).mp hj
  exact h.of_rst (h.fits.declareLost a (by rw [hr]; rfl)) (s.rst_declareLost a)

/-- A judged address stands in no schedule, so its grade is free. -/
theorem State.Live.modNode (h : s.Live) {a : Node} (hj : s.isJudged a = true) {f : NodeContext → NodeContext}
    (hf : (f (s.br.nodes.get a)).worst ≤ (f (s.br.nodes.get a)).grade) : (s.modNode a f).Live := by
  obtain ⟨r, hr, hst⟩ := (s.isJudged_iff a).mp hj
  refine h.of_rst (h.fits.modNode a { h.fits.node a with grade := fun hs => ?_, worst := hf }) rfl
  rw [(h.fits.node a).schedule, hr] at hs
  exact absurd (of_decide_eq_true hs) hst

theorem State.Live.windowEnd (h : s.Live) {a : Node} (hj : s.isJudged a = true) : (s.windowEnd a).Live := by
  unfold State.windowEnd; dsimp only; split
  · exact h
  · generalize nextGrade s.glob (s.br.nodes.get a).grade (s.br.nodes.get a).winBad = grade
    have h1 : (s.modNode a fun n => { n with winPos := 0, winBad := 0, grade := grade
                                             worst := if grade = n.grade then n.worst else min n.worst grade }).Live := by
      refine h.modNode hj ?_
      dsimp only; split
      · next he => rw [he]; exact (h.fits.node a).worst
      · exact min_le_right _ _
    split
    · exact h1.declareLost hj
    · exact h1

theorem State.isJudged_congr (h : t.enr = s.enr) (a : Node) : t.isJudged a = s.isJudged a := by
  unfold State.isJudged; rw [h]

theorem State.Live.goodSlot (h : s.Live) {a : Node} (hj : s.isJudged a = true) (m : Sample) : (s.goodSlot a m).Live := by
  have h1 : (s.modNode a fun n => { n with badRun := 0, keep := some m.keep, since := 0 }).Live :=
    h.modNode hj (h.fits.node a).worst
  unfold State.goodSlot; dsimp only
  generalize hk : (s.modNode a fun n => { n with badRun := 0, keep := some m.keep, since := 0 }) = s1 at h1 ⊢
  have hj1 : s1.isJudged a = true := by rw [← hk]; exact hj
  have counted {t : State} (ht : t.Live) (hjt : t.isJudged a = true) :
      ((t.modNode a fun n => NodeContext.count n false).windowEnd a).Live :=
    State.Live.windowEnd (ht.modNode (f := fun n => NodeContext.count n false) hjt (ht.fits.node a).worst) hjt
  split
  · next c hc =>
    have hserves : s1.Serves c s1.enr s1.rst := ⟨h1.fits, h1.fits.bound_of_channelOf hc, rfl, rfl⟩
    have happlied := hserves.applySample m (s.br.nodes.get a).since (s1.isMismatch a)
    exact counted (h1.of_rst happlied.fits happlied.rst) ((State.isJudged_congr happlied.enr a).trans hj1)
  · exact counted h1 hj1

theorem State.Live.blindTest (h : s.Live) (a : Node) : (s.blindTest a).Live ∧ (s.blindTest a).enr = s.enr := by
  unfold State.blindTest; split
  · next c hc =>
    split
    · next hb =>
      have hserves : s.Serves c s.enr s.rst := ⟨h.fits, h.fits.bound_of_channelOf hc, rfl, rfl⟩
      have hstopped := hserves.blindStop hb.2
      exact ⟨h.of_rst hstopped.fits hstopped.rst, hstopped.enr⟩
    · exact ⟨h, rfl⟩
  · exact ⟨h, rfl⟩

theorem State.Live.badSlot (h : s.Live) {a : Node} (hj : s.isJudged a = true) : (s.badSlot a).Live := by
  have h1 : (s.modNode a fun n => NodeContext.count { n with badRun := min 63 (n.badRun + 1) } true).Live :=
    h.modNode hj (h.fits.node a).worst
  obtain ⟨h2, henr⟩ := h1.blindTest a
  have hj2 := (State.isJudged_congr henr a).trans hj
  unfold State.badSlot; dsimp only; split
  · exact h2.declareLost hj2
  · exact h2.windowEnd hj2

theorem State.Live.replySlotEnds (h : s.Live) (a : Node) (content : SlotContent) : (s.replySlotEnds a content).Live := by
  unfold State.replySlotEnds; split
  · exact h.readSlotEnds a content
  · split
    · next hj =>
      split
      · exact h.goodSlot hj _
      · exact h.badSlot hj
      · exact h.badSlot hj
      · exact h.badSlot hj
    · exact h

theorem State.Live.toPlace (h : s.Live) (n : Nat) : (s.toPlace n).Live := ⟨{ h.fits with }, h.running⟩

theorem State.Live.endReplySlot (h : s.Live) (a : Node) (content : SlotContent) : (s.endReplySlot a content).Live :=
  (h.replySlotEnds a content).toPlace _

theorem State.Live.silentUpTo (h : s.Live) (n : Nat) : (s.silentUpTo n).Live := by
  unfold State.silentUpTo
  generalize octIndexes = l
  induction l generalizing s with
  | nil => exact h
  | cons a l ih =>
    refine ih ?_
    dsimp only; split
    · exact h.endReplySlot a _
    · exact h

theorem State.Live.replySlotRow (h : s.Live) (a : Node) (content : SlotContent) : (s.replySlotRow a content).Live := by
  unfold State.replySlotRow; split
  · exact (h.silentUpTo _).endReplySlot a content
  · exact h

theorem State.Live.slot0Row (h : s.Live) (content : SlotContent) : (s.slot0Row content).Live := by
  unfold State.slot0Row; split
  · exact ((h.silentUpTo _).slot0Ends content).toPlace _
  · exact h

/-! ### The cycle start and the rejoin attempt -/

/-- A rejoin attempt leaves the records, the schedule, the offer address and the run alone. -/
theorem EnrollmentUnit.attemptRejoin_keeps (e : EnrollmentUnit) :
    (EnrollmentUnit.attemptRejoin e).table = e.table ∧ (EnrollmentUnit.attemptRejoin e).schedule = e.schedule ∧
    (EnrollmentUnit.attemptRejoin e).st = e.st ∧ (EnrollmentUnit.attemptRejoin e).offer = e.offer ∧
    (EnrollmentUnit.attemptRejoin e).fromCold = e.fromCold := by
  unfold EnrollmentUnit.attemptRejoin; split <;> exact ⟨rfl, rfl, rfl, rfl, rfl⟩

/-- So does the enrollment unit's part of a cycle start, but that SETTLE goes to OFFERING. -/
theorem EnrollmentUnit.cycle_keeps (e : EnrollmentUnit) (now : Nat) :
    (EnrollmentUnit.cycle e now).table = e.table ∧ (EnrollmentUnit.cycle e now).schedule = e.schedule ∧
    ((EnrollmentUnit.cycle e now).st = .idle ↔ e.st = .idle) ∧ (EnrollmentUnit.cycle e now).offer = e.offer ∧
    (EnrollmentUnit.cycle e now).fromCold = e.fromCold := by
  unfold EnrollmentUnit.cycle; dsimp only; split
  · exact ⟨rfl, rfl, Iff.rfl, rfl, rfl⟩
  · next hst =>
    split
    · exact ⟨rfl, rfl, iff_of_false nofun (by rw [hst]; nofun), rfl, rfl⟩
    · exact ⟨rfl, rfl, Iff.rfl, rfl, rfl⟩
  · exact ⟨rfl, rfl, Iff.rfl, rfl, rfl⟩
  · split
    · exact ⟨rfl, rfl, Iff.rfl, rfl, rfl⟩
    · split
      · obtain ⟨table, schedule, st, offer, cold⟩ :=
          EnrollmentUnit.attemptRejoin_keeps { e with slot0 := .unused, reading := e.followUp, followUp := none }
        exact ⟨table, schedule, by rw [st], offer, cold⟩
      · exact ⟨rfl, rfl, Iff.rfl, rfl, rfl⟩

theorem State.Consistent.cycleStart (h : s.Consistent) : s.cycleStart.Consistent := by
  have h1 := h.arbitrate
  unfold State.cycleStart; dsimp only
  generalize s.arbitrate = t at h1 ⊢
  obtain ⟨table, schedule, st, offer, cold⟩ := EnrollmentUnit.cycle_keeps t.enr t.now
  have h2 := h1.withEnr table schedule st offer cold
  exact { h2 with
    node := fun a => by
      have := h2.node a
      unfold State.AddressFits at *
      dsimp only at *
      rw [countCycles, Oct.get_map]
      exact { this with } }

theorem State.Consistent.rejoinAttempted (h : s.Consistent) : s.rejoinAttempted.Consistent := by
  unfold State.rejoinAttempted; split
  · exact h
  · obtain ⟨table, schedule, st, offer, cold⟩ := EnrollmentUnit.attemptRejoin_keeps s.enr
    have h2 := h.withEnr table schedule (by rw [st]) offer cold
    exact { h2 with }

end

end Sys2Proof.Machine
end

section
/-! Agreement between the blocks: resets, the settings unit, management and the trunk port keep it; every step keeps it. -/

namespace Sys2Proof.Machine

section
variable {s t : State} {c : Chan} {bound : Chan → Bool}

/-! ### Resets (08 R164 to R167) -/

theorem State.Consistent.coldReset (h : s.Consistent) (cause : ResetCause) : (s.coldReset cause).Consistent := by
  unfold State.coldReset; split
  · exact h
  · refine ⟨⟨fun c => ?_, fun a => ?_, List.nodup_nil, Nat.zero_le _, rfl⟩, ?_⟩
    · rw [State.isBound_of_run rfl c]
      simp only [State.held, SlotArbiter.cold, Oct.get_const]
      exact .rest rfl rfl rfl rfl ⟨rfl, rfl, rfl⟩ nofun (iff_of_true rfl rfl) (fun _ => ⟨rfl, rfl⟩) rfl rfl (.inr rfl)
    · unfold State.AddressFits
      simp only [State.held, EnrollmentUnit.cold, BranchPort.cold, Oct.get_const]
      exact ⟨rfl, nofun, le_refl _, fun _ => rfl⟩
    · exact
        { starting := fun _ => ⟨nofun, rfl, .inl rfl⟩
          cold := fun _ _ => rfl
          held := fun _ => ⟨rfl, rfl⟩
          run := nofun
          timer := rfl
          lockIn := nofun
          reopen := nofun }

/-- With no channel bound, no channel holds a slot. -/
theorem State.slotsHeld_of_unbound (h : s.Consistent) (hb : ∀ c, s.isBound c = false) : s.slotsHeld = 0 := by
  have hfalse (c : Chan) : s.arb.slots.get c = false := by
    rw [(h.chan c).holds, (h.chan c).absent.mpr (hb c)]; rfl
  unfold State.slotsHeld
  rw [List.countP_eq_zero, Oct.toList_eq]
  intro b hm
  obtain ⟨c, -, rfl⟩ := List.mem_map.mp hm
  rw [hfalse c]; decide

/-- What a store read chooses: SETUP, or RUN with a locked check value. -/
theorem readStore_chosen (u : SettingsUnit) :
    (readStore u).chosen = .setup ∨ ((readStore u).chosen = .run ∧ (readStore u).locked.isSome = true) := by
  unfold readStore; dsimp only
  split
  · exact .inr ⟨rfl, rfl⟩
  · exact .inl rfl

theorem State.Consistent.coldStart (h : s.Consistent) (hrst : s.rst.active = true) : s.coldStart.Consistent := by
  obtain ⟨hph, hoffer⟩ := h.phase.held hrst
  have hrun := (h.phase.starting hph).1
  have hunbound (c : Chan) : s.isBound c = false := State.isBound_of_run (s.runInProgress_iff.mpr hrun) c
  refine ⟨⟨fun c => ?_, fun a => ?_, h.nodup, ?_, h.collector⟩, ?_⟩
  · unfold State.coldStart; dsimp only
    rw [Oct.get_ofFn]
    refine UnitFits.of_bound_eq (bound := s.isBound c) ?_ ?_
    · exact { h.chan c with }
    · rw [hunbound c]; exact State.isBound_of_run rfl c
  · refine { h.node a with offered := fun ha => (h.node a).offered ?_ }
    simp only [EnrollmentUnit.ahead, Bool.and_eq_true, decide_eq_true_eq] at ha ⊢
    exact ⟨hrun, ha.2⟩
  · show s.slotsHeld ≤ _
    rw [State.slotsHeld_of_unbound h hunbound]; exact Nat.zero_le _
  · exact
      { starting := fun _ => ⟨nofun, rfl, readStore_chosen s.stg⟩
        cold := fun _ _ => rfl
        held := nofun
        run := nofun
        timer := rfl
        lockIn := nofun
        reopen := nofun }

theorem State.Consistent.modRst (h : s.Consistent) {f : ResetUnit → ResetUnit} (hf : (f s.rst).active = s.rst.active) :
    (s.modRst f).Consistent :=
  { h with phase := hf.symm ▸ h.phase }

/-- A unit at rest fits after a warm reset, with its binding as it stands. -/
theorem UnitFits.warm {u : ChannelUnit} {slot bound : Bool} {entry : Option Motion} (h : UnitFits u slot entry bound)
    (hst : atRest u.ctl.st = true) (baseline : Bins Nat) : UnitFits (ChannelUnit.warm u baseline) false none bound :=
  .rest hst rfl rfl rfl ⟨rfl, rfl, rfl⟩ nofun h.absent h.unbound h.causes h.undervolt h.window

/-- Every block at its warm reset value, with the store read, before binding is judged again and a phase is entered (08 R166). -/
def State.warmed (s : State) : State :=
  { s with
    chans := Oct.ofFn fun c => ChannelUnit.warm (s.chans.get c) ((readStore s.stg).image.baseline.get c)
    ctx := ContextUnit.stale
    arb := SlotArbiter.cold
    enr := EnrollmentUnit.warm s.enr
    trk := TrunkPort.warm s.trk (s.inMs (2 * (readStore s.stg).image.glob.trunkLoss))
    stg := readStore s.stg
    rst := { s.rst with cause := .resetPart } }

theorem State.warmReset_eq (s : State) :
    s.warmReset = (s.warmed.rebind s.nodeAddrs).enterPhase (readStore s.stg).chosen := rfl

theorem State.Consistent.tryWarmReset (h : s.Consistent) : s.tryWarmReset.Consistent := by
  unfold State.tryWarmReset; split
  · exact h
  · next hbusy =>
    obtain ⟨hrest, hidle, -⟩ := s.resetBusy_eq_false.mp (Bool.eq_false_of_not_eq_true hbusy)
    have hph : s.stg.phase ≠ .starting := fun hx => (h.phase.starting hx).1 hidle
    have hrst : s.rst.active = false := Bool.eq_false_of_not_eq_true fun ha => hph (h.phase.held ha).1
    have h1 : s.warmed.BlocksFit s.isBound := by
      refine ⟨fun c => ?_, fun a => ?_, List.nodup_nil, Nat.zero_le _, rfl⟩
      · simp only [State.warmed, Oct.get_ofFn, SlotArbiter.cold, Oct.get_const]
        exact (h.chan c).warm (hrest c) _
      · exact { h.node a with offered := nofun }
    rw [State.warmReset_eq]
    refine State.Consistent.enterPhase (h1.rebind _) (by rw [State.enr_rebind]; rfl) (by rw [State.rst_rebind]; exact hrst)
      (by rw [State.stg_rebind]; rfl) ?_
    rw [State.stg_rebind]; exact readStore_chosen s.stg

end

end Sys2Proof.Machine
end

section
/-! Agreement between the blocks: the settings unit, management and the trunk port keep it; every step keeps it. -/

namespace Sys2Proof.Machine

section
variable {s t : State} {c : Chan}

/-! ### The settings unit (10) -/

theorem State.Consistent.copyBaseline (h : s.Consistent) (c : Chan) : (s.copyBaseline c).Consistent := h.modProf c rfl rfl

theorem State.Consistent.lockInCompletes (h : s.Consistent) (hrst : s.rst.active = false) {i : Image} {check : BitVec 16}
    (hw : s.stg.write = some (.lockIn i check)) : (s.lockInCompletes i check).Consistent := by
  obtain ⟨-, hidle⟩ := h.phase.lockIn i check hw
  have h1 : State.BlocksFit { s with stg := { s.stg with
      write := none, storeInvalid := false, locked := some check
      store := { written := true, torn := false, image := i, check := check, mark := true } } } s.isBound := { h with }
  have h2 := State.Consistent.enterPhase h1 hidle hrst rfl (p := .run) (.inr ⟨rfl, rfl⟩)
  unfold State.lockInCompletes; dsimp only
  exact State.Consistent.foldl (fun _ c hs => hs.copyBaseline c) h2

theorem State.Consistent.reopenCompletes (h : s.Consistent) (hrst : s.rst.active = false) (hw : s.stg.write = some .reopen) :
    s.reopenCompletes.Consistent := by
  have h1 : State.BlocksFit { s with stg := { s.stg with
      write := none, storeInvalid := false, locked := none
      store := { s.stg.store with torn := false, mark := false } } } s.isBound := { h with }
  exact State.Consistent.enterPhase h1 (h.phase.run (h.phase.reopen hw)).2 hrst rfl (.inl rfl)

/-- A change of the settings unit that leaves the working image alone. -/
theorem State.Consistent.withSettings (h : s.Consistent) {u : SettingsUnit} (himage : u.image = s.stg.image)
    (hp : PhaseFits u s.enr s.rst.active) : State.Consistent { s with stg := u } where
  chan d := by
    refine (h.chan d).of_bound_eq ?_
    refine State.isBound_congr ?_ ?_ ?_ d
    · intro d; unfold State.cset; rw [himage]
    · exact fun _ => rfl
    · rfl
  node := h.node
  nodup := h.nodup
  slots := by unfold State.glob; rw [himage]; exact h.slots
  collector := h.collector
  phase := hp

theorem State.Consistent.storeWriteFails (h : s.Consistent) : s.storeWriteFails.Consistent :=
  h.withSettings rfl { h.phase with lockIn := nofun, reopen := nofun }

theorem State.Consistent.checkStep (h : s.Consistent) (hph : s.phase = .run) :
    State.Consistent { s with stg := checkStepOf s.stg s.now } := by
  have htimer : true = decide (s.stg.phase = .run) := (decide_eq_true hph).symm
  unfold checkStepOf; dsimp only; split
  · exact h.withSettings rfl { h.phase with timer := htimer }
  · exact h.withSettings rfl { h.phase with timer := htimer }

/-! ### The commands by their owning rules -/

theorem State.Consistent.answered (h : s.Consistent) {f : Chan → Answered} (hf : ∀ c, (f c).state.Consistent) (ch : Byte) :
    (s.onChannel ch f).state.Consistent := by
  unfold State.onChannel; split
  · exact hf _
  · exact h

theorem State.Consistent.read (h : s.Consistent) (item first second : Byte) : (s.read item first second).state.Consistent := by
  unfold State.read; split
  · exact h.answered (fun _ => h) _
  · exact h.answered (fun c => h.modChan (f := fun u => { u with readCopy := (s.chan c).eng.trip }) { h.chan c with }) _
  · exact h.answered (fun _ => h) _
  · exact h.answered (fun c => h.modChan (f := fun u => { u with eng := { u.eng with peak := 0 } }) { h.chan c with }) _
  · refine h.answered (fun c => ?_) _
    unfold State.readGrade; split
    · split
      · exact h
      · exact h.modNode (f := fun n => { n with worst := n.grade }) _ { h.node _ with worst := le_refl _ }
    · exact h
  · unfold State.readIdentity; split
    · exact h
    · split <;> exact h
  · unfold State.readSetting; split
    · exact h.answered (fun _ => h) _
    · exact h
    · exact h
  · exact h.answered (fun c => by unfold State.readBaseline; split <;> exact h) _
  · exact h.answered (fun c => by unfold State.readWorking; split <;> exact h) _
  · exact h.answered (fun c => by unfold State.readZone; dsimp only; split <;> exact h) _
  · exact h.answered (fun _ => h) _
  · exact h.answered (fun _ => h) _
  all_goals exact h

theorem State.Consistent.restorePosition (h : s.Consistent) (c : Chan) (position : BitVec 16) :
    (s.restorePosition c position).state.Consistent := by
  unfold State.restorePosition; split
  · next hidle =>
    refine h.modCtl (f := fun r => { r with pos := clamp 0 (s.cset c).travel position.toInt, referenced := true }) ?_
    refine { h.chan c with reference := .inl rfl, unbound := fun ha => ?_ }
    have ha : (s.chan c).ctl.st = .absent := ha
    rw [hidle.1] at ha; exact nomatch ha
  · exact h

/-- A write of another setting leaves NODE_ADDR alone. -/
theorem ChanSettings.nodeAddr_write (cs : ChanSettings) {k : ChanSetting} (v : Int) (h : k ≠ .nodeAddr) :
    (cs.write k v).nodeAddr = cs.nodeAddr := by
  have := cs.read_put_ne (id := k) (k := .nodeAddr) (clamp k.range.1 k.range.2 v) (Ne.symm h)
  exact Int.ofNat.inj this

theorem GlobSettings.slots_write (g : GlobSettings) {k : GlobSetting} (v : Int) (h : k ≠ .slots) :
    (g.write k v).slots = g.slots := by
  have := g.read_put_ne (id := k) (k := .slots) (clamp k.range.1 k.range.2 v) (Ne.symm h)
  exact Int.ofNat.inj this

theorem State.Consistent.writeChanSetting (h : s.Consistent) (c : Chan) (k : ChanSetting) (v : Int) :
    (s.writeChanSetting c k v).Consistent := by
  have other (hk : k ≠ .nodeAddr) :
      (s.modImage fun i => { i with chan := i.chan.set c ((i.chan.get c).write k v) }).Consistent := by
    refine h.modImage (fun d => ?_) rfl
    dsimp only
    rw [Oct.get_set]; split
    · next hd => rw [hd]; exact ChanSettings.nodeAddr_write _ v hk
    · rfl
  unfold State.writeChanSetting; dsimp only; split
  · have h1 : (s.modImage fun i => { i with chan := i.chan.set c ((i.chan.get c).write .nodeAddr v) }).BlocksFit s.isBound :=
      { h with }
    exact State.Consistent.rebind h1 { h.phase with } _
  · exact (other nofun).copyBaseline c
  · exact (other nofun).copyBaseline c
  · next hk _ _ => exact other hk

theorem State.Consistent.writeSetting (h : s.Consistent) (ch id : Byte) (value : BitVec 16) :
    (s.writeSetting ch id value).state.Consistent := by
  unfold State.writeSetting; split
  · refine h.answered (fun c => ?_) _
    split
    · exact h
    · exact h.writeChanSetting c _ _
  · next k _ _ =>
    split
    · exact h
    · next hfree =>
      by_cases hk : k = .slots
      · have hnone : s.slotsHeld = 0 := Nat.eq_zero_of_not_pos fun hpos => hfree ⟨hk, hpos⟩
        refine { h with slots := ?_, phase := { h.phase with } }
        show s.slotsHeld ≤ _
        rw [hnone]; exact Nat.zero_le _
      · exact h.modImage (f := fun i => { i with glob := i.glob.write k value.toInt }) (fun _ => rfl)
          (GlobSettings.slots_write _ _ hk)
  · exact h

theorem State.Consistent.loadBaseline (h : s.Consistent) (c : Chan) (first : Byte) (values : Oct (BitVec 16)) :
    (s.loadBaseline c first values).state.Consistent := by
  unfold State.loadBaseline; split
  · exact h
  · split
    · exact h
    · refine State.Consistent.copyBaseline ?_ c
      exact h.modImage (fun _ => rfl) rfl

theorem State.Consistent.setZone (h : s.Consistent) (c : Chan) (index : Byte) (start stop : BitVec 13) (kind : BitVec 4)
    (adjust : BitVec 8) : (s.setZone c index start stop kind adjust).state.Consistent := by
  have put (zs : List Zone) : (s.modImage fun i => { i with zones := i.zones.set c zs }).Consistent :=
    h.modImage (fun _ => rfl) rfl
  unfold State.setZone; split
  · exact h
  · split
    · exact h
    · dsimp only; split
      · exact h
      · split
        · exact h
        · exact put _

theorem State.Consistent.clearZones (h : s.Consistent) (c : Chan) : (s.clearZones c).state.Consistent := by
  unfold State.clearZones; split
  · exact h
  · exact h.modImage (f := fun i => { i with zones := i.zones.set c [] }) (fun _ => rfl) rfl

theorem State.Consistent.teach (h : s.Consistent) (c : Chan) : (s.teach c).state.Consistent := by
  unfold State.teach; split
  · next ht =>
    simp only [State.teachable, Bool.and_eq_true, decide_eq_true_eq] at ht
    exact h.join ht.1.1.1 (.inl ht.1.1.2) fun _ => rfl
  · exact h

theorem State.Consistent.lockIn (h : s.Consistent) (hph : s.stg.phase = .setup) : s.lockIn.state.Consistent := by
  unfold State.lockIn; split
  · exact h
  · next hfree =>
    have hidle : s.enr.st = .idle := by
      rw [Bool.or_eq_true, not_or, Bool.not_eq_true, Bool.not_eq_true, s.runInProgress_eq_false] at hfree
      exact hfree.2
    split
    · exact h
    · exact h.withSettings (u := SettingsUnit.beginLockIn s.stg) rfl
        { h.phase with lockIn := fun _ _ _ => ⟨hph, hidle⟩, reopen := nofun }

/-- What an operation that unbinds each channel in turn leaves: every channel fits as one that is not bound. -/
theorem State.BlocksFit.unboundAll {bound : Chan → Bool} (h : s.BlocksFit bound) :
    (octIndexes.foldl State.becomeUnbound s).BlocksFit fun _ => false := by
  have key : ∀ (l : List Chan) (t : State) (bound : Chan → Bool), t.BlocksFit bound →
      (l.foldl State.becomeUnbound t).BlocksFit fun d => if d ∈ l then false else bound d := by
    intro l
    induction l with
    | nil => exact fun t bound ht => by simpa using ht
    | cons c l ih =>
      intro t bound ht
      have hset : (fun d => if d ∈ l then false else Function.update bound c false d) =
          fun d => if d ∈ c :: l then false else bound d := by
        funext d
        by_cases hl : d ∈ l
        · rw [if_pos hl, if_pos (List.mem_cons_of_mem _ hl)]
        · rw [if_neg hl]
          by_cases hd : d = c
          · rw [hd, Function.update_self, if_pos List.mem_cons_self]
          · rw [Function.update_of_ne hd, if_neg (by rw [List.mem_cons]; exact not_or.mpr ⟨hd, hl⟩)]
      exact hset ▸ ih _ _ (ht.becomeUnbound c)
  have hall : (fun d => if d ∈ octIndexes then false else bound d) = fun _ => false :=
    funext fun d => if_pos (mem_octIndexes d)
  exact hall ▸ key octIndexes s bound h

/-- A run as ENROLL starts it, before every channel becomes unbound (08 R171). -/
def State.enrolling (s : State) : State :=
  { s with
    enr := { s.enr with table := Oct.const none, schedule := Oct.const false, rejoinCount := 0, st := .busOff, offer := 0
                        miss := 0, settle := some (s.now + Config.settleTicks), slot0 := .unused, reading := none
                        followUp := none, fromCold := false }
    br := { s.br with busPower := false } }

theorem State.startEnroll_eq (s : State) : s.startEnroll =
    { octIndexes.foldl State.becomeUnbound s.enrolling with
      arb := { SlotArbiter.flushed (octIndexes.foldl State.becomeUnbound s.enrolling).arb with slots := Oct.const false } } := rfl

theorem State.Consistent.startEnroll (h : s.Consistent) (hph : s.stg.phase = .setup) (hw : s.stg.write = none) :
    s.startEnroll.Consistent := by
  have h1 : s.enrolling.BlocksFit s.isBound :=
    { h with
      node := fun a => by
        unfold State.AddressFits
        simp only [State.enrolling, Oct.get_const]
        exact ⟨rfl, nofun, (h.node a).worst, fun _ => rfl⟩ }
  have h2 := h1.unboundAll
  have hfield {α : Type} (field : State → α) (hf : ∀ s c, field (State.becomeUnbound s c) = field s) :=
    foldl_octIndexes_field State.becomeUnbound field hf s.enrolling
  have henr := hfield State.enr fun s c => (onlyChannel_becomeUnbound s c).enr
  have hstg := hfield State.stg fun s c => (onlyChannel_becomeUnbound s c).stg
  have hrst := hfield State.rst fun s c => (onlyChannel_becomeUnbound s c).rst
  rw [State.startEnroll_eq]
  generalize octIndexes.foldl State.becomeUnbound s.enrolling = t at h2 henr hstg hrst ⊢
  have hrun : t.enr.st ≠ .idle := by rw [henr]; nofun
  refine ⟨⟨fun c => ?_, h2.node, List.nodup_nil, Nat.zero_le _, h2.collector⟩, ?_⟩
  · have hc := h2.chan c
    have hst := hc.absent.mpr rfl
    obtain ⟨hslot, hentry, -⟩ := hc.at_rest (by rw [hst]; rfl)
    rw [hslot, hentry] at hc
    refine UnitFits.of_bound_eq (bound := false) ?_ (State.isBound_of_run (State.runInProgress_iff _ |>.mpr hrun) c)
    simp only [Oct.get_const]
    exact hc
  · dsimp only
    rw [hstg, henr, hrst]
    exact
      { starting := fun hx => by rw [show s.enrolling.stg.phase = s.stg.phase from rfl, hph] at hx; exact nomatch hx
        cold := fun _ hx => nomatch hx
        held := fun ha => by have := (h.phase.held ha).1; rw [hph] at this; exact nomatch this
        run := fun hx => by rw [show s.enrolling.stg.phase = s.stg.phase from rfl, hph] at hx; exact nomatch hx
        timer := h.phase.timer
        lockIn := fun _ _ hx => by rw [show s.enrolling.stg.write = s.stg.write from rfl, hw] at hx; exact nomatch hx
        reopen := fun hx => by rw [show s.enrolling.stg.write = s.stg.write from rfl, hw] at hx; exact nomatch hx }

/-- A command taken in its phase with no store write in flight (09 R179). -/
theorem State.Consistent.perform (h : s.Consistent) (cmd : Command) (hw : s.stg.write = none)
    (ht : cmd.code.takenIn s.phase = true) : (s.perform cmd).state.Consistent := by
  cases cmd with
  | read item first second => exact h.read item first second
  | restorePosition ch position => exact h.answered (fun c => h.restorePosition c position) ch
  | resetPart => unfold State.perform State.resetPart; dsimp only; split <;> exact h
  | reopen =>
    have hph : s.stg.phase = .run := by
      change CommandCode.takenIn .reopen s.stg.phase = true at ht
      generalize s.stg.phase = p at ht ⊢
      cases p <;> first | rfl | exact nomatch ht
    unfold State.perform State.reopen; dsimp only; split
    · exact h.withSettings (u := SettingsUnit.beginReopen s.stg) rfl { h.phase with lockIn := nofun, reopen := fun _ => hph }
    · exact h
  | writeSetting ch id value => exact h.writeSetting ch id value
  | loadBaseline ch first values => exact h.answered (fun c => h.loadBaseline c first values) ch
  | setZone ch index start stop kind adjust => exact h.answered (fun c => h.setZone c index start stop kind adjust) ch
  | clearZones ch => exact h.answered h.clearZones ch
  | teach ch => exact h.answered h.teach ch
  | lockIn =>
    refine h.lockIn ?_
    change CommandCode.takenIn .lockIn s.stg.phase = true at ht
    generalize s.stg.phase = p at ht ⊢
    cases p <;> first | rfl | exact nomatch ht
  | enroll =>
    have hph : s.stg.phase = .setup := by
      change CommandCode.takenIn .enroll s.stg.phase = true at ht
      generalize s.stg.phase = p at ht ⊢
      cases p <;> first | rfl | exact nomatch ht
    unfold State.perform State.enroll; dsimp only; split
    · exact h
    · exact h.startEnroll hph hw

/-! ### Dispatch and delivery -/

/-- A code on a path is the code itself. -/
theorem commandCodeOf_of_codeOnPath {path : Path} {code : Byte} {k : CommandCode} (h : codeOnPath path code = some k) :
    commandCodeOf code = some k := by
  unfold codeOnPath at h; split at h
  · exact nomatch h
  · exact h

theorem State.Consistent.judge (h : s.Consistent) (path : Path) {code : Byte} {cmd : Option Command}
    (hcode : ∀ k, cmd = some k → commandCodeOf code = some k.code) : (s.judge path code cmd).state.Consistent := by
  unfold State.judge; split
  · exact h
  · unfold State.dispatch; split
    · exact h
    · next k hk =>
      split
      · exact h
      · next hbusy =>
        split
        · exact h
        · split
          · exact h
          · next htaken =>
            split
            · exact h
            · next c =>
              have hkc : k = c.code :=
                Option.some.inj ((commandCodeOf_of_codeOnPath hk).symm.trans (hcode c rfl))
              rw [hkc] at htaken
              exact h.perform c (by simpa [State.storeBusy] using hbusy) (by simpa using htaken)

theorem State.trk_onChannel (s : State) {f : Chan → Answered} (hf : ∀ c, (f c).state.trk = s.trk) (ch : Byte) :
    (s.onChannel ch f).state.trk = s.trk := by
  unfold State.onChannel; split
  · exact hf _
  · rfl

theorem State.trk_read (s : State) (item first second : Byte) : (s.read item first second).state.trk = s.trk := by
  unfold State.read; split
  · exact s.trk_onChannel (fun _ => rfl) _
  · exact s.trk_onChannel (fun _ => rfl) _
  · exact s.trk_onChannel (fun _ => rfl) _
  · exact s.trk_onChannel (fun _ => rfl) _
  · refine s.trk_onChannel (fun c => ?_) _
    unfold State.readGrade; split
    · split <;> rfl
    · rfl
  · unfold State.readIdentity; split
    · rfl
    · split <;> rfl
  · unfold State.readSetting; split
    · exact s.trk_onChannel (fun _ => rfl) _
    · rfl
    · rfl
  · exact s.trk_onChannel (fun c => by unfold State.readBaseline; split <;> rfl) _
  · exact s.trk_onChannel (fun c => by unfold State.readWorking; split <;> rfl) _
  · exact s.trk_onChannel (fun c => by unfold State.readZone; dsimp only; split <;> rfl) _
  · exact s.trk_onChannel (fun _ => rfl) _
  · exact s.trk_onChannel (fun _ => rfl) _
  all_goals rfl

theorem State.trk_writeSetting (s : State) (ch id : Byte) (value : BitVec 16) :
    (s.writeSetting ch id value).state.trk = s.trk := by
  unfold State.writeSetting; split
  · refine s.trk_onChannel (fun c => ?_) _
    split
    · rfl
    · show (s.writeChanSetting c _ _).trk = s.trk
      unfold State.writeChanSetting; dsimp only; split
      · rw [State.trk_rebind]; rfl
      · rfl
      · rfl
      · rfl
  · split <;> rfl
  · rfl

/-- No command touches the trunk port as it is executed; its answer is delivered after it. -/
theorem State.trk_perform (s : State) (cmd : Command) : (s.perform cmd).state.trk = s.trk := by
  cases cmd with
  | read item first second => exact s.trk_read item first second
  | restorePosition ch position =>
    exact s.trk_onChannel (fun c => by unfold State.restorePosition; split <;> rfl) ch
  | resetPart => unfold State.perform State.resetPart; dsimp only; split <;> rfl
  | reopen => unfold State.perform State.reopen; dsimp only; split <;> rfl
  | writeSetting ch id value => exact s.trk_writeSetting ch id value
  | loadBaseline ch first values =>
    refine s.trk_onChannel (fun c => ?_) ch
    unfold State.loadBaseline; split
    · rfl
    · split <;> rfl
  | setZone ch index start stop kind adjust =>
    refine s.trk_onChannel (fun c => ?_) ch
    unfold State.setZone; split
    · rfl
    · split
      · rfl
      · dsimp only; split
        · rfl
        · split <;> rfl
  | clearZones ch => exact s.trk_onChannel (fun c => by unfold State.clearZones; split <;> rfl) ch
  | teach ch => exact s.trk_onChannel (fun c => by unfold State.teach; split <;> rfl) ch
  | lockIn =>
    unfold State.perform State.lockIn; dsimp only; split
    · rfl
    · split <;> rfl
  | enroll =>
    unfold State.perform State.enroll; dsimp only; split
    · rfl
    · exact foldl_octIndexes_field State.becomeUnbound State.trk (fun s c => (onlyChannel_becomeUnbound s c).trk) s.enrolling

theorem State.trk_judge (s : State) (path : Path) (code : Byte) (cmd : Option Command) :
    (s.judge path code cmd).state.trk = s.trk := by
  unfold State.judge; split
  · rfl
  · unfold State.dispatch; split
    · rfl
    · split
      · rfl
      · split
        · rfl
        · split
          · rfl
          · split
            · rfl
            · exact s.trk_perform _

/-- Another trunk port in which no response is pending while a collection runs. -/
theorem State.Consistent.withTrunk (h : s.Consistent) {k : TrunkPort} (hk : collectorConsistent k = true) :
    State.Consistent { s with trk := k } := { h with collector := hk }

theorem State.Consistent.joinAnswers (h : s.Consistent) (a : Answer) : (s.joinAnswers a).Consistent := by
  unfold State.joinAnswers; split
  · exact h.withTrunk h.collector
  · split
    · exact h.tryWarmReset
    · exact h

theorem State.Consistent.manage (h : s.Consistent) (path : Path) {code : Byte} {cmd : Option Command}
    (hcode : ∀ k, cmd = some k → commandCodeOf code = some k.code) : (s.manage path code cmd).Consistent := by
  have harrived : collectorConsistent (TrunkPort.arrived s.trk path) = true := by
    cases path with
    | command => exact h.collector
    | side => rfl
  have h1 := (h.withTrunk harrived).judge path hcode
  have htrk := State.trk_judge { s with trk := TrunkPort.arrived s.trk path } path code cmd
  unfold State.manage; dsimp only
  generalize State.judge { s with trk := TrunkPort.arrived s.trk path } path code cmd = a at h1 htrk ⊢
  cases path with
  | command => exact h1.joinAnswers _
  | side =>
    refine h1.withTrunk ?_
    rw [htrk]; rfl

/-! ### The trunk port (09) -/

theorem collectorConsistent_iff (k : TrunkPort) :
    collectorConsistent k = true ↔ ∀ got, k.collector = .collecting got → k.response = none := by
  unfold collectorConsistent
  cases k.collector <;> simp

theorem TrunkPort.collect_consistent {k : TrunkPort} (h : collectorConsistent k = true) (marker : Byte) (fragment : BitVec 16) :
    collectorConsistent (TrunkPort.collect k marker fragment).1 = true := by
  unfold TrunkPort.collect; split
  · split
    · exact h
    · rfl
  · split
    · rfl
    · split
      · unfold TrunkPort.nextFragment; split
        · next hr hc _ => exact (collectorConsistent_iff _).mpr fun _ _ => hr
        · next hr hc _ => exact (collectorConsistent_iff _).mpr fun _ _ => hr
        · rfl
        · rfl
      · rfl

theorem TrunkPort.chooseSide_consistent {k : TrunkPort} (h : collectorConsistent k = true) (marker : Byte) :
    collectorConsistent (TrunkPort.chooseSide k marker).2 = true := by
  unfold TrunkPort.chooseSide; split
  · next r hr =>
    split
    · refine (collectorConsistent_iff _).mpr fun got hgot => ?_
      have := (collectorConsistent_iff _).mp h got hgot
      rw [hr] at this; exact nomatch this
    · exact h
  · exact h

theorem State.Consistent.joinReport (h : s.Consistent) (marker : Byte) : (s.joinReport marker).Consistent :=
  (h.withTrunk (k := { (TrunkPort.chooseSide s.trk marker).2 with resetArmed := false })
    (TrunkPort.chooseSide_consistent h.collector marker)).joinAnswers _

theorem State.Consistent.sideCommand (h : s.Consistent) (b : Option (Oct Byte)) : (s.sideCommand b).Consistent := by
  cases b with
  | none => exact h
  | some b => exact h.manage .side fun _ => commandOfBytes_code

theorem State.Consistent.bump (h : s.Consistent) : s.bump.Consistent := { h with }

theorem State.Consistent.ordersAndSide (h : s.Consistent) (orders : Oct Byte) (command : Option (Oct Byte)) :
    (s.ordersAndSide orders command).Consistent := by
  unfold State.ordersAndSide; split
  · exact h.orderGates orders
  · split
    · exact (h.bump.orderGates orders).sideCommand _
    · exact (h.bump.sideCommand _).orderGates orders

theorem State.Consistent.takeCycle (h : s.Consistent) (p : CyclePayload) : (s.takeCycle p).Consistent := by
  have h1 : (State.restartLoss { s with ctx := contextOf p, trk := { s.trk with rx := .hunt } }).Consistent := { h with }
  exact ((h1.withTrunk (TrunkPort.collect_consistent h1.collector p.marker p.fragment)).ordersAndSide _ _).joinReport _

theorem State.Consistent.assembleReport (h : s.Consistent) : s.assembleReport.Consistent := by
  unfold State.assembleReport; split
  · refine { h with chan := fun c => ?_ }
    have : ((s.chans.map fun u : ChannelUnit => { u with eng := { u.eng with tripFlag := false } }).get c) =
        { s.chans.get c with eng := { (s.chans.get c).eng with tripFlag := false } } := Oct.get_map _ _ _
    show UnitFits ((s.chans.map fun u : ChannelUnit => { u with eng := { u.eng with tripFlag := false } }).get c) _ _ _
    rw [this]
    exact { h.chan c with }
  · exact h

theorem State.Consistent.answerSent (h : s.Consistent) : s.answerSent.Consistent := by
  unfold State.answerSent; split
  · exact h
  · next a waiting _ =>
    have h1 : State.Consistent { s with trk := { s.trk with answers := waiting } } := h.withTrunk h.collector
    split
    · dsimp only; split
      · exact h1.tryWarmReset
      · exact h1
    · exact h

/-- A flush leaves its channel not WAITING. -/
theorem State.st_flushEntry (s : State) (c : Chan) : ((s.flushEntry c).chan c).ctl.st ≠ .waiting := by
  unfold State.flushEntry; split
  · rw [State.chan_vacate_self]; nofun
  · next h => exact h

theorem onlyChannel_channelTrunkLoss (s : State) (c : Chan) : OnlyChannel c s (s.channelTrunkLoss c) := by
  have ended (t : State) : OnlyChannel c t (t.endHeld c) := by
    unfold State.endHeld; split
    · split
      · exact onlyChannel_vacate t c _
      · exact onlyChannel_modCtl t c _
    · exact onlyChannel_modCtl t c _
  have flushed (t : State) : OnlyChannel c t (t.flushEntry c) := by
    unfold State.flushEntry; split
    · exact (onlyChannel_teachFail t c _).trans (onlyChannel_vacate _ c _)
    · exact OnlyChannel.refl c t
  exact ((onlyChannel_modCtl s c _).trans (ended _)).trans (flushed _)

theorem State.Consistent.channelTrunkLoss (h : s.Consistent) (c : Chan) : (s.channelTrunkLoss c).Consistent := by
  have h1 : (s.modCtl c fun r => { r with lastOrder := Order.initial }).Consistent := h.modCtl { h.chan c with }
  exact (h1.endHeld c).flushEntry c

/-- At a trunk loss no channel is left WAITING, so the queue may be emptied (06 R139). -/
theorem State.Consistent.trunkLost (h : s.Consistent) : s.trunkLost.Consistent := by
  have h0 : State.Consistent { s with ctx := ContextUnit.stale, trk := TrunkPort.lost s.trk } := { h with collector := rfl }
  have h1 := State.Consistent.foldl (fun t c ht => State.Consistent.channelTrunkLoss ht c) h0
  have hnone := foldl_octIndexes_chan State.channelTrunkLoss (fun c t => (t.chan c).ctl.st ≠ .waiting)
    (fun t c => State.st_flushEntry _ c)
    (fun t c d hd ht => by
      unfold State.chan at *
      rw [(onlyChannel_channelTrunkLoss t c).chans d hd]; exact ht)
    { s with ctx := ContextUnit.stale, trk := TrunkPort.lost s.trk }
  unfold State.trunkLost; dsimp only
  generalize octIndexes.foldl State.channelTrunkLoss _ = t at h1 hnone ⊢
  refine { h1 with chan := fun c => ?_, nodup := List.nodup_nil }
  have hc := h1.chan c
  have hentry : t.entryMotion c = none := by
    have := hc.waits
    rw [decide_eq_false (show ¬(t.chans.get c).ctl.st = .waiting from hnone c)] at this
    simpa using this
  rw [hentry] at hc
  exact hc

end

/-! ### Every step -/

/-- The operations of every row keep the agreement of the blocks. -/
theorem rowsKeep_consistent : RowsKeep State.Consistent where
  ticks _ _ _ h := { h with }
  coldReset cause h := h.coldReset cause
  modRst hf _ h := h.modRst (hf _)
  coldStart hr h := h.coldStart hr
  takeCycle p _ h := h.takeCycle p
  manage path _ _ _ hcode h := h.manage path hcode
  setReceiver _ h := h.withTrunk h.collector
  assembleReport h := h.assembleReport
  answerSent _ h := h.answerSent
  trunkLost h := h.trunkLost
  lockInCompletes hr hw h := h.lockInCompletes hr hw
  reopenCompletes hr hw h := h.reopenCompletes hr hw
  storeWriteFails h := h.storeWriteFails
  checkStep hph h := h.checkStep hph
  endHeld c h := h.endHeld c
  queueExpires _ hd h := h.queueExpires hd
  escalationExpires c h := by
    unfold State.escalationExpires; split
    · exact h.modChan (f := fun u => { u with rev := ReversalContext.clearLevel u.rev }) { h.chan c with window := .inr rfl }
    · exact h
  cycleStart h := h.cycleStart
  settleOver h := h.withEnr rfl rfl Iff.rfl rfl rfl
  busOn {s} hoff h := by
    have h1 := h.withEnr (e := { s.enr with st := .settle, settle := some (s.now + Config.settleTicks) }) rfl rfl
      (iff_of_false nofun (by rw [hoff]; nofun)) rfl rfl
    exact { h1 with }
  rejoinAttempted h := h.rejoinAttempted
  replySlotRow a content hr h := (State.Live.replySlotRow ⟨h, hr⟩ a content).fits
  slot0Row content hr h := (State.Live.slot0Row ⟨h, hr⟩ content).fits

end Sys2Proof.Machine

namespace Sys2Proof.Proofs

open Sys2Proof.Machine

/-- Settles O60: the agreement holds block by block (`State.Consistent`), and the operations of every row keep it; that the values
stand in their ranges is not needed for it. -/
theorem everyStepKeepsTheBlocksConsistent : Obligations.EveryStepKeepsTheBlocksConsistent := by
  intro s t _ h hf hstep
  have hs : s.Consistent := s.consistent_iff.mp h
  have ht : t.Consistent := rowsKeep_consistent.step hf hs hstep
  exact t.consistent_iff.mpr ht

end Sys2Proof.Proofs
end

section
/-! Orders: what the order gate does with an order that is not taken, refused, or passes the checks (01 R18 to R25). -/

namespace Sys2Proof.Machine

open Sys2Proof.Claim

section
variable {s t : State} {c : Chan} {o : Order} {d : Dir}

/-! ### The states that the statements name -/

theorem noted_eq (s : State) (c : Chan) (o : Order) : noted s c o = s.modCtl c fun r => { r with lastOrder := o } := rfl

theorem idled_eq (s : State) (c : Chan) (f : ChannelUnit → ChannelUnit) : idled s c f = (s.vacate c .idle).modChan c f := by
  have h : (s.vacate c .idle).chans.set c (f ((s.vacate c .idle).chans.get c)) = s.chans.set c (f (stopped (s.chans.get c) .idle)) := by
    rw [State.chans_vacate, Oct.get_set_self, Oct.set_set]; rfl
  unfold State.modChan
  rw [h]; rfl

theorem idled_id (s : State) (c : Chan) : idled s c (fun u => u) = s.vacate c .idle := rfl

/-- An order with a direction joins the queue with the items of 01 R23. -/
theorem joinQueue_motionOf (s : State) (c : Chan) (o : Order) (d : Dir) :
    s.joinQueue c (s.motionOf c o d) = joined s c o d := by
  have htimes : s.inMs (50 * s.glob.queueTimeout) = s.now + 100 * s.stg.image.glob.queueTimeout := by
    show s.now + 2 * (50 * s.stg.image.glob.queueTimeout) = _
    omega
  have hmotion : s.motionOf c o d = { dir := d, cls := o.source
                                      origin := if o.kind = .openHeld ∨ o.kind = .closeHeld then .held else .latched
                                      target := if o.kind = .preset then some (presetTo s c o) else none } := by
    unfold State.motionOf
    rw [s.presetTarget_eq]
    by_cases hk : o.kind = .openHeld ∨ o.kind = .closeHeld
    · rw [if_pos ((isHeldKind_iff o).mpr hk), if_pos hk]
    · rw [if_neg (fun h => hk ((isHeldKind_iff o).mp h)), if_neg hk]
  have hhold : (if (s.motionOf c o d).origin = .held then some (s.inMs s.glob.holdTimeout) else none) =
      if o.kind = .openHeld ∨ o.kind = .closeHeld then some (s.now + 2 * s.stg.image.glob.holdTimeout) else none := by
    rw [hmotion]
    by_cases hk : o.kind = .openHeld ∨ o.kind = .closeHeld
    · simp only [if_pos hk]; rfl
    · simp [if_neg hk]
  unfold State.joinQueue joined
  dsimp only
  rw [hhold, htimes, hmotion]
  rfl

/-! ### What the gate reads -/

/-- What directions, targets and refusals of a channel's orders rest on stands, the channel's state aside. -/
structure OrderView (c : Chan) (s t : State) : Prop where
  stg : t.stg = s.stg
  br : t.br = s.br
  pos : (t.chans.get c).ctl.pos = (s.chans.get c).ctl.pos
  referenced : (t.chans.get c).ctl.referenced = (s.chans.get c).ctl.referenced
  level : (t.chans.get c).rev.level = (s.chans.get c).rev.level

theorem OrderView.trans {u : State} (h : OrderView c s t) (k : OrderView c t u) : OrderView c s u :=
  ⟨k.stg.trans h.stg, k.br.trans h.br, k.pos.trans h.pos, k.referenced.trans h.referenced, k.level.trans h.level⟩

theorem orderView_noted (s : State) (c : Chan) (o : Order) : OrderView c s (noted s c o) := by
  constructor <;> first | rfl | (rw [noted_eq, State.chans_modCtl, Oct.get_set_self])

theorem orderView_vacate (s : State) (c : Chan) (dst : ChanState) : OrderView c s (s.vacate c dst) := by
  constructor <;> first | rfl | (rw [State.chans_vacate, Oct.get_set_self]; rfl)

theorem orderView_modProf (s : State) (c : Chan) (f : ProfileContext → ProfileContext) : OrderView c s (s.modProf c f) := by
  constructor <;> first | rfl | (rw [State.chans_modProf, Oct.get_set_self])

theorem OrderView.presetTo (h : OrderView c s t) (o : Order) : presetTo t c o = presetTo s c o := by
  unfold Claim.presetTo; rw [h.stg]

theorem OrderView.goes (h : OrderView c s t) (o : Order) (d : Dir) : goes t c o d ↔ goes s c o d := by
  cases d <;> simp only [Claim.goes, h.presetTo, h.pos]

theorem OrderView.staysPut (h : OrderView c s t) (o : Order) : staysPut t c o ↔ staysPut s c o := by
  unfold Claim.staysPut; rw [h.presetTo, h.pos, h.referenced, h.stg]

/-- A refusal also rests on whether the channel is ABSENT, INHIBITED or REVERSING. -/
theorem OrderView.refusalOf (h : OrderView c s t)
    (hst : ∀ x, x = .absent ∨ x = .inhibited ∨ x = .reversing → ((t.chans.get c).ctl.st = x ↔ (s.chans.get c).ctl.st = x)) (o : Order) :
    t.refusalOf c o = s.refusalOf c o := by
  have ha := hst .absent (.inl rfl)
  have hgrade : gradeOf t c = gradeOf s c := by
    unfold gradeOf
    simp only [h.stg, h.br, ha]
  have key : ∀ why, checkApplies t c o why ↔ checkApplies s c o why := by
    intro why
    cases why <;> simp only [checkApplies, wantsClose, h.stg, h.referenced, h.level, h.goes, hgrade, ha,
      hst .inhibited (.inr (.inl rfl)), hst .reversing (.inr (.inr rfl))]
  have hnone : t.refusalOf c o = none ↔ s.refusalOf c o = none := by
    simp only [State.refusalOf_eq_none, key]
  have hsome (why : RefusalReason) : t.refusalOf c o = some why ↔ s.refusalOf c o = some why := by
    simp only [State.refusalOf_eq_some, key]
  cases hs : s.refusalOf c o with
  | none => exact hnone.mpr hs
  | some why => exact (hsome why).mpr hs

/-! ### The held-end test (01 R19) -/

theorem carries_noted (s : State) (c : Chan) (o : Order) (m : Motion) : carries (noted s c o) c m ↔ carries s c m := by
  unfold carries
  rw [noted_eq, State.chans_modCtl, Oct.get_set_self]; rfl

/-- A channel carries one motion or entry. -/
theorem carries_unique {m m' : Motion} (h : carries s c m) (h' : carries s c m') : m = m' :=
  Option.some.inj (((s.carried_eq_some c m).mpr h).symm.trans ((s.carried_eq_some c m').mpr h'))

/-- A channel that carries something waits, opens or closes. -/
theorem st_of_carries {m : Motion} (h : carries s c m) :
    (s.chans.get c).ctl.st = .waiting ∨ (s.chans.get c).ctl.st = .opening ∨ (s.chans.get c).ctl.st = .closing := by
  rcases h with ⟨h, -⟩ | ⟨h | h, -⟩ <;> simp [h]

theorem State.heldEnd_of_ends (h : heldEnds s c o) : s.heldEnd c o = s.vacate c .idle := by
  obtain ⟨m, hm, ho, hg⟩ := h
  unfold State.heldEnd
  rw [(s.carried_eq_some c m).mpr hm]
  exact if_pos ⟨ho, fun hd => hg ((s.orderDir_eq_some c o m.dir).mp hd)⟩

theorem State.heldEnd_of_not (h : ¬heldEnds s c o) : s.heldEnd c o = s := by
  unfold State.heldEnd; split
  · next m hm =>
    refine if_neg fun hc => h ⟨m, (s.carried_eq_some c m).mp hm, hc.1, fun hg => hc.2 ?_⟩
    exact (s.orderDir_eq_some c o m.dir).mpr hg
  · rfl

theorem heldEnds_noted (s : State) (c : Chan) (o : Order) : heldEnds (noted s c o) c o ↔ heldEnds s c o := by
  unfold heldEnds
  simp only [carries_noted, (orderView_noted s c o).goes]

/-- The state after the held-end test: the last order field noted, and a held motion or entry ended that the field does not renew. -/
def afterHeldEnd (s : State) (c : Chan) (o : Order) : State := (noted s c o).heldEnd c o

theorem afterHeldEnd_of_ends (h : heldEnds s c o) : afterHeldEnd s c o = idled (noted s c o) c fun u => u :=
  State.heldEnd_of_ends ((heldEnds_noted s c o).mpr h)

theorem afterHeldEnd_of_not (h : ¬heldEnds s c o) : afterHeldEnd s c o = noted s c o :=
  State.heldEnd_of_not fun hn => h ((heldEnds_noted s c o).mp hn)

theorem State.orderGate_taken (h : taken s c o) : s.orderGate c o = (afterHeldEnd s c o).takeOrder c o := by
  unfold State.orderGate
  exact if_pos ((isTaken_iff s c o).mpr h)

theorem State.orderGate_notTaken (h : ¬taken s c o) : s.orderGate c o = afterHeldEnd s c o := by
  unfold State.orderGate
  exact if_neg fun ht => h ((isTaken_iff s c o).mp ht)

theorem orderView_afterHeldEnd (s : State) (c : Chan) (o : Order) : OrderView c s (afterHeldEnd s c o) := by
  by_cases h : heldEnds s c o
  · rw [afterHeldEnd_of_ends h, idled_id]
    exact (orderView_noted s c o).trans (orderView_vacate _ c _)
  · rw [afterHeldEnd_of_not h]; exact orderView_noted s c o

theorem st_noted (s : State) (c : Chan) (o : Order) : ((noted s c o).chans.get c).ctl.st = (s.chans.get c).ctl.st := by
  rw [noted_eq, State.chans_modCtl, Oct.get_set_self]

theorem st_idled (s : State) (c : Chan) : ((idled s c fun u => u).chans.get c).ctl.st = .idle := by
  rw [idled_id, State.chans_vacate, Oct.get_set_self]; rfl

/-- The held-end test leaves the teach, and what a refusal rests on. -/
theorem prof_afterHeldEnd (s : State) (c : Chan) (o : Order) :
    ((afterHeldEnd s c o).chans.get c).prof = (s.chans.get c).prof := by
  by_cases h : heldEnds s c o
  · rw [afterHeldEnd_of_ends h, idled_id, State.chans_vacate, Oct.get_set_self, noted_eq, State.chans_modCtl, Oct.get_set_self]; rfl
  · rw [afterHeldEnd_of_not h, noted_eq, State.chans_modCtl, Oct.get_set_self]

theorem refusalOf_afterHeldEnd (s : State) (c : Chan) (o : Order) : (afterHeldEnd s c o).refusalOf c o = s.refusalOf c o := by
  refine (orderView_afterHeldEnd s c o).refusalOf (fun x hx => ?_) o
  by_cases h : heldEnds s c o
  · rw [afterHeldEnd_of_ends h, st_idled]
    obtain ⟨m, hm, -⟩ := h
    refine iff_of_false ?_ ?_
    · rcases hx with rfl | rfl | rfl <;> nofun
    · rcases st_of_carries hm with h | h | h <;> rw [h] <;> rcases hx with rfl | rfl | rfl <;> nofun
  · rw [afterHeldEnd_of_not h, st_noted]

/-! ### Orders that pass the checks -/

theorem State.takeOrder_passed (ht : (s.chan c).prof.teach ≠ .running) (hr : s.refusalOf c o = none) :
    s.takeOrder c o = if o.kind = .stop then s.endCarried c else s.actInMotion c o := by
  unfold State.takeOrder
  rw [State.teachFail_idle s c _ ht]
  dsimp only
  rw [hr]

/-- A taken order that passes the checks, on a channel without a teach. -/
theorem State.orderGate_passed (ht : (s.chans.get c).prof.teach ≠ .running) (htaken : taken s c o) (hr : s.refusalOf c o = none) :
    s.orderGate c o = if o.kind = .stop then (afterHeldEnd s c o).endCarried c else (afterHeldEnd s c o).actInMotion c o := by
  rw [State.orderGate_taken htaken, State.takeOrder_passed ?_ ((refusalOf_afterHeldEnd s c o).trans hr)]
  show ((afterHeldEnd s c o).chans.get c).prof.teach ≠ .running
  rw [prof_afterHeldEnd]; exact ht

theorem wantsMotion_of_staysPut (h : staysPut s c o) : wantsMotion o := by
  unfold wantsMotion
  rcases h with ⟨h, -⟩ | ⟨h | h, -⟩ <;> simp [h]

/-- An order taken with no motion ends what the channel carries (01 R21). -/
theorem State.actInMotion_staysPut (h : staysPut s c o) : s.actInMotion c o = s.endCarried c := by
  unfold State.actInMotion
  exact if_pos ((s.takesNoMotion_iff c (wantsMotion_of_staysPut h)).mpr h)

theorem State.actInMotion_goes (hg : goes s c o d) (hs : ¬staysPut s c o) : s.actInMotion c o =
    match s.carried c with
    | none => (s.endCarried c).joinQueue c (s.motionOf c o d)
    | some m => if m.dir = d then s.sameDirection c o m else (s.endCarried c).joinQueue c (s.motionOf c o d) := by
  unfold State.actInMotion
  rw [if_neg fun h => hs ((s.takesNoMotion_iff c (wantsMotion_of_goes hg)).mp h), (s.orderDir_eq_some c o d).mpr hg] <;> rfl

/-- The order of a channel that carries nothing of its direction ends what it carries and joins the queue (01 R23, R25). -/
theorem State.actInMotion_joins (hg : goes s c o d) (hs : ¬staysPut s c o) (hm : ∀ m, carries s c m → d ≠ m.dir) :
    s.actInMotion c o = (s.endCarried c).joinQueue c (s.motionOf c o d) := by
  rw [State.actInMotion_goes hg hs]
  cases hc : s.carried c with
  | none => rfl
  | some m => exact if_neg fun h => hm m ((s.carried_eq_some c m).mp hc) h.symm

/-- An order of the direction of what the channel carries (01 R24). -/
theorem State.actInMotion_same {m : Motion} (hm : carries s c m) (hg : goes s c o m.dir) (hs : ¬staysPut s c o) :
    s.actInMotion c o = s.sameDirection c o m := by
  rw [State.actInMotion_goes hg hs, (s.carried_eq_some c m).mpr hm]
  exact if_pos rfl

theorem State.motionOf_congr (h : OrderView c s t) (o : Order) (d : Dir) : t.motionOf c o d = s.motionOf c o d := by
  unfold State.motionOf
  rw [t.presetTarget_eq, s.presetTarget_eq, h.presetTo]

/-- A channel that waits or moves and is stopped, whether by the held-end test or by the order that follows. -/
theorem State.endCarried_afterHeldEnd (hst : (s.chans.get c).ctl.st ≠ .idle) :
    (afterHeldEnd s c o).endCarried c = idled (noted s c o) c fun u => u := by
  by_cases h : heldEnds s c o
  · rw [afterHeldEnd_of_ends h]
    exact State.endCarried_of_idle (st_idled _ c)
  · rw [afterHeldEnd_of_not h]
    refine State.endCarried_of_ne ?_
    show ((noted s c o).chans.get c).ctl.st ≠ .idle
    rw [st_noted]; exact hst

/-- A channel that is IDLE carries nothing, and the held-end test does nothing to it. -/
theorem not_carries_of_idle (h : (s.chans.get c).ctl.st = .idle) (m : Motion) : ¬carries s c m := fun hm => by
  rcases st_of_carries hm with h' | h' | h' <;> rw [h] at h' <;> exact nomatch h'

theorem afterHeldEnd_of_idle (h : (s.chans.get c).ctl.st = .idle) : afterHeldEnd s c o = noted s c o :=
  afterHeldEnd_of_not fun ⟨m, hm, _⟩ => not_carries_of_idle h m hm

/-- An order of a direction that the channel does not carry joins the queue as a new entry, from an IDLE channel or one that is
stopped for it. -/
theorem State.joins_afterHeldEnd (hg : goes s c o d) (hs : ¬staysPut s c o) (hm : ∀ m, carries s c m → d ≠ m.dir) :
    (afterHeldEnd s c o).actInMotion c o = joined ((afterHeldEnd s c o).endCarried c) c o d := by
  have hview := orderView_afterHeldEnd s c o
  have hend : OrderView c (afterHeldEnd s c o) ((afterHeldEnd s c o).endCarried c) := by
    unfold State.endCarried; split
    · exact ⟨rfl, rfl, rfl, rfl, rfl⟩
    · exact orderView_vacate _ c _
  rw [State.actInMotion_joins ((hview.goes o d).mpr hg) (fun h => hs ((hview.staysPut o).mp h)) fun m hc => ?_,
    ← State.motionOf_congr hend, joinQueue_motionOf]
  by_cases h : heldEnds s c o
  · rw [afterHeldEnd_of_ends h] at hc
    exact absurd hc (not_carries_of_idle (st_idled _ c) m)
  · rw [afterHeldEnd_of_not h] at hc
    exact hm m ((carries_noted s c o m).mp hc)

/-- Held or not, an order that renews what the channel carries does not end it. -/
theorem not_heldEnds_of_goes {m : Motion} (hm : carries s c m) (hg : goes s c o m.dir) : ¬heldEnds s c o := fun ⟨_, hm', _, hn⟩ =>
  hn (carries_unique hm hm' ▸ hg)

/-! ### Refused orders and a running teach -/

/-- What a teach failure by an order does to a profile context (03 R84). -/
theorem State.teachFail_order (s : State) (c : Chan) : ∃ p : ProfileContext,
    s.teachFail c .order = (s.modProf c fun _ => p) ∧
    ((s.chans.get c).prof.teach ≠ .running → p = (s.chans.get c).prof) ∧
    ((s.chans.get c).prof.teach = .running → p = { (s.chans.get c).prof with
      teach := .failed .order
      teachVisited := if (s.chans.get c).ctl.st = .closing then (s.chans.get c).prof.visited else 0 }) := by
  by_cases h : (s.chans.get c).prof.teach = .running
  · refine ⟨_, ?_, fun hn => absurd h hn, fun _ => rfl⟩
    exact State.teachFail_running s c _ h
  · refine ⟨(s.chans.get c).prof, ?_, fun _ => rfl, fun hr => absurd hr h⟩
    rw [State.teachFail_idle s c _ h]
    exact (s.modChan_id c _ rfl).symm

/-- A refused order, after its field has been noted and the held-end test made. -/
theorem State.orderGate_refused {why : RefusalReason} (ht : taken s c o) (hr : s.refusalOf c o = some why) :
    ∃ prof : ProfileContext,
      s.orderGate c o = withUnit (afterHeldEnd s c o) c (fun u => { u with
        ctl := { u.ctl with refusal := some why, latched := { u.ctl.latched with orderRefused := true } }
        prof := prof }) ∧
      ((s.chans.get c).prof.teach ≠ .running → prof = (s.chans.get c).prof) ∧
      ((s.chans.get c).prof.teach = .running → prof.teach = .failed .order ∧
        prof.working = (s.chans.get c).prof.working ∧ prof.stroke = (s.chans.get c).prof.stroke) := by
  have hprof := prof_afterHeldEnd s c o
  obtain ⟨p, hp, hidle, hrunning⟩ := (afterHeldEnd s c o).teachFail_order c
  rw [hprof] at hidle hrunning
  refine ⟨p, ?_, hidle, fun h => by rw [hrunning h]; exact ⟨rfl, rfl, rfl⟩⟩
  have hrefused : ((afterHeldEnd s c o).modProf c fun _ => p).refusalOf c o = some why := by
    rw [(orderView_modProf (afterHeldEnd s c o) c _).refusalOf (fun x _ => ?_) o, refusalOf_afterHeldEnd, hr]
    rw [State.chans_modProf, Oct.get_set_self]
  rw [State.orderGate_taken ht]
  unfold State.takeOrder; dsimp only
  rw [hp, hrefused]
  unfold withUnit State.refuse State.modCtl State.modProf State.modChan
  simp only [Oct.get_set_self, Oct.set_set]

end

end Sys2Proof.Machine

namespace Sys2Proof.Proofs

open Sys2Proof.Machine Sys2Proof.Claim

/-- Settles O16: an IDLE channel carries nothing, so the held-end test leaves it, and an order with a direction joins the queue. -/
theorem passedOrderJoinsTheQueue : Obligations.PassedOrderJoinsTheQueue := by
  intro s c o hst ht
  have hidle : ((noted s c o).chan c).ctl.st = .idle := (st_noted s c o).trans hst
  have hafter : afterHeldEnd s c o = noted s c o := afterHeldEnd_of_idle hst
  have hend : (afterHeldEnd s c o).endCarried c = noted s c o := by rw [hafter, State.endCarried_of_idle hidle]
  refine ⟨fun d htaken hr hg hs => ?_, fun htaken hr h => ?_, fun htaken => ?_⟩
  · rw [State.orderGate_passed ht htaken hr, if_neg (wantsMotion_of_goes hg).2,
      State.joins_afterHeldEnd hg hs fun m hm => absurd hm (not_carries_of_idle hst m), hend]
  · rw [State.orderGate_passed ht htaken hr]
    rcases h with hstop | hstays
    · rw [if_pos hstop, hend]
    · rw [if_neg (wantsMotion_of_staysPut hstays).2,
        State.actInMotion_staysPut (((orderView_afterHeldEnd s c o).staysPut o).mpr hstays), hend]
  · rw [State.orderGate_notTaken htaken, hafter]

/-- Settles O17: the checks in their order give the reason, and a refused order changes no motion beyond the held-end test. -/
theorem refusedOrderChangesNoMotion : Obligations.RefusedOrderChangesNoMotion := by
  intro s c o why
  refine ⟨s.refusalOf_eq_some c o why, s.refusalOf_eq_none c o, fun ht hr => ?_⟩
  have hgate := State.orderGate_refused ht hr
  refine ⟨fun h => ?_, fun h => ?_⟩
  · rw [afterHeldEnd_of_not h] at hgate; exact hgate
  · rw [afterHeldEnd_of_ends h] at hgate; exact hgate

end Sys2Proof.Proofs
end

section
/-! Orders: a same-direction order, and an order on a channel whose teach runs (01 R24, 03 R84). -/

namespace Sys2Proof.Machine

open Sys2Proof.Claim

section
variable {s t : State} {c : Chan} {o : Order} {m : Motion}

/-- What an express or preset order of the same direction makes of a motion or entry (01 R24). -/
def turnedBy (s : State) (c : Chan) (o : Order) (m : Motion) : Motion :=
  { m with origin := .latched, cls := o.source, target := if o.kind = .preset then some (presetTo s c o) else none }

/-- A held order of the same direction renews a held motion or entry, and leaves a latched one. -/
theorem State.orderGate_renews (ht : (s.chans.get c).prof.teach ≠ .running) (htaken : taken s c o) (hr : s.refusalOf c o = none)
    (hm : carries s c m) (hg : goes s c o m.dir) (hk : o.kind = .openHeld ∨ o.kind = .closeHeld) (hs : ¬staysPut s c o) :
    s.orderGate c o = if m.origin = .held then
        withUnit (noted s c o) c fun u => { u with ctl := { u.ctl with
          hold := some (s.now + 2 * s.stg.image.glob.holdTimeout) } }
      else noted s c o := by
  have hview := orderView_noted s c o
  rw [State.orderGate_passed ht htaken hr, if_neg (wantsMotion_of_goes hg).2, afterHeldEnd_of_not (not_heldEnds_of_goes hm hg),
    State.actInMotion_same ((carries_noted s c o m).mpr hm) ((hview.goes o _).mpr hg) fun h => hs ((hview.staysPut o).mp h),
    State.sameDirection, if_pos ((isHeldKind_iff o).mpr hk)]
  rfl

/-- An express or preset order of the same direction turns what the channel carries LATCHED. -/
theorem State.orderGate_turns (ht : (s.chans.get c).prof.teach ≠ .running) (htaken : taken s c o) (hr : s.refusalOf c o = none)
    (hm : carries s c m) (hg : goes s c o m.dir) (hk : ¬(o.kind = .openHeld ∨ o.kind = .closeHeld)) (hs : ¬staysPut s c o) :
    s.orderGate c o = ((noted s c o).modCarried c (turnedBy s c o)).modCtl c fun r => { r with hold := none } := by
  have hview := orderView_noted s c o
  rw [State.orderGate_passed ht htaken hr, if_neg (wantsMotion_of_goes hg).2, afterHeldEnd_of_not (not_heldEnds_of_goes hm hg),
    State.actInMotion_same ((carries_noted s c o m).mpr hm) ((hview.goes o _).mpr hg) fun h => hs ((hview.staysPut o).mp h),
    State.sameDirection, if_neg fun h => hk ((isHeldKind_iff o).mp h), (noted s c o).presetTarget_eq, hview.presetTo]
  rfl

theorem turned_waiting (hst : (s.chans.get c).ctl.st = .waiting) :
    ((noted s c o).modCarried c (turnedBy s c o)).modCtl c (fun r => { r with hold := none }) =
      { withUnit (noted s c o) c (fun u => { u with ctl := { u.ctl with hold := none } }) with
        arb := { s.arb with queue := s.arb.queue.map fun e =>
          if e.channel = c then { e with motion := turnedBy s c o e.motion } else e } } := by
  have hw : ((noted s c o).chan c).ctl.st = .waiting := (st_noted s c o).trans hst
  rw [State.modCarried, if_pos hw]; rfl

theorem turned_moving (hst : (s.chans.get c).ctl.st ≠ .waiting) (hm : (s.chans.get c).ctl.motion = some m) :
    ((noted s c o).modCarried c (turnedBy s c o)).modCtl c (fun r => { r with hold := none }) =
      withUnit (noted s c o) c fun u => { u with ctl := { u.ctl with hold := none, motion := some (turnedBy s c o m) } } := by
  have hw : ((noted s c o).chan c).ctl.st ≠ .waiting := fun h => hst ((st_noted s c o).symm.trans h)
  have hmotion : ((noted s c o).chans.get c).ctl.motion = some m := by
    rw [noted_eq, State.chans_modCtl, Oct.get_set_self]; exact hm
  rw [State.modCarried, if_neg hw]
  unfold withUnit State.modCtl State.modChan
  simp only [Oct.get_set_self, Oct.set_set, hmotion, Option.map_some]

/-- What a channel carries after such an order is what it carried, turned. -/
theorem carries_turned (hm : carries s c m) :
    carries (((noted s c o).modCarried c (turnedBy s c o)).modCtl c fun r => { r with hold := none }) c (turnedBy s c o m) := by
  rcases hm with ⟨hst, hentry⟩ | ⟨hst, hmotion⟩
  · rw [turned_waiting hst]
    refine .inl ⟨?_, ?_⟩
    · dsimp only [withUnit]
      rw [Oct.get_set_self]; exact (st_noted s c o).trans hst
    · show Option.map Entry.motion (List.find? _ (List.map _ _)) = _
      rw [find_entry_map, Option.map_map]
      obtain ⟨e, he, rfl⟩ := Option.map_eq_some_iff.mp hentry
      rw [he]
      simp
  · have hnw : (s.chans.get c).ctl.st ≠ .waiting := by rcases hst with h | h <;> rw [h] <;> nofun
    rw [turned_moving hnw hmotion]
    refine .inr ⟨?_, ?_⟩
    · rw [withUnit, Oct.get_set_self]
      exact hst.imp (st_noted s c o).trans (st_noted s c o).trans
    · rw [withUnit, Oct.get_set_self]

/-! ### A running teach -/

theorem noted_modProf (s : State) (c : Chan) (o : Order) (f : ProfileContext → ProfileContext) :
    noted (s.modProf c f) c o = (noted s c o).modProf c f := by
  rw [noted_eq, noted_eq]
  unfold State.modCtl State.modProf State.modChan
  simp only [Oct.get_set_self, Oct.set_set]

theorem State.vacate_modProf (s : State) (c : Chan) (f : ProfileContext → ProfileContext) (dst : ChanState) :
    (s.modProf c f).vacate c dst = (s.vacate c dst).modProf c f := by
  unfold State.vacate State.modProf State.modChan
  simp only [Oct.get_set_self, Oct.set_set]
  rfl

theorem carries_modProf (s : State) (c : Chan) (f : ProfileContext → ProfileContext) (m : Motion) :
    carries (s.modProf c f) c m ↔ carries s c m := by
  unfold carries
  rw [State.chans_modProf, Oct.get_set_self]; rfl

theorem heldEnds_modProf (s : State) (c : Chan) (o : Order) (f : ProfileContext → ProfileContext) :
    heldEnds (s.modProf c f) c o ↔ heldEnds s c o := by
  unfold heldEnds
  simp only [carries_modProf, (orderView_modProf s c f).goes]

/-- The held-end test reads nothing of the profile context. -/
theorem afterHeldEnd_modProf (s : State) (c : Chan) (o : Order) (f : ProfileContext → ProfileContext) :
    afterHeldEnd (s.modProf c f) c o = (afterHeldEnd s c o).modProf c f := by
  by_cases h : heldEnds s c o
  · rw [afterHeldEnd_of_ends ((heldEnds_modProf s c o f).mpr h), afterHeldEnd_of_ends h, noted_modProf, idled_id, idled_id,
      State.vacate_modProf]
  · rw [afterHeldEnd_of_not fun hf => h ((heldEnds_modProf s c o f).mp hf), afterHeldEnd_of_not h, noted_modProf]

theorem taken_modProf (s : State) (c : Chan) (o : Order) (f : ProfileContext → ProfileContext) :
    taken (s.modProf c f) c o ↔ taken s c o := by
  unfold taken
  rw [State.chans_modProf, Oct.get_set_self]

/-- An order taken on a channel whose teach runs fails the teach and is then handled as on one without a teach (03 R84). -/
theorem State.orderGate_failsTeach (ht : (s.chans.get c).prof.teach = .running) (htaken : taken s c o) :
    ∃ visited : Nat, s.orderGate c o = (withUnit s c fun u => { u with
      prof := { u.prof with teach := .failed .order, teachVisited := visited } }).orderGate c o := by
  have hprof := prof_afterHeldEnd s c o
  obtain ⟨p, hp, -, hrunning⟩ := (afterHeldEnd s c o).teachFail_order c
  have hpeq := hrunning (by rw [hprof]; exact ht)
  rw [hprof] at hpeq
  refine ⟨p.teachVisited, ?_⟩
  have hunit : (withUnit s c fun u => { u with
      prof := { u.prof with teach := .failed .order, teachVisited := p.teachVisited } }) = s.modProf c fun _ => p := by
    rw [hpeq]; rfl
  rw [hunit, State.orderGate_taken htaken, State.orderGate_taken ((taken_modProf s c o _).mpr htaken), afterHeldEnd_modProf]
  have hfailed : (((afterHeldEnd s c o).modProf c fun _ => p).chan c).prof.teach ≠ .running := by
    rw [State.modProf, State.chan_modChan_self, hpeq]; nofun
  unfold State.takeOrder
  rw [hp, State.teachFail_idle _ c _ hfailed]

end

end Sys2Proof.Machine

namespace Sys2Proof.Proofs

open Sys2Proof.Machine Sys2Proof.Claim

/-- Settles O18: the held-end test first, then the order by its direction and what the channel carries. -/
theorem orderGateStopsEndsAndTurns : Obligations.OrderGateStopsEndsAndTurns := by
  refine ⟨fun s c o ht htaken => State.orderGate_failsTeach ht htaken, fun s c o ht => ?_⟩
  refine ⟨fun hn h => ?_, fun hn h => ?_, fun hst hstop hp => ?_, fun m hm hg hk hp hs => ?_, fun m hm hg hk hp hs => ?_,
    fun d hst hm hg hp hs => ?_, fun hst hp hs => ?_⟩
  · rw [State.orderGate_notTaken hn, afterHeldEnd_of_ends h]
  · rw [State.orderGate_notTaken hn, afterHeldEnd_of_not h]
  · rw [State.orderGate_passed ht hp.1 hp.2, if_pos hstop, State.endCarried_afterHeldEnd hst]
  · exact State.orderGate_renews ht hp.1 hp.2 hm hg hk hs
  · have hgate := State.orderGate_turns ht hp.1 hp.2 hm hg hk hs
    refine ⟨?_, fun hw => ?_, fun hw => ?_⟩
    · rw [hgate]; exact carries_turned hm
    · rw [hgate]; exact turned_waiting hw
    · have hmotion : (s.chans.get c).ctl.motion = some m := by
        rcases hm with ⟨h, -⟩ | ⟨-, h⟩
        · exact absurd h hw
        · exact h
      rw [hgate]; exact turned_moving hw hmotion
  · rw [State.orderGate_passed ht hp.1 hp.2, if_neg (wantsMotion_of_goes hg).2, State.joins_afterHeldEnd hg hs hm,
      State.endCarried_afterHeldEnd hst]
  · rw [State.orderGate_passed ht hp.1 hp.2, if_neg (wantsMotion_of_staysPut hs).2,
      State.actInMotion_staysPut (((orderView_afterHeldEnd s c o).staysPut o).mpr hs), State.endCarried_afterHeldEnd hst]

end Sys2Proof.Proofs
end

section
/-! Timers and time: what a timer row does, and which events a tick finds due (log 1 to log 3). -/

namespace Sys2Proof.Machine

open Sys2Proof.Claim

section
variable {s t : State} {c : Chan}

/-! ### Timer rows -/

theorem isDue_iff_reached (timer : Option Nat) (now : Nat) : isDue timer now = true ↔ reached timer now := isDue_iff timer now

theorem isDue_of_not_reached {timer : Option Nat} {now : Nat} (h : ¬reached timer now) : isDue timer now = false :=
  Bool.eq_false_of_not_eq_true fun hd => h ((isDue_iff_reached timer now).mp hd)

/-- A timer row that does nothing before its timer is reached. -/
theorem whileRunning_ite_of_false {due : State → Bool} {f : State → State} (h : due s = false) :
    whileRunning s (fun s => if due s = true then f s else s) = .next s := by
  cases hr : s.rst.active with
  | true => exact whileRunning_held s _ hr
  | false =>
    rw [whileRunning_running s _ hr]
    simp only [h, Bool.false_eq_true, if_false]

theorem State.endHeld_of_held {m : Motion} (hm : carries s c m) (ho : m.origin = .held) :
    s.endHeld c = idled s c fun u => u := by
  unfold State.endHeld
  rw [(s.carried_eq_some c m).mpr hm]
  exact if_pos ho

/-- A queue timeout of a WAITING channel (06 R137, 03 R84). -/
theorem State.queueExpires_waiting (h : (s.chans.get c).ctl.st = .waiting) :
    s.queueExpires c = idled s c fun u => { u with
      ctl := { u.ctl with latched := { u.ctl.latched with startTimeout := true } }
      prof := if u.prof.teach = .running then { u.prof with teach := .failed .order, teachVisited := 0 } else u.prof } := by
  obtain ⟨p, hp, hidle, hrunning⟩ := s.teachFail_order c
  have hprof : p = if (s.chans.get c).prof.teach = .running then
      { (s.chans.get c).prof with teach := .failed .order, teachVisited := 0 } else (s.chans.get c).prof := by
    by_cases ht : (s.chans.get c).prof.teach = .running
    · rw [if_pos ht, hrunning ht, if_neg (by rw [h]; nofun)]
    · rw [if_neg ht, hidle ht]
  have hunit : ((s.vacate c .idle).chans.get c).prof = (s.chans.get c).prof := by
    rw [State.chans_vacate, Oct.get_set_self]; rfl
  unfold State.queueExpires
  rw [if_pos (show (s.chan c).ctl.st = .waiting from h), hp, State.vacate_modProf, idled_eq]
  unfold State.modCtl State.modProf State.modChan
  simp only [Oct.get_set_self, Oct.set_set, hunit, ← hprof]

theorem State.queueDue_eq_false (h : ∀ e ∈ s.arb.queue, e.channel = c → s.now < e.expiry) : s.queueDue c = false := by
  refine Bool.eq_false_of_not_eq_true fun hd => ?_
  obtain ⟨e, he, hc, hle⟩ := (s.queueDue_iff c).mp hd
  exact absurd (h e he hc) (by omega)

/-- A queue timeout of a channel that is not WAITING removes its expired entries alone. -/
theorem queueTimeout_not_waiting (hr : s.rst.active = false) (h : (s.chans.get c).ctl.st ≠ .waiting) :
    execQueueTimeout c s = .next { s with arb := { s.arb with
      queue := s.arb.queue.filter fun e => decide (¬(e.channel = c ∧ e.expiry ≤ s.now)) } } := by
  have hfilter : (s.arb.queue.filter fun e => decide (¬(e.channel = c ∧ e.expiry ≤ s.now))) =
      s.arb.queue.filter fun e => !s.expired c e := by
    refine List.filter_congr fun e _ => ?_
    rw [decide_not, Bool.decide_and]; rfl
  rw [execQueueTimeout, whileRunning_running s _ hr, hfilter]
  cases hd : s.queueDue c with
  | true =>
    simp only [if_true, State.queueExpires]
    rw [if_neg (show (s.chan c).ctl.st ≠ .waiting from h)]
  | false =>
    have hall : (s.arb.queue.filter fun e => !s.expired c e) = s.arb.queue := by
      refine List.filter_eq_self.mpr fun e he => ?_
      have := List.any_eq_false.mp hd e he
      simpa using this
    rw [hall]; rfl

/-! ### A tick -/

/-- The order in which the events due together are taken is an order of those events. -/
theorem arrangeFrom_perm (k : Nat) : ∀ (n : Nat) (l : List Instr), l.length ≤ n → (arrangeFrom k n l).Perm l
  | 0, l, h => by rw [List.length_eq_zero_iff.mp (Nat.le_zero.mp h)]; exact .refl _
  | n + 1, [], _ => .refl _
  | n + 1, [x], _ => .refl _
  | n + 1, x :: y :: rest, h => by
    have hlt : Config.dueFirst (k + n) (rest.length + 2) % (rest.length + 2) < (x :: y :: rest).length :=
      Nat.mod_lt _ (Nat.succ_pos _)
    rw [arrangeFrom]
    generalize Config.dueFirst (k + n) (rest.length + 2) % (rest.length + 2) = i at hlt ⊢
    have hshort : ((x :: y :: rest).eraseIdx i).length ≤ n := by
      rw [List.length_eraseIdx_of_lt hlt]; exact Nat.sub_le_of_le_add h
    rw [List.getD_eq_getElem _ _ hlt]
    exact ((arrangeFrom_perm k n _ hshort).cons _).trans (List.getElem_cons_eraseIdx_perm hlt)

theorem mem_dueIf {due : Bool} {i j : Instr} : j ∈ dueIf due i ↔ due = true ∧ j = i := by
  unfold dueIf; split
  · next h => simp [h]
  · next h => simp [h]

theorem dueIf_sublist (due : Bool) (i : Instr) : (dueIf due i).Sublist [i] := by
  unfold dueIf; split
  · exact .refl _
  · exact List.nil_sublist _

theorem mem_dueSettle {e : EnrollmentUnit} {now : Nat} {i : Instr} : i ∈ dueSettle e now ↔
    (i = .busOffExpiry ∧ e.st = .busOff ∧ reached e.settle now) ∨
    (i = .nodeSettleExpiry ∧ e.st = .settle ∧ reached e.settle now) := by
  unfold dueSettle
  rw [← isDue_iff_reached]
  cases e.st <;> simp [mem_dueIf, and_comm]

theorem dueSettle_sublist (e : EnrollmentUnit) (now : Nat) : (dueSettle e now).Sublist [.busOffExpiry, .nodeSettleExpiry] := by
  unfold dueSettle; split
  · exact (dueIf_sublist _ _).trans (by simp)
  · exact (dueIf_sublist _ _).trans (by simp)
  · exact List.nil_sublist _

theorem mem_dueAnswer {answers : List Answer} {i : Instr} : i ∈ dueAnswer answers ↔
    (i = .reportAssembly ∧ ∃ side resets rest, answers = { body := .report side none, resets := resets } :: rest) ∨
    (i = .answerSent ∧ ∃ a rest, answers = a :: rest ∧ ∀ side, a.body ≠ .report side none) := by
  cases answers with
  | nil => simp [dueAnswer]
  | cons a rest =>
    obtain ⟨body, resets⟩ := a
    unfold dueAnswer Answer.sendable
    rcases body with r | ⟨side, _ | b⟩ <;> simp

theorem dueAnswer_sublist (answers : List Answer) : (dueAnswer answers).Sublist [.reportAssembly, .answerSent] := by
  unfold dueAnswer; split
  · exact List.nil_sublist _
  · split <;> simp

/-- The events of a channel that its timers can bring. -/
def channelEvents (c : Chan) : List Instr := [.holdTimerExpiry c, .queueTimeout c, .escalationWindowExpiry c]

/-- The events that time can bring, each once. -/
def timeEvents : List Instr :=
  [.busOffExpiry, .nodeSettleExpiry] ++ octIndexes.flatMap channelEvents ++ [.trunkLoss] ++ [.checkStep] ++
    [.branchCycleStart] ++ [.reportAssembly, .answerSent]

theorem timeEvents_nodup : timeEvents.Nodup := by decide +kernel

theorem State.dueEvents_sublist (s : State) : s.dueEvents.Sublist timeEvents := by
  have channels (l : List Chan) : (l.flatMap s.dueOfChannel).Sublist (l.flatMap channelEvents) := by
    induction l with
    | nil => exact .refl _
    | cons c l ih =>
      exact List.Sublist.append (((dueIf_sublist _ _).append (dueIf_sublist _ _)).append (dueIf_sublist _ _)) ih
  exact (((((dueSettle_sublist _ _).append (channels _)).append (dueIf_sublist _ _)).append (dueIf_sublist _ _)).append
    (dueIf_sublist _ _)).append (dueAnswer_sublist _)

theorem State.mem_dueOfChannel {i : Instr} : i ∈ s.dueOfChannel c ↔
    (i = .holdTimerExpiry c ∧ reached (s.chans.get c).ctl.hold s.now) ∨
    (i = .queueTimeout c ∧ ∃ e ∈ s.arb.queue, e.channel = c ∧ e.expiry ≤ s.now) ∨
    (i = .escalationWindowExpiry c ∧ reached (s.chans.get c).rev.window s.now) := by
  unfold State.dueOfChannel
  rw [List.mem_append, List.mem_append, mem_dueIf, mem_dueIf, mem_dueIf, isDue_iff_reached, isDue_iff_reached, s.queueDue_iff,
    or_assoc, and_comm, and_comm (b := i = .queueTimeout c), and_comm (b := i = .escalationWindowExpiry c)]
  rfl

theorem State.mem_dueEvents (i : Instr) : i ∈ s.dueEvents ↔ dueAt s s.now i := by
  unfold State.dueEvents
  simp only [List.mem_append, List.mem_flatMap, mem_octIndexes, true_and, mem_dueSettle, State.mem_dueOfChannel, mem_dueIf,
    mem_dueAnswer, isDue_iff_reached]
  cases i <;> simp [dueAt]

theorem State.runningTick_eq (s : State) : ∃ (q : List Instr) (k : Nat),
    s.runningTick = { s with now := s.now + 1, pending := q, freeCount := k } ∧ q.Nodup ∧
    ∀ i : Instr, i ∈ q ↔ dueAt s (s.now + 1) i := by
  have hperm := arrangeFrom_perm s.freeCount _ (State.dueEvents { s with now := s.now + 1 }) le_rfl
  refine ⟨_, _, rfl, hperm.nodup_iff.mpr (timeEvents_nodup.sublist (State.dueEvents_sublist _)), fun i => ?_⟩
  rw [hperm.mem_iff, State.mem_dueEvents]
  cases i <;> rfl

end

end Sys2Proof.Machine

namespace Sys2Proof.Proofs

open Sys2Proof.Machine Sys2Proof.Claim

/-- Settles O36: each timer row is its expiry where the timer has been reached, and nothing before. -/
theorem timersActOnlyWhenReached : Obligations.TimersActOnlyWhenReached := by
  intro s c hr
  refine ⟨fun m hdue hm ho => ?_, fun e he hst hc hle => ?_, fun hn => ?_, queueTimeout_not_waiting hr, fun hn => ?_, fun hn => ?_,
    fun hn => ?_, fun hn => ?_⟩
  · show execHoldTimerExpiry c s = _
    rw [execHoldTimerExpiry, whileRunning_running s _ hr,
      if_pos (show isDue (s.chan c).ctl.hold s.now = true from (isDue_iff_reached _ _).mpr hdue), State.endHeld_of_held hm ho]
  · show execQueueTimeout c s = _
    rw [execQueueTimeout, whileRunning_running s _ hr, if_pos ((s.queueDue_iff c).mpr ⟨e, he, hc, hle⟩),
      State.queueExpires_waiting hst]
  · exact whileRunning_ite_of_false (due := fun s => isDue (s.chan c).ctl.hold s.now)
      (f := fun s => s.endHeld c) (isDue_of_not_reached hn)
  · exact whileRunning_ite_of_false (due := fun s => s.queueDue c) (f := fun s => s.queueExpires c) (State.queueDue_eq_false hn)
  · exact whileRunning_ite_of_false (due := fun s => isDue (s.chan c).rev.window s.now)
      (f := fun s => s.modRev c ReversalContext.clearLevel) (isDue_of_not_reached hn)
  · exact whileRunning_ite_of_false (due := fun s => isDue s.trk.lossTimer s.now) (isDue_of_not_reached hn)
  · exact execBranchCycleStart_early (isDue_of_not_reached hn)

/-- Settles O2: a tick orders the events due, which are those that `dueAt` names, each once. -/
theorem emptyQueuePassesOneTick : Obligations.EmptyQueuePassesOneTick := by
  intro s hp
  have hstep : step s = .next s.tick := by unfold step; rw [hp]
  refine ⟨fun hr => ?_, fun hr => ?_⟩
  · obtain ⟨q, k, htick, hnodup, hmem⟩ := s.runningTick_eq
    refine ⟨q, k, ?_, hnodup, hmem⟩
    rw [hstep, State.tick, if_neg (by rw [hr]; nofun), htick]
  · rw [hstep, State.tick, if_pos hr]
    split
    · rfl
    · rw [← hp]

end Sys2Proof.Proofs
end

section
/-! The cycle start with its drive word (07 R142 to R145), and RESTORE POSITION (01 R28). -/

namespace Sys2Proof.Machine

open Sys2Proof.Claim

section
variable {s t : State} {c : Chan}

/-! ### The cycle start -/

/-- The arbiter's part of a cycle start leaves every block but the channels and the arbiter. -/
theorem State.arbitrate_frame (s : State) : s.arbitrate.br = s.br ∧ s.arbitrate.stg = s.stg ∧ s.arbitrate.ctx = s.ctx ∧
    s.arbitrate.trk = s.trk ∧ s.arbitrate.rst = s.rst ∧ s.arbitrate.now = s.now := by
  unfold State.arbitrate; dsimp only; split
  · split
    · next e _ =>
      have h := onlyChannel_grant { s with arb := { s.arb with stagger := min 16 (s.arb.stagger + 1) } } e
      exact ⟨h.br, h.stg, h.ctx, h.trk, h.rst, h.now⟩
    · exact ⟨rfl, rfl, rfl, rfl, rfl, rfl⟩
  · exact ⟨rfl, rfl, rfl, rfl, rfl, rfl⟩

theorem State.driveCommand_iff (s : State) (a : Node) :
    (s.driveCommand a = .closes ↔ ∃ c, s.channelOf a = some c ∧ (s.chans.get c).ctl.st = .closing) ∧
    (s.driveCommand a = .opens ↔ ∃ c, s.channelOf a = some c ∧
      ((s.chans.get c).ctl.st = .opening ∨ (s.chans.get c).ctl.st = .reversing)) := by
  unfold State.driveCommand
  cases s.channelOf a with
  | none => simp
  | some c =>
    simp only [Option.some.injEq, exists_eq_left']
    rw [show s.chan c = s.chans.get c from rfl]
    cases (s.chans.get c).ctl.st <;> simp

/-- A cycle start, block by block. -/
theorem State.cycleStart_blocks (s : State) : ∃ t, s.cycleStart = t ∧
    t.br = { timer := some (s.now + s.stg.image.glob.branchPeriod), busPower := s.br.busPower, place := 0
             driveWord := some (driveWordOf (Oct.ofFn t.driveCommand) (EnrollmentUnit.assign t.enr)), nodes := countCycles s.br.nodes } ∧
    t.stg = s.stg ∧ t.ctx = s.ctx ∧ t.trk = s.trk ∧ t.rst = s.rst ∧ t.now = s.now := by
  obtain ⟨hbr, hstg, hctx, htrk, hrst, hnow⟩ := s.arbitrate_frame
  refine ⟨_, rfl, ?_, hstg, hctx, htrk, hrst, hnow⟩
  unfold State.cycleStart; dsimp only
  generalize s.arbitrate = u at hbr hstg hctx htrk hrst hnow ⊢
  rw [← hbr, ← hnow, show s.stg.image.glob = u.glob by rw [← hstg]; rfl]
  rfl

theorem nodeOf_eq_some {n : Nat} {a : Node} : nodeOf n = some a ↔ n = a.val + 1 := by
  constructor
  · intro h
    unfold nodeOf at h; split at h
    · next hn =>
      have := congrArg Fin.val (Option.some.inj h)
      dsimp only at this; omega
    · exact nomatch h
  · rintro rfl; exact nodeOf_of_val a

/-- The channel bound to an address is the lowest that carries it and is not ABSENT (01 R4, R17). -/
theorem State.channelOf_eq_some (s : State) (a : Node) (c : Chan) : s.channelOf a = some c ↔
    ((s.chans.get c).ctl.st ≠ .absent ∧ (s.stg.image.chan.get c).nodeAddr = a.val + 1) ∧
    ∀ d : Chan, d < c → ¬((s.chans.get d).ctl.st ≠ .absent ∧ (s.stg.image.chan.get d).nodeAddr = a.val + 1) := by
  have hserves (d : Chan) : (decide ((s.chan d).ctl.st ≠ .absent) && decide (nodeOf (s.cset d).nodeAddr = some a)) = true ↔
      (s.chans.get d).ctl.st ≠ .absent ∧ (s.stg.image.chan.get d).nodeAddr = a.val + 1 := by
    rw [Bool.and_eq_true, decide_eq_true_iff, decide_eq_true_iff, nodeOf_eq_some]; rfl
  unfold State.channelOf
  rw [find?_eq_some_of_sorted (fun c : Chan => c.val) _ (by decide)]
  simp only [mem_octIndexes, true_and, forall_const, hserves, ← Bool.not_eq_true, Fin.lt_def]

/-! ### RESTORE POSITION -/

/-- A management command that passes dispatch is executed and answered. -/
theorem State.manage_performs {path : Path} {cmd : Command} (hd : dispatched path s) (hl : path = .side → cmd.code ≠ .loadBaseline)
    (hs : s.stg.phase = .starting → cmd.code = .read) (ht : cmd.code.takenIn s.stg.phase = true) (hn : cmd ≠ .resetPart)
    {u : State} {status : Status} {data : BitVec 48}
    (hperform : State.perform { s with trk := TrunkPort.arrived s.trk path } cmd = { state := u, status := status, data := data }) :
    execManaged path cmd s = .next (u.deliver path { code := cmd.code.byte, status := status, data := data } false) := by
  obtain ⟨hr, hw, hp⟩ := hd
  have hjudge := State.judge_performs { s with trk := TrunkPort.arrived s.trk path } path cmd hl hw hp hs ht
  rw [hperform] at hjudge
  have hreset : decide (some cmd = some Command.resetPart) = false := decide_eq_false fun h => hn (Option.some.inj h)
  rw [execManaged, whileRunning_running s _ hr, State.manage, hjudge, hreset, Bool.false_and]

/-- A delivered answer to a command that changed channels alone. -/
theorem State.deliver_eq_delivered (path : Path) (r : Reply) :
    State.deliver { s with trk := TrunkPort.arrived s.trk path } path r false = delivered path r s := by
  cases path with
  | command => exact State.deliver_command _ r
  | side => exact State.deliver_side _ r

theorem withUnit_arrived (s : State) (path : Path) (c : Chan) (f : ChannelUnit → ChannelUnit) :
    withUnit { s with trk := TrunkPort.arrived s.trk path } c f =
      { withUnit s c f with trk := TrunkPort.arrived (withUnit s c f).trk path } := rfl

theorem clamp_eq_max_min {lo hi : Int} (h : lo ≤ hi) (v : Int) : clamp lo hi v = max lo (min hi v) := by
  unfold clamp; split
  · omega
  · split <;> omega

/-- A position echoed in 13 bits from the top of the 48 (01 R3, R28). -/
theorem answerData_position (p : Int) : answerData [(13, p)] = BitVec.ofInt 13 p ++ 0#35 := by
  apply BitVec.eq_of_toNat_eq
  rw [answerData, toNat_packFields 48 _ (by simp), toNat_append_add, toNat_ofInt_field]
  simp [packFields]

/-- RESTORE POSITION where it applies (01 R28). -/
theorem State.restorePosition_idle {v : BitVec 16} (h : (s.chans.get c).ctl.st = .idle)
    (href : (s.chans.get c).ctl.referenced = false) :
    s.restorePosition c v =
      { state := withUnit s c fun u => { u with ctl := { u.ctl with
          pos := max 0 (min ((s.stg.image.chan.get c).travel : Int) v.toInt), referenced := true } }
        status := .ok
        data := BitVec.ofInt 13 (max 0 (min ((s.stg.image.chan.get c).travel : Int) v.toInt)) ++ 0#35 } := by
  have hcond : (s.chan c).ctl.st = .idle ∧ (s.chan c).ctl.referenced = false := ⟨h, href⟩
  have hclamp := clamp_eq_max_min (Int.natCast_nonneg (s.cset c).travel) v.toInt
  rw [State.restorePosition, if_pos hcond, hclamp, State.okWith, answerData_position]
  rfl

theorem State.restorePosition_denied {v : BitVec 16}
    (h : (s.chans.get c).ctl.st ≠ .idle ∨ (s.chans.get c).ctl.referenced = true) :
    s.restorePosition c v = { state := s, status := .notApplicable, data := 0 } := by
  have hcond : ¬((s.chan c).ctl.st = .idle ∧ (s.chan c).ctl.referenced = false) := fun ⟨hst, href⟩ =>
    h.elim (· hst) fun ht => by
      rw [show (s.chan c).ctl.referenced = (s.chans.get c).ctl.referenced from rfl, ht] at href; exact nomatch href
  exact if_neg hcond

end

end Sys2Proof.Machine

namespace Sys2Proof.Proofs

open Sys2Proof.Machine Sys2Proof.Claim

/-- Settles O39: the cycle start block by block, and the lowest channel that carries an address. -/
theorem branchCycleStartBuildsTheDriveWord : Obligations.BranchCycleStartBuildsTheDriveWord := by
  refine ⟨fun s hr ht hp => ?_, fun s a c => s.channelOf_eq_some a c⟩
  obtain ⟨t, hstart, hbr, hstg, hctx, htrk, hrst, hnow⟩ := s.cycleStart_blocks
  refine ⟨t, Oct.ofFn t.driveCommand, EnrollmentUnit.assign t.enr, ?_, fun h => ?_, fun h => ?_, fun a h => ?_, ?_, fun a => ?_,
    fun a => ?_, hstg, hctx, htrk, hrst, hnow⟩
  · rw [← hstart]
    exact execBranchCycleStart_next hr ((isDue_iff_reached _ _).mpr ht) (by rw [hp]; decide)
  · rw [EnrollmentUnit.assign, h]
  · rw [EnrollmentUnit.assign, h]
  · rw [EnrollmentUnit.assign, h]
  · rw [hbr]
  · rw [hbr]; exact Oct.get_map _ _ _
  · rw [Oct.get_ofFn]; exact t.driveCommand_iff a

/-- Settles O24: RESTORE POSITION passes dispatch in SETUP and RUN, and judges the channel it names. -/
theorem restorePositionReferencesAnIdleChannel : Obligations.RestorePositionReferencesAnIdleChannel := by
  intro s path ch c v hch hd hph
  have performs (u : State) (status : Status) (data : BitVec 48)
      (h : State.restorePosition { s with trk := TrunkPort.arrived s.trk path } c v = { state := u, status := status, data := data }) :
      exec (.restorePosition path ch v) s =
        .next (u.deliver path { code := 2, status := status, data := data } false) :=
    State.manage_performs (cmd := .restorePosition ch v) hd nofun (fun h => absurd h hph)
      (takenIn_of_ne_starting (.inl rfl) hph) nofun ((State.onChannel_of_val hch _).trans h)
  refine ⟨fun hst href => ?_, fun h => ?_⟩
  · rw [performs _ _ _ (State.restorePosition_idle hst href), withUnit_arrived, State.deliver_eq_delivered]
    rfl
  · rw [performs _ _ _ (State.restorePosition_denied h)]
    rw [State.deliver_eq_delivered]
    rfl

end Sys2Proof.Proofs
end

section
/-! The row of a GOOD sample (07 R150 to R152): which blocks it leaves alone, and what it hands to the bound channel. -/

namespace Sys2Proof.Machine

open Sys2Proof.Claim

section
variable {s t u : State} {a : Node} {c : Chan}

/-! ### The steps of a sample reach one channel -/

theorem onlyChannel_sampleCauses (s : State) (c : Chan) (m : Sample) (mismatch : Bool) :
    OnlyChannel c s (s.sampleCauses c m mismatch) := by
  unfold State.sampleCauses; dsimp only; split
  · exact (onlyChannel_setCauses s c _).trans (onlyChannel_loseReference _ c)
  · exact onlyChannel_setCauses s c _

theorem onlyChannel_driftStop (s : State) (c : Chan) : OnlyChannel c s (s.driftStop c) := by
  unfold State.driftStop; split
  · exact (onlyChannel_teachFail s c _).trans (onlyChannel_vacate _ c _)
  · exact .refl c s

theorem onlyChannel_movePosition (s : State) (c : Chan) (delta : Int) : OnlyChannel c s (s.movePosition c delta) := by
  unfold State.movePosition; dsimp only; split
  · exact ((onlyChannel_modCtl s c _).trans (onlyChannel_driftStop _ c)).trans (onlyChannel_loseReference _ c)
  · exact onlyChannel_modCtl s c _

theorem onlyChannel_sampleCounter (s : State) (c : Chan) (m : Sample) (k : Nat) : OnlyChannel c s (s.sampleCounter c m k) := by
  have rebased : OnlyChannel c s (s.rebase c m) := onlyChannel_modCtl s c _
  unfold State.sampleCounter; dsimp only; split
  · split
    · exact rebased.trans (onlyChannel_loseReference _ c)
    · exact rebased
  · split
    · exact rebased
    · split
      · exact (rebased.trans (onlyChannel_driftStop _ c)).trans (onlyChannel_loseReference _ c)
      · exact rebased.trans (onlyChannel_movePosition _ c _)

theorem onlyChannel_reversalClosedEnd (s : State) (c : Chan) : OnlyChannel c s (s.reversalClosedEnd c) := by
  unfold State.reversalClosedEnd; split
  · exact onlyChannel_modRev s c _
  · exact .refl c s

theorem onlyChannel_endTests (s : State) (c : Chan) (atEnd : Bool) (before : Int) : OnlyChannel c s (s.endTests c atEnd before) := by
  have ends := onlyChannel_vacate s c .idle
  have closed : OnlyChannel c s (s.unreferencedEnd c) := (ends.trans (onlyChannel_modCtl _ c _)).trans (onlyChannel_reversalClosedEnd _ c)
  unfold State.endTests; dsimp only; split
  · split <;> split
    exacts [ends, .refl c s, ends, .refl c s]
  · split
    · exact ends
    · split
      exacts [closed, .refl c s]
  · split
    exacts [ends, .refl c s]
  · exact .refl c s

theorem onlyChannel_countStage (s : State) (c : Chan) : OnlyChannel c s (s.countStage c) := by
  unfold State.countStage; split
  · exact onlyChannel_modSup s c _
  · exact .refl c s

theorem onlyChannel_trip (s : State) (c : Chan) (cause : TripCause) (ref margin acc : Nat) :
    OnlyChannel c s (s.trip c cause ref margin acc) := by
  have taken : OnlyChannel c s (s.takeTrip c) := (onlyChannel_teachFail s c .trip).trans (onlyChannel_modChan _ c _)
  unfold State.trip; dsimp only
  exact taken.trans (onlyChannel_modEng _ c _)

theorem onlyChannel_accumulate (s : State) (c : Chan) : OnlyChannel c s (s.accumulate c).1 := by
  have repaired (b : Fin 64) : OnlyChannel c s (s.repairBin c b) := by
    unfold State.repairBin; dsimp only; split
    · exact .refl c s
    · exact (onlyChannel_modProf s c _).trans (onlyChannel_modCtl _ c _)
  unfold State.accumulate; dsimp only
  generalize binOfPos (s.chan c).ctl.pos (s.cset c).travel = b
  generalize accStep _ _ _ = acc
  have stepped := (repaired b).trans (onlyChannel_modEng (s.repairBin c b) c fun e => { e with acc := acc })
  split
  · exact stepped.trans (onlyChannel_trip _ c _ _ _ _)
  · exact stepped

/-! ### What a sample leaves alone -/

/-- What no step of a sample of channel `c` reaches: the other channels, and every block but the channels, the arbiter and the
settings unit. -/
structure SampleReach (c : Chan) (s t : State) : Prop where
  frame : sampleFrame s t c
  br : t.br = s.br
  glob : t.stg.image.glob = s.stg.image.glob

theorem OnlyChannel.sampleReach (h : OnlyChannel c s t) : SampleReach c s t :=
  ⟨⟨fun d hd => ⟨h.chans d hd, h.slots d hd, h.entries d hd⟩, h.enr, h.trk, h.ctx, h.rst, h.now, h.pending⟩, h.br,
    congrArg (·.image.glob) h.stg⟩

theorem SampleReach.trans (h : SampleReach c s t) (k : SampleReach c t u) : SampleReach c s u := by
  obtain ⟨⟨others, enr, trk, ctx, rst, now, pending⟩, br, glob⟩ := h
  obtain ⟨⟨others', enr', trk', ctx', rst', now', pending'⟩, br', glob'⟩ := k
  refine ⟨⟨fun d hd => ?_, enr'.trans enr, trk'.trans trk, ctx'.trans ctx, rst'.trans rst, now'.trans now, pending'.trans pending⟩,
    br'.trans br, glob'.trans glob⟩
  obtain ⟨chan, slot, entry⟩ := others d hd
  obtain ⟨chan', slot', entry'⟩ := others' d hd
  exact ⟨chan'.trans chan, slot'.trans slot, entry'.trans entry⟩

theorem sampleReach_modImage (s : State) (c : Chan) {f : Image → Image} (hf : (f s.stg.image).glob = s.stg.image.glob) :
    SampleReach c s (s.modImage f) :=
  ⟨⟨fun _ _ => ⟨rfl, rfl, rfl⟩, rfl, rfl, rfl, rfl, rfl, rfl⟩, rfl, hf⟩

theorem sampleReach_closedEndStop (s : State) (c : Chan) : SampleReach c s (s.closedEndStop c) := by
  have learns (s : State) (k : Int) : OnlyChannel c s (s.learn c k) := by
    unfold State.learn; split
    · exact onlyChannel_modProf s c _
    · exact .refl c s
  have teaches (s : State) (k : Int) : SampleReach c s (s.teachEnd c k) := by
    unfold State.teachEnd; dsimp only
    generalize (if ((s.cset c).driftTol : Int) < |k| then TeachState.failed .drift
      else if (s.chan c).prof.visited < 8 then .failed .short else .done) = result
    have judged := (onlyChannel_modProf s c fun p => { p with teach := result, teachVisited := p.visited }).sampleReach
    split
    · exact (judged.trans (sampleReach_modImage _ c rfl)).trans (onlyChannel_modProf _ c _).sampleReach
    · exact judged
  have profiled (s : State) (k : Int) : SampleReach c s (s.profileClosedEnd c k) := by
    unfold State.profileClosedEnd; dsimp only; split
    · split
      · exact teaches s k
      · exact (OnlyChannel.refl c s).sampleReach
    · exact (learns s k).sampleReach
  exact ((((onlyChannel_vacate s c .idle).trans (onlyChannel_modCtl _ c _)).sampleReach).trans (profiled _ _)).trans
    (onlyChannel_reversalClosedEnd _ c).sampleReach

theorem sampleReach_closingSample (s : State) (c : Chan) (m : Sample) : SampleReach c s (s.closingSample c m) := by
  have entered : OnlyChannel c s (s.enterSample c m.current.toNat) := by
    unfold State.enterSample; dsimp only
    exact (onlyChannel_modEng s c _).trans (onlyChannel_modProf _ c _)
  have judged (s : State) (blanked : Bool) : SampleReach c s (s.judgeSample c m blanked).1 := by
    unfold State.judgeSample; dsimp only
    split
    · exact (onlyChannel_trip s c _ _ _ _).sampleReach
    · split
      · exact (onlyChannel_trip s c _ _ _ _).sampleReach
      · split
        · exact sampleReach_closedEndStop s c
        · split
          · exact (OnlyChannel.refl c s).sampleReach
          · exact (onlyChannel_accumulate s c).sampleReach
  unfold State.closingSample State.peakStep; dsimp only
  exact (entered.sampleReach.trans (judged _ _)).trans (onlyChannel_modEng _ c _).sampleReach

theorem sampleReach_applySample (s : State) (c : Chan) (m : Sample) (k : Nat) (mismatch : Bool) :
    SampleReach c s (s.applySample c m k mismatch) := by
  have first : OnlyChannel c s (((s.modSup c (voltageStage s.glob m.volt.toNat)).channelSample c m k mismatch).countStage c) :=
    ((((onlyChannel_modSup s c _).trans (onlyChannel_sampleCauses _ c m mismatch)).trans (onlyChannel_sampleCounter _ c m k)).trans
      (onlyChannel_endTests _ c m.atEnd _)).trans (onlyChannel_countStage _ c)
  unfold State.applySample; dsimp only; split
  · exact first.sampleReach.trans (sampleReach_closingSample _ c m)
  · exact first.sampleReach

/-! ### The row of the reply slot -/

/-- The state in which the bound channel takes a sample: the node's run is 0, its keep-alive taken and k set to 0 (07 R150, R151). -/
def State.heard (s : State) (a : Node) (m : Sample) : State :=
  s.modNode a fun n => { n with badRun := 0, keep := some m.keep, since := 0 }

/-- The branch once a GOOD slot short of a window end is over: the node as heard, its window one slot further (07 R158). -/
def State.branchAfter (s : State) (a : Node) (m : Sample) : BranchPort :=
  { s.br with place := a.val + 1, nodes := s.br.nodes.set a { s.br.nodes.get a with
      badRun := 0, since := 0, keep := some m.keep, winPos := (s.br.nodes.get a).winPos + 1 } }

/-- What the row of a GOOD sample makes of the state: the bound channel's blocks apply the sample, and the slot is over. -/
def State.sampled (s : State) (a : Node) (c : Chan) (m : Sample) (mismatch : Bool) : State :=
  { (s.heard a m).applySample c m (s.br.nodes.get a).since mismatch with br := s.branchAfter a m }

theorem State.windowEnd_short (h : (s.br.nodes.get a).winPos < 64 * 2 ^ s.stg.image.glob.gradeWindow) : s.windowEnd a = s := if_pos h

/-- A GOOD slot of a bound node. -/
theorem State.goodSlot_of_channelOf {m : Sample} (h : s.channelOf a = some c) : s.goodSlot a m =
    (((s.heard a m).applySample c m (s.br.nodes.get a).since (s.isMismatch a)).modNode a fun n => NodeContext.count n false).windowEnd
      a := by
  have h' : State.channelOf (s.modNode a fun n => { n with badRun := 0, keep := some m.keep, since := 0 }) a = some c := h
  unfold State.goodSlot; dsimp only
  rw [h']
  rfl

theorem exec_of_bringsOf {mismatch : Bool} {content : SlotContent} {m : Sample} (h : bringsOf mismatch s a c content m) :
    exec (.replySlotEnd a content) s = .next (s.sampled a c m mismatch) := by
  obtain ⟨hrst, hplace, hreading, ⟨r, hr, hst⟩, hgood, hchan, hwin⟩ := h
  have hjudged : s.isJudged a = true := (s.isJudged_iff a).mpr ⟨r, hr, by rw [hst]; split <;> nofun⟩
  have hmismatch : s.isMismatch a = mismatch := by
    unfold State.isMismatch
    rw [hr, Option.any_some, hst]
    cases mismatch <;> rfl
  refine (execReplySlotEnd_next content hrst hplace).trans (congrArg Host.Outcome.next ?_)
  have hslot : s.replySlotEnds a content = s.goodSlot a m := by
    unfold State.replySlotEnds
    rw [if_neg hreading, if_pos hjudged, hgood]
  have reach := sampleReach_applySample (s.heard a m) c m (s.br.nodes.get a).since mismatch
  rw [hslot, State.goodSlot_of_channelOf hchan, hmismatch, State.windowEnd_short]
  · unfold State.sampled State.toPlace State.modNode State.branchAfter
    rw [reach.br]
    simp only [State.heard, State.br_modNode, Oct.get_set_self, Oct.set_set]
    rfl
  · rw [State.br_modNode, Oct.get_set_self, reach.br, State.stg_modNode, reach.glob]
    simpa only [State.heard, State.br_modNode, State.stg_modNode, Oct.get_set_self, NodeContext.count] using hwin

end

end Sys2Proof.Machine
end

section
/-! The steps of a sample on a state given by the unit of one channel and the arbiter: what each makes of the two (01 R9 to R16). -/

namespace Sys2Proof

/-- A unit whose running teach, if there is one, has failed (03 R84). -/
def ChannelUnit.failed (u : ChannelUnit) (why : TeachReason) : ChannelUnit :=
  { u with prof := if u.prof.teach = .running then
      { u.prof with teach := .failed why, teachVisited := if u.ctl.st = .closing then u.prof.visited else 0 }
    else u.prof }

/-- A unit that has stopped in IDLE by a cause that fails a teach (01 R7, R11, R13). -/
def ChannelUnit.driftStopped (u : ChannelUnit) : ChannelUnit := Machine.ChannelUnit.leave (u.failed .drift) .idle

/-- A unit without its reference. -/
def ChannelUnit.unreferenced (u : ChannelUnit) : ChannelUnit := { u with ctl := { u.ctl with referenced := false } }

/-- A unit with a refusal noted (01 R8). -/
def ChannelUnit.refused (u : ChannelUnit) (why : RefusalReason) : ChannelUnit :=
  { u with ctl := { u.ctl with refusal := some why, latched := { u.ctl.latched with orderRefused := true } } }

/-- A unit at another position. -/
def ChannelUnit.atPos (u : ChannelUnit) (p : Int) : ChannelUnit := { u with ctl := { u.ctl with pos := p } }

/-- A unit whose counter base is that of the sample (01 R10). -/
def ChannelUnit.rebased (u : ChannelUnit) (m : Machine.Sample) : ChannelUnit := { u with ctl := { u.ctl with base := some m.counter } }

/-- What the channel has in the start queue. -/
def SlotArbiter.motionOf (b : SlotArbiter) (c : Chan) : Option Motion := (b.queue.find? fun e => decide (e.channel = c)).map Entry.motion

/-- An OPENING unit is at its end: END, its target, or the travel of a referenced one with no target (01 R14). -/
def ChannelUnit.opened (u : ChannelUnit) (travel : Nat) (atEnd : Bool) : Prop :=
  atEnd = true ∨ (u.ctl.motion.bind Motion.target).elim (u.ctl.referenced = true ∧ (travel : Int) ≤ u.ctl.pos) (· ≤ u.ctl.pos)

/-- A REVERSING unit is at its end: END, or its target reached, before the sample or with it (04 R92). -/
def ChannelUnit.reversed (u : ChannelUnit) (before : Int) (atEnd : Bool) : Prop :=
  atEnd = true ∨ ∃ g, u.rev.target = some g ∧ (g ≤ u.ctl.pos ∨ g ≤ before)

/-- A CLOSING unit is at its preset target (01 R14). -/
def ChannelUnit.atTarget (u : ChannelUnit) : Prop := ∃ m g, u.ctl.motion = some m ∧ m.target = some g ∧ u.ctl.pos ≤ g

end Sys2Proof

namespace Sys2Proof.Machine

open Sys2Proof.Claim

/-- The state with the unit of channel `c` and the arbiter replaced. -/
def State.having (s : State) (c : Chan) (u : ChannelUnit) (b : SlotArbiter) : State := { s with chans := s.chans.set c u, arb := b }

section
variable {s : State} {c : Chan} {u : ChannelUnit} {b : SlotArbiter}

theorem State.having_self (s : State) (c : Chan) : s.having c (s.chans.get c) s.arb = s := by
  unfold State.having; rw [Oct.set_get_self]

@[simp] theorem State.chan_having : (s.having c u b).chan c = u := Oct.get_set_self _ _ _

@[simp] theorem State.chans_having : (s.having c u b).chans.get c = u := Oct.get_set_self _ _ _

@[simp] theorem State.stg_having : (s.having c u b).stg = s.stg := rfl

@[simp] theorem State.modChan_having (f : ChannelUnit → ChannelUnit) : (s.having c u b).modChan c f = s.having c (f u) b := by
  simp only [State.modChan, State.having, Oct.get_set_self, Oct.set_set]

@[simp] theorem State.vacate_having (dst : ChanState) : (s.having c u b).vacate c dst = s.having c (ChannelUnit.leave u dst) (SlotArbiter.drop b c) := by
  simp only [State.vacate, State.having, Oct.get_set_self, Oct.set_set]

@[simp] theorem State.teachFail_having (why : TeachReason) : (s.having c u b).teachFail c why = s.having c (u.failed why) b := by
  unfold State.teachFail ChannelUnit.failed
  rw [State.chan_having]
  split
  · rw [State.modProf, State.modChan_having]
  · rfl

theorem State.carried_having : (s.having c u b).carried c = ChannelUnit.carries u (b.motionOf c) := by
  rw [State.carried_eq, State.chans_having]; rfl

theorem ChannelUnit.carries_at_rest (entry : Option Motion) (h : u.ctl.st = .idle ∨ u.ctl.st = .inhibited ∨ u.ctl.st = .reversing) :
    ChannelUnit.carries u entry = none := by
  unfold ChannelUnit.carries; rcases h with h | h | h <;> rw [h]

/-! ### The reference (01 R7, R8) -/

/-- A channel that carries nothing but a held USER motion or entry goes on without its reference. -/
theorem State.loseReference_having_keeps (h : u.ctl.referenced = true → ∀ m, ChannelUnit.carries u (b.motionOf c) = some m → needsReference m = false) :
    (s.having c u b).loseReference c = s.having c u.unreferenced b := by
  unfold State.loseReference
  rw [State.chan_having]
  split
  · next href =>
    dsimp only
    rw [State.modCtl, State.modChan_having, State.carried_having]
    cases hm : ChannelUnit.carries u.unreferenced (b.motionOf c) with
    | none => rw [← ChannelUnit.unreferenced, hm]
    | some m => rw [← ChannelUnit.unreferenced, hm]; exact if_neg (Bool.eq_false_iff.mp (h href m hm))
  · next href =>
    have : u.unreferenced = u := by
      unfold ChannelUnit.unreferenced
      rw [← Bool.eq_false_of_not_eq_true href]
    rw [this]

theorem State.loseReference_having_rests (h : u.ctl.st = .idle ∨ u.ctl.st = .inhibited ∨ u.ctl.st = .reversing) :
    (s.having c u b).loseReference c = s.having c u.unreferenced b :=
  State.loseReference_having_keeps fun _ m hm => by rw [ChannelUnit.carries_at_rest _ h] at hm; exact nomatch hm

/-- A motion or entry that needs the reference ends with it. -/
theorem State.loseReference_having_ends {m : Motion} (href : u.ctl.referenced = true) (hm : ChannelUnit.carries u (b.motionOf c) = some m)
    (hneeds : needsReference m = true) :
    (s.having c u b).loseReference c = s.having c (u.unreferenced.driftStopped.refused .unreferenced) (SlotArbiter.drop b c) := by
  have hm' : ChannelUnit.carries u.unreferenced (b.motionOf c) = some m := hm
  unfold State.loseReference
  rw [State.chan_having, if_pos href]
  dsimp only
  rw [State.modCtl, State.modChan_having, State.carried_having, ← ChannelUnit.unreferenced, hm']
  dsimp only
  rw [if_pos hneeds, State.teachFail_having, State.vacate_having, State.refuse, State.modCtl, State.modChan_having]
  rfl

/-! ### The counter (01 R10 to R13) -/

theorem State.rebase_having (m : Sample) : (s.having c u b).rebase c m = s.having c (u.rebased m) b := by
  rw [State.rebase, State.modCtl, State.modChan_having]; rfl

theorem State.driftStop_having_moves (h : inMotion u.ctl.st = true) :
    (s.having c u b).driftStop c = s.having c u.driftStopped (SlotArbiter.drop b c) := by
  rw [State.driftStop, State.chan_having, if_pos h, State.teachFail_having, State.vacate_having]; rfl

theorem State.driftStop_having_rests (h : inMotion u.ctl.st = false) : (s.having c u b).driftStop c = s.having c u b := by
  rw [State.driftStop, State.chan_having, if_neg (Bool.eq_false_iff.mp h)]

theorem State.movePosition_having {delta : Int} (h : u.ctl.st = .closing → -255 ≤ u.ctl.pos + delta) :
    (s.having c u b).movePosition c delta = s.having c (u.atPos (max (-255) (min 4095 (u.ctl.pos + delta)))) b := by
  unfold State.movePosition; dsimp only
  rw [State.chan_having, if_neg fun ⟨hlow, hst⟩ => absurd hlow (not_lt.mpr (h hst)), State.modCtl, State.modChan_having,
    clamp_eq_max_min (by decide)]
  rfl

/-- Overtravel stops a CLOSING channel unreferenced at -255 (01 R13). -/
theorem State.movePosition_having_overtravel {delta : Int} (hst : u.ctl.st = .closing) (h : u.ctl.pos + delta < -255) :
    (s.having c u b).movePosition c delta = s.having c (u.atPos (-255)).driftStopped.unreferenced (SlotArbiter.drop b c) := by
  unfold State.movePosition; dsimp only
  rw [State.chan_having, if_pos ⟨h, hst⟩, State.modCtl, State.modChan_having, State.driftStop_having_moves,
    State.loseReference_having_rests (.inl rfl)]
  · rfl
  · dsimp only; rw [hst]; rfl

theorem State.sampleCounter_having_first {m : Sample} {k : Nat} (hf : m.freshStart = false) (hb : u.ctl.base = none) :
    (s.having c u b).sampleCounter c m k = s.having c (u.rebased m) b := by
  unfold State.sampleCounter
  rw [if_neg (Bool.eq_false_iff.mp hf), State.chan_having, hb]
  exact State.rebase_having m

/-- FRESH_START of a channel at rest rebases alone (01 R12). -/
theorem State.sampleCounter_having_fresh_rests {m : Sample} {k : Nat} (hf : m.freshStart = true) (hst : inMotion u.ctl.st = false) :
    (s.having c u b).sampleCounter c m k = s.having c (u.rebased m) b := by
  unfold State.sampleCounter; dsimp only
  rw [if_pos hf, State.chan_having, if_neg (Bool.eq_false_iff.mp hst)]
  exact State.rebase_having m

theorem State.sampleCounter_having_fresh_moves {m : Sample} {k : Nat} (hf : m.freshStart = true) (hst : inMotion u.ctl.st = true) :
    (s.having c u b).sampleCounter c m k = (s.having c (u.rebased m) b).loseReference c := by
  unfold State.sampleCounter; dsimp only
  rw [if_pos hf, State.chan_having, if_pos hst, State.rebase_having]

theorem implausible_iff (cs : ChanSettings) (delta : Int) (k : Nat) :
    implausible cs delta k = true ↔ ((cs.edgeMax * k : Nat) : Int) < |delta| := decide_eq_true_iff

/-- A plausible delta (01 R13). -/
theorem State.sampleCounter_having_moved {m : Sample} {k : Nat} {o : BitVec 12} (hf : m.freshStart = false) (hb : u.ctl.base = some o)
    (hk : |deltaFrom m o| ≤ (((s.stg.image.chan.get c).edgeMax * k : Nat) : Int)) :
    (s.having c u b).sampleCounter c m k = (s.having c (u.rebased m) b).movePosition c (deltaFrom m o) := by
  unfold State.sampleCounter
  rw [if_neg (Bool.eq_false_iff.mp hf), State.chan_having, hb]
  refine (if_neg fun h => absurd ((implausible_iff _ _ _).mp h) (not_lt.mpr hk)).trans ?_
  rw [State.rebase_having]; rfl

/-- A plausible delta short of overtravel moves the position and rebases the counter. -/
theorem State.sampleCounter_having_position {m : Sample} {k : Nat} {o : BitVec 12} (hf : m.freshStart = false) (hb : u.ctl.base = some o)
    (hk : |deltaFrom m o| ≤ (((s.stg.image.chan.get c).edgeMax * k : Nat) : Int))
    (hlow : u.ctl.st = .closing → -255 ≤ u.ctl.pos + deltaFrom m o) :
    (s.having c u b).sampleCounter c m k =
      s.having c ((u.rebased m).atPos (max (-255) (min 4095 (u.ctl.pos + deltaFrom m o)))) b := by
  rw [State.sampleCounter_having_moved hf hb hk]
  exact State.movePosition_having hlow

/-- An implausible delta (01 R11). -/
theorem State.sampleCounter_having_implausible {m : Sample} {k : Nat} {o : BitVec 12} (hf : m.freshStart = false)
    (hb : u.ctl.base = some o) (hk : (((s.stg.image.chan.get c).edgeMax * k : Nat) : Int) < |deltaFrom m o|) :
    (s.having c u b).sampleCounter c m k = ((s.having c (u.rebased m) b).driftStop c).loseReference c := by
  unfold State.sampleCounter
  rw [if_neg (Bool.eq_false_iff.mp hf), State.chan_having, hb]
  refine (if_pos ((implausible_iff _ _ _).mpr hk)).trans ?_
  rw [State.rebase_having]

/-! ### The end tests (01 R14, R16, 04 R92) -/

theorem State.endTests_having_rests {atEnd : Bool} {before : Int} (h : inMotion u.ctl.st = false) :
    (s.having c u b).endTests c atEnd before = s.having c u b := by
  unfold State.endTests; dsimp only
  rw [State.chan_having]
  split
  · next hst => rw [hst] at h; exact nomatch h
  · next hst => rw [hst] at h; exact nomatch h
  · next hst => rw [hst] at h; exact nomatch h
  · rfl

theorem State.endTests_having_opening {atEnd : Bool} {before : Int} (h : u.ctl.st = .opening) :
    (u.opened (s.stg.image.chan.get c).travel atEnd →
      (s.having c u b).endTests c atEnd before = s.having c (ChannelUnit.leave u .idle) (SlotArbiter.drop b c)) ∧
    (¬u.opened (s.stg.image.chan.get c).travel atEnd → (s.having c u b).endTests c atEnd before = s.having c u b) := by
  unfold State.endTests ChannelUnit.opened; dsimp only
  rw [State.chan_having, h, State.vacate_having]
  cases u.ctl.motion.bind Motion.target with
  | none =>
    refine ⟨fun he => if_pos ?_, fun he => if_neg fun hc => he ?_⟩
    · rw [Bool.or_eq_true, Bool.and_eq_true, decide_eq_true_iff]; exact he
    · rw [Bool.or_eq_true, Bool.and_eq_true, decide_eq_true_iff] at hc; exact hc
  | some g =>
    refine ⟨fun he => if_pos ?_, fun he => if_neg fun hc => he ?_⟩
    · rw [Bool.or_eq_true, decide_eq_true_iff]; exact he
    · rw [Bool.or_eq_true, decide_eq_true_iff] at hc; exact hc

theorem State.endTests_having_reversing {atEnd : Bool} {before : Int} (h : u.ctl.st = .reversing) :
    (u.reversed before atEnd → (s.having c u b).endTests c atEnd before = s.having c (ChannelUnit.leave u .idle) (SlotArbiter.drop b c)) ∧
    (¬u.reversed before atEnd → (s.having c u b).endTests c atEnd before = s.having c u b) := by
  have hiff : (atEnd || u.rev.target.any fun g => decide (g ≤ u.ctl.pos) || decide (g ≤ before)) = true ↔ u.reversed before atEnd := by
    simp only [ChannelUnit.reversed, Bool.or_eq_true, Option.any_eq_true, decide_eq_true_iff]
  unfold State.endTests; dsimp only
  rw [State.chan_having, h, State.vacate_having]
  exact ⟨fun he => if_pos (hiff.mpr he), fun he => if_neg fun hc => he (hiff.mp hc)⟩

theorem State.endTests_having_closing {atEnd : Bool} {before : Int} (h : u.ctl.st = .closing) :
    (u.atTarget → (s.having c u b).endTests c atEnd before = s.having c (ChannelUnit.leave u .idle) (SlotArbiter.drop b c)) ∧
    (¬u.atTarget → atEnd = true → u.ctl.referenced = false →
      (s.having c u b).endTests c atEnd before = (s.having c u b).unreferencedEnd c) ∧
    (¬u.atTarget → atEnd = false ∨ u.ctl.referenced = true → (s.having c u b).endTests c atEnd before = s.having c u b) := by
  have hiff : ((u.ctl.motion.bind Motion.target).any fun g => decide (u.ctl.pos ≤ g)) = true ↔ u.atTarget := by
    simp only [ChannelUnit.atTarget, Option.any_eq_true, Option.bind_eq_some_iff, decide_eq_true_iff]
    exact ⟨fun ⟨g, ⟨m, hm, hg⟩, hp⟩ => ⟨m, g, hm, hg, hp⟩, fun ⟨m, g, hm, hg, hp⟩ => ⟨g, ⟨m, hm, hg⟩, hp⟩⟩
  unfold State.endTests; dsimp only
  rw [State.chan_having, h, State.vacate_having]
  refine ⟨fun ht => if_pos (hiff.mpr ht), fun ht he hr => ?_, fun ht he => ?_⟩
  · exact (if_neg fun hc => ht (hiff.mp hc)).trans (if_pos (by rw [he, hr]; rfl))
  · refine (if_neg fun hc => ht (hiff.mp hc)).trans (if_neg fun hc => ?_)
    rw [Bool.and_eq_true, Bool.not_eq_true'] at hc
    rcases he with he | he
    · exact absurd hc.1 (Bool.eq_false_iff.mp he)
    · exact absurd he (Bool.eq_false_iff.mp hc.2)

end

end Sys2Proof.Machine
end

section
/-! Inhibit causes: what a change of the set does (01 R5, R6), and what a sample makes of it (01 R9, log 33). -/

namespace Sys2Proof

/-- A unit with another set of inhibit causes. -/
def ChannelUnit.causing (u : ChannelUnit) (k : Causes) : ChannelUnit := { u with ctl := { u.ctl with causes := k } }

/-- A unit that its causes have inhibited: what it carried ended, a running teach failed (01 R6). -/
def ChannelUnit.inhibitedBy (u : ChannelUnit) (k : Causes) : ChannelUnit :=
  Machine.ChannelUnit.leave ((u.causing k).failed .inhibited) .inhibited

/-- The unit of a channel at rest after the counter has been read: position, base and reference alone may differ, and no
reference is gained. -/
def ChannelUnit.SettlesTo (u v : ChannelUnit) : Prop :=
  v = { u with ctl := { u.ctl with pos := v.ctl.pos, base := v.ctl.base, referenced := v.ctl.referenced } } ∧
  (v.ctl.referenced = true → u.ctl.referenced = true)

end Sys2Proof

namespace Sys2Proof.Machine

open Sys2Proof.Claim

section
variable {s t : State} {c : Chan} {u : ChannelUnit} {b : SlotArbiter} {k : Causes}

theorem anyCause_eq_false : anyCause k = false ↔ k = noCauses := by
  obtain ⟨lost, fault, undervolt⟩ := k
  cases lost <;> cases fault <;> cases undervolt <;> decide

theorem anyCause_eq_true : anyCause k = true ↔ k ≠ noCauses := by
  rw [Ne, ← anyCause_eq_false, Bool.not_eq_false]

/-! ### A change of the set -/

theorem State.setCauses_having_inhibits (hwas : u.ctl.causes = noCauses) (hk : k ≠ noCauses) :
    (s.having c u b).setCauses c k = s.having c (u.inhibitedBy k) (SlotArbiter.drop b c) := by
  unfold State.setCauses; dsimp only
  rw [State.chan_having, if_pos ⟨anyCause_eq_false.mpr hwas, anyCause_eq_true.mpr hk⟩, State.modCtl, State.modChan_having,
    State.teachFail_having, State.vacate_having]
  rfl

theorem State.setCauses_having_frees (hwas : u.ctl.causes ≠ noCauses) (hk : k = noCauses) :
    (s.having c u b).setCauses c k =
      s.having c { u with ctl := { u.ctl with st := if u.ctl.st = .inhibited then .idle else u.ctl.st, causes := k } } b := by
  have hany := anyCause_eq_true.mpr hwas
  unfold State.setCauses; dsimp only
  rw [State.chan_having, if_neg fun h => absurd (hany.symm.trans h.1) (by decide), State.modCtl, State.modChan_having]
  by_cases hst : u.ctl.st = .inhibited
  · rw [if_pos ⟨hany, anyCause_eq_false.mpr hk, hst⟩, if_pos hst, State.setSt, State.modCtl, State.modChan_having]
  · rw [if_neg fun h => hst h.2.2, if_neg hst]

theorem State.setCauses_having_stays (h : u.ctl.causes = noCauses ↔ k = noCauses) :
    (s.having c u b).setCauses c k = s.having c (u.causing k) b := by
  unfold State.setCauses; dsimp only
  rw [State.chan_having, if_neg fun ⟨hwas, hk⟩ => anyCause_eq_true.mp hk (h.mp (anyCause_eq_false.mp hwas)),
    if_neg fun ⟨hwas, hk, _⟩ => anyCause_eq_true.mp hwas (h.mpr (anyCause_eq_false.mp hk)), State.modCtl, State.modChan_having]
  rfl

/-! ### What a sample makes of the set -/

/-- The causes of a sample: its fault flags and the record's state, and the supply monitor's flag (01 R5). -/
def causesOfSample (u : ChannelUnit) (m : Sample) (mismatch : Bool) : Causes :=
  { u.ctl.causes with nodeFault := m.hallFault || m.overtemp || mismatch, undervolt := u.sup.undervolt }

theorem State.sampleCauses_having (m : Sample) (mismatch : Bool) : (s.having c u b).sampleCauses c m mismatch =
    if m.hallFault then ((s.having c u b).setCauses c (causesOfSample u m mismatch)).loseReference c
    else (s.having c u b).setCauses c (causesOfSample u m mismatch) := by
  unfold State.sampleCauses; dsimp only
  rw [State.chan_having]; rfl

/-- A sample of a channel free of causes that raises none. -/
theorem State.sampleCauses_having_healthy {m : Sample} (hc : u.ctl.causes = noCauses) (hh : m.hallFault = false)
    (ho : m.overtemp = false) (hv : u.sup.undervolt = false) : (s.having c u b).sampleCauses c m false = s.having c u b := by
  have hk : causesOfSample u m false = u.ctl.causes := by rw [causesOfSample, hc, hh, ho, hv]; rfl
  rw [State.sampleCauses_having, hh, hk]
  exact State.setCauses_same _ _ _ (by rw [State.chan_having])

/-- A set of causes that becomes not empty inhibits the channel, and HALL_FAULT then clears its reference. -/
theorem State.sampleCauses_having_inhibits {m : Sample} {mismatch : Bool} (hc : u.ctl.causes = noCauses)
    (hk : causesOfSample u m mismatch ≠ noCauses) : (s.having c u b).sampleCauses c m mismatch =
      s.having c (if m.hallFault then (u.inhibitedBy (causesOfSample u m mismatch)).unreferenced
        else u.inhibitedBy (causesOfSample u m mismatch)) (SlotArbiter.drop b c) := by
  rw [State.sampleCauses_having, State.setCauses_having_inhibits hc hk]
  cases m.hallFault
  · rfl
  · exact State.loseReference_having_rests (.inr (.inl rfl))

/-- An INHIBITED channel that stays inhibited. -/
theorem State.sampleCauses_having_stays {m : Sample} {mismatch : Bool} (hst : u.ctl.st = .inhibited) (hc : u.ctl.causes ≠ noCauses)
    (hk : causesOfSample u m mismatch ≠ noCauses) : (s.having c u b).sampleCauses c m mismatch =
      s.having c (if m.hallFault then (u.causing (causesOfSample u m mismatch)).unreferenced
        else u.causing (causesOfSample u m mismatch)) b := by
  rw [State.sampleCauses_having, State.setCauses_having_stays (iff_of_false hc hk)]
  cases m.hallFault
  · rfl
  · exact State.loseReference_having_rests (.inr (.inl hst))

/-- A set of causes that becomes empty has no HALL_FAULT in it. -/
theorem State.sampleCauses_having_frees {m : Sample} {mismatch : Bool} (hst : u.ctl.st = .inhibited) (hc : u.ctl.causes ≠ noCauses)
    (hk : causesOfSample u m mismatch = noCauses) : (s.having c u b).sampleCauses c m mismatch =
      s.having c { u with ctl := { u.ctl with st := .idle, causes := causesOfSample u m mismatch } } b := by
  have hh : m.hallFault = false := by
    have := congrArg Causes.nodeFault hk
    simp only [causesOfSample, noCauses, Bool.or_eq_false_iff] at this
    exact this.1.1
  rw [State.sampleCauses_having, State.setCauses_having_frees hc hk, hh, if_pos hst]
  rfl

/-! ### The steps after it leave the set alone -/

theorem State.causes_modChan {f : ChannelUnit → ChannelUnit} (hf : (f (s.chan c)).ctl.causes = (s.chan c).ctl.causes) :
    ((s.modChan c f).chan c).ctl.causes = (s.chan c).ctl.causes := by rw [State.chan_modChan_self, hf]

theorem State.causes_modCtl {f : ChannelRecord → ChannelRecord} (hf : (f (s.chan c).ctl).causes = (s.chan c).ctl.causes) :
    ((s.modCtl c f).chan c).ctl.causes = (s.chan c).ctl.causes := State.causes_modChan (f := fun u => { u with ctl := f u.ctl }) hf

theorem State.ctl_modEng (s : State) (c : Chan) (f : EngineContext → EngineContext) :
    ((s.modEng c f).chan c).ctl = (s.chan c).ctl := by rw [State.modEng, State.chan_modChan_self]

theorem State.ctl_modProf (s : State) (c : Chan) (f : ProfileContext → ProfileContext) :
    ((s.modProf c f).chan c).ctl = (s.chan c).ctl := by rw [State.modProf, State.chan_modChan_self]

theorem State.causes_vacate (s : State) (c : Chan) (dst : ChanState) :
    ((s.vacate c dst).chan c).ctl.causes = (s.chan c).ctl.causes := by rw [State.chan_vacate_self]; rfl

theorem State.causes_loseReference (s : State) (c : Chan) :
    ((s.loseReference c).chan c).ctl.causes = (s.chan c).ctl.causes := by
  have cleared : ((s.modCtl c fun r => { r with referenced := false }).chan c).ctl.causes = (s.chan c).ctl.causes :=
    State.causes_modCtl rfl
  unfold State.loseReference; dsimp only; split
  · split
    · split
      · rw [State.refuse, State.causes_modCtl rfl, State.causes_vacate, State.ctl_teachFail, cleared]
      · exact cleared
    · exact cleared
  · rfl

theorem State.causes_driftStop (s : State) (c : Chan) : ((s.driftStop c).chan c).ctl.causes = (s.chan c).ctl.causes := by
  unfold State.driftStop; split
  · rw [State.causes_vacate, State.ctl_teachFail]
  · rfl

theorem State.causes_sampleCounter (s : State) (c : Chan) (m : Sample) (n : Nat) :
    ((s.sampleCounter c m n).chan c).ctl.causes = (s.chan c).ctl.causes := by
  have rebased : ((s.rebase c m).chan c).ctl.causes = (s.chan c).ctl.causes := State.causes_modCtl rfl
  have moved (t : State) (delta : Int) : ((t.movePosition c delta).chan c).ctl.causes = (t.chan c).ctl.causes := by
    unfold State.movePosition; dsimp only; split
    · rw [State.causes_loseReference, State.causes_driftStop, State.causes_modCtl rfl]
    · exact State.causes_modCtl rfl
  unfold State.sampleCounter; dsimp only; split
  · split
    · rw [State.causes_loseReference, rebased]
    · exact rebased
  · split
    · exact rebased
    · split
      · rw [State.causes_loseReference, State.causes_driftStop, rebased]
      · rw [moved, rebased]

theorem State.causes_reversalClosedEnd (s : State) (c : Chan) :
    ((s.reversalClosedEnd c).chan c).ctl.causes = (s.chan c).ctl.causes := by
  unfold State.reversalClosedEnd; split
  · exact State.causes_modChan rfl
  · rfl

theorem State.causes_endTests (s : State) (c : Chan) (atEnd : Bool) (before : Int) :
    ((s.endTests c atEnd before).chan c).ctl.causes = (s.chan c).ctl.causes := by
  have ends := s.causes_vacate c .idle
  have closed : ((s.unreferencedEnd c).chan c).ctl.causes = (s.chan c).ctl.causes := by
    rw [State.unreferencedEnd, State.causes_reversalClosedEnd, State.causes_modCtl rfl, ends]
  unfold State.endTests; dsimp only; split
  · split <;> split
    exacts [ends, rfl, ends, rfl]
  · split
    · exact ends
    · split
      exacts [closed, rfl]
  · split
    exacts [ends, rfl]
  · rfl

theorem State.causes_countStage (s : State) (c : Chan) : ((s.countStage c).chan c).ctl.causes = (s.chan c).ctl.causes := by
  unfold State.countStage; split
  · exact State.causes_modChan rfl
  · rfl

theorem State.chan_modImage (s : State) (c : Chan) (f : Image → Image) : (s.modImage f).chan c = s.chan c := rfl

theorem State.causes_closedEndStop (s : State) (c : Chan) :
    ((s.closedEndStop c).chan c).ctl.causes = (s.chan c).ctl.causes := by
  have profiled (t : State) (n : Int) : ((t.profileClosedEnd c n).chan c).ctl = (t.chan c).ctl := by
    unfold State.profileClosedEnd State.teachEnd State.learn; dsimp only
    generalize (if ((t.cset c).driftTol : Int) < |n| then TeachState.failed .drift
      else if (t.chan c).prof.visited < 8 then .failed .short else .done) = result
    split
    · split
      · split
        · rw [State.copyBaseline, State.ctl_modProf, State.chan_modImage, State.ctl_modProf]
        · exact State.ctl_modProf _ _ _
      · rfl
    · split
      · exact State.ctl_modProf _ _ _
      · rfl
  rw [State.closedEndStop, State.causes_reversalClosedEnd, profiled, State.causes_modCtl rfl, State.causes_vacate]

theorem State.causes_trip (s : State) (c : Chan) (cause : TripCause) (ref margin acc : Nat) :
    ((s.trip c cause ref margin acc).chan c).ctl.causes = (s.chan c).ctl.causes := by
  rw [State.trip, State.ctl_modEng, State.takeTrip, State.causes_modChan rfl, State.ctl_teachFail]

theorem State.causes_closingSample (s : State) (c : Chan) (m : Sample) :
    ((s.closingSample c m).chan c).ctl.causes = (s.chan c).ctl.causes := by
  have repaired (t : State) (x : Fin 64) : ((t.repairBin c x).chan c).ctl.causes = (t.chan c).ctl.causes := by
    unfold State.repairBin; dsimp only; split
    · rfl
    · rw [State.causes_modCtl rfl, State.ctl_modProf]
  have accumulated (t : State) : ((t.accumulate c).1.chan c).ctl.causes = (t.chan c).ctl.causes := by
    unfold State.accumulate; dsimp only; split
    · rw [State.causes_trip, State.ctl_modEng, repaired]
    · rw [State.ctl_modEng, repaired]
  have judged (t : State) (blanked : Bool) : ((t.judgeSample c m blanked).1.chan c).ctl.causes = (t.chan c).ctl.causes := by
    unfold State.judgeSample; dsimp only
    split
    · exact State.causes_trip _ _ _ _ _ _
    · split
      · exact State.causes_trip _ _ _ _ _ _
      · split
        · exact State.causes_closedEndStop t c
        · split
          · rfl
          · exact accumulated t
  rw [State.closingSample, State.peakStep, State.ctl_modEng, judged, State.enterSample, State.ctl_modProf, State.ctl_modEng]

/-! ### A sample of a channel at rest -/

theorem SettlesTo.fields {v : ChannelUnit} (h : u.SettlesTo v) : v.ctl.st = u.ctl.st ∧ v.ctl.motion = u.ctl.motion ∧
    v.ctl.hold = u.ctl.hold ∧ v.rev = u.rev ∧ (v.ctl.referenced = true → u.ctl.referenced = true) := by
  obtain ⟨hv, href⟩ := h
  refine ⟨?_, ?_, ?_, ?_, href⟩ <;> rw [hv]

theorem State.countStage_rests (h : (s.chan c).ctl.st ≠ .closing) : s.countStage c = s := if_neg fun hc => h hc.1

/-- The counter of a channel that is IDLE, INHIBITED or ABSENT (01 R10 to R13). -/
theorem State.sampleCounter_having_settles (m : Sample) (n : Nat) (h : u.ctl.st = .idle ∨ u.ctl.st = .inhibited) :
    ∃ v : ChannelUnit, (s.having c u b).sampleCounter c m n = s.having c v b ∧ u.SettlesTo v := by
  have hmove : inMotion u.ctl.st = false := by rcases h with h | h <;> rw [h] <;> rfl
  have rebased : u.SettlesTo (u.rebased m) := ⟨rfl, id⟩
  cases hf : m.freshStart with
  | true => exact ⟨_, State.sampleCounter_having_fresh_rests hf hmove, rebased⟩
  | false =>
    cases hb : u.ctl.base with
    | none => exact ⟨_, State.sampleCounter_having_first hf hb, rebased⟩
    | some o =>
      by_cases hk : (((s.stg.image.chan.get c).edgeMax * n : Nat) : Int) < |deltaFrom m o|
      · refine ⟨(u.rebased m).unreferenced, ?_, rfl, nofun⟩
        rw [State.sampleCounter_having_implausible hf hb hk, State.driftStop_having_rests (u := u.rebased m) hmove]
        exact State.loseReference_having_rests (h.imp_right .inl)
      · refine ⟨(u.rebased m).atPos (max (-255) (min 4095 (u.ctl.pos + deltaFrom m o))), ?_, rfl, id⟩
        exact State.sampleCounter_having_position hf hb (not_lt.mp hk) fun hc => by
          rcases h with h | h <;> exact nomatch h.symm.trans hc

/-- The sample path, given what the causes and then the counter and the end tests make of the channel (06 R122). -/
theorem State.applySample_of_steps {m : Sample} {n : Nat} {mismatch : Bool} {v w : ChannelUnit} {b' : SlotArbiter}
    (hv : State.sampleCauses (s.modSup c (voltageStage s.glob m.volt.toNat)) c m mismatch = s.having c v b)
    (he : ((s.having c v b).sampleCounter c m n).endTests c m.atEnd (s.chans.get c).ctl.pos = s.having c w b') :
    (w.ctl.st ≠ .closing → s.applySample c m n mismatch = s.having c w b') ∧
    (w.ctl.st = .closing → s.applySample c m n mismatch = ((s.having c w b').countStage c).closingSample c m) := by
  have hpos : ((s.modSup c (voltageStage s.glob m.volt.toNat)).chan c).ctl.pos = (s.chans.get c).ctl.pos := by
    rw [State.modSup, State.chan_modChan_self]; rfl
  have hstage : (((s.having c w b').countStage c).chan c).ctl.st = w.ctl.st := by
    unfold State.countStage; split
    · rw [State.modSup, State.modChan_having, State.chan_having]
    · rw [State.chan_having]
  unfold State.applySample State.channelSample; dsimp only
  rw [hpos, hv, he, hstage]
  refine ⟨fun h => ?_, fun h => if_pos h⟩
  rw [if_neg h, State.countStage_rests (by rw [State.chan_having]; exact h)]

/-- The sample path of a channel that the counter leaves at rest. -/
theorem State.applySample_rests {m : Sample} {n : Nat} {mismatch : Bool} {v w : ChannelUnit} {b' : SlotArbiter}
    (hv : State.sampleCauses (s.modSup c (voltageStage s.glob m.volt.toNat)) c m mismatch = s.having c v b)
    (hw : (s.having c v b).sampleCounter c m n = s.having c w b') (hmove : inMotion w.ctl.st = false) :
    s.applySample c m n mismatch = s.having c w b' :=
  (State.applySample_of_steps hv (by rw [hw, State.endTests_having_rests hmove])).1 fun h => by rw [h] at hmove; exact nomatch hmove

/-- The sample path after the voltage stage, for a channel that its causes leave IDLE or INHIBITED. -/
theorem State.applySample_settles {m : Sample} {n : Nat} {mismatch : Bool} {v : ChannelUnit}
    (hv : State.sampleCauses (s.modSup c (voltageStage s.glob m.volt.toNat)) c m mismatch = s.having c v b)
    (hst : v.ctl.st = .idle ∨ v.ctl.st = .inhibited) :
    ∃ w : ChannelUnit, s.applySample c m n mismatch = s.having c w b ∧ v.SettlesTo w := by
  obtain ⟨w, hw, hsettles⟩ := State.sampleCounter_having_settles (s := s) (c := c) (b := b) m n hst
  have hwst : w.ctl.st = v.ctl.st := by rw [hsettles.1]
  have hmove : inMotion w.ctl.st = false := by rw [hwst]; rcases hst with h | h <;> rw [h] <;> rfl
  exact ⟨w, State.applySample_rests hv hw hmove, hsettles⟩

/-- After a sample the causes are those that it makes (01 R5, log 33). -/
theorem State.causes_applySample (s : State) (c : Chan) (m : Sample) (n : Nat) (mismatch : Bool) :
    ((s.applySample c m n mismatch).chan c).ctl.causes =
      ((State.sampleCauses (s.modSup c (voltageStage s.glob m.volt.toNat)) c m mismatch).chan c).ctl.causes := by
  unfold State.applySample State.channelSample; dsimp only; split
  · rw [State.causes_closingSample, State.causes_countStage, State.causes_endTests, State.causes_sampleCounter]
  · rw [State.causes_countStage, State.causes_endTests, State.causes_sampleCounter]

theorem State.causes_sampleCauses_having (m : Sample) (mismatch : Bool) :
    (((s.having c u b).sampleCauses c m mismatch).chan c).ctl.causes = causesOfSample u m mismatch := by
  have set (k : Causes) : (((s.having c u b).setCauses c k).chan c).ctl.causes = k := by
    by_cases hwas : u.ctl.causes = noCauses <;> by_cases hk : k = noCauses
    · rw [State.setCauses_having_stays (iff_of_true hwas hk), State.chan_having]; rfl
    · rw [State.setCauses_having_inhibits hwas hk, State.chan_having]; rfl
    · rw [State.setCauses_having_frees hwas hk, State.chan_having]
    · rw [State.setCauses_having_stays (iff_of_false hwas hk), State.chan_having]; rfl
  rw [State.sampleCauses_having]; split
  · rw [State.causes_loseReference, set]
  · exact set _

/-- The unit of channel `c` after the voltage stage of a sample (06 R122). -/
def State.takes (s : State) (c : Chan) (m : Sample) : ChannelUnit :=
  { s.chans.get c with sup := voltageStage s.stg.image.glob m.volt.toNat (s.chans.get c).sup }

theorem State.voltage_eq_having (s : State) (c : Chan) (m : Sample) :
    s.modSup c (voltageStage s.glob m.volt.toNat) = s.having c (s.takes c m) s.arb := rfl

theorem State.causes_sampled (s : State) (a : Node) (c : Chan) (m : Sample) (mismatch : Bool) :
    ((s.sampled a c m mismatch).chans.get c).ctl.causes = causesOfSample (s.takes c m) m mismatch :=
  ((s.heard a m).causes_applySample c m _ mismatch).trans (State.causes_sampleCauses_having m mismatch)

theorem State.entryOf_of_drop (h : s.arb = SlotArbiter.drop b c) : s.entryOf c = none := by
  unfold State.entryOf; rw [h]; exact find_entry_filter_self _ _

/-- The row of a sample whose path is known: the channel, the arbiter and the settings unit as the path leaves them. -/
theorem State.sampled_of_path {a : Node} {m : Sample} {mismatch : Bool} {g : SettingsUnit}
    (h : (s.heard a m).applySample c m (s.br.nodes.get a).since mismatch = State.having { s.heard a m with stg := g } c u b) :
    (s.sampled a c m mismatch).chans.get c = u ∧ (s.sampled a c m mismatch).arb = b ∧ (s.sampled a c m mismatch).stg = g ∧
    (s.sampled a c m mismatch).br = s.branchAfter a m ∧ sampleFrame s (s.sampled a c m mismatch) c := by
  obtain ⟨hframe, -, -⟩ := sampleReach_applySample (s.heard a m) c m (s.br.nodes.get a).since mismatch
  refine ⟨?_, ?_, ?_, rfl, hframe⟩
  · rw [State.sampled, h]; exact Oct.get_set_self _ _ _
  · rw [State.sampled, h]; rfl
  · rw [State.sampled, h]; rfl

/-- The row of a sample that changes nothing but the channel and the arbiter. -/
theorem State.sampled_of_applySample {a : Node} {m : Sample} {mismatch : Bool}
    (h : (s.heard a m).applySample c m (s.br.nodes.get a).since mismatch = (s.heard a m).having c u b) :
    (s.sampled a c m mismatch).chans.get c = u ∧ (s.sampled a c m mismatch).arb = b ∧ (s.sampled a c m mismatch).stg = s.stg ∧
    (s.sampled a c m mismatch).br = s.branchAfter a m ∧ sampleFrame s (s.sampled a c m mismatch) c := State.sampled_of_path h

end

end Sys2Proof.Machine

namespace Sys2Proof.Proofs

open Sys2Proof.Machine Sys2Proof.Claim

/-- Settles O46: the three cases of a change of the set, and the sample path with the steps after it. -/
theorem inhibitCausesStopTheChannel : Obligations.InhibitCausesStopTheChannel := by
  refine ⟨fun s c k => ⟨fun hwas hk => ?_, fun hwas hk => ?_, fun h => ?_⟩, fun mismatch s a c content m h => ?_⟩
  · have h := State.setCauses_having_inhibits (s := s) (c := c) (b := s.arb) hwas hk
    rw [State.having_self] at h; exact h
  · have h := State.setCauses_having_frees (s := s) (c := c) (b := s.arb) hwas hk
    rw [State.having_self] at h; exact h
  · have h := State.setCauses_having_stays (s := s) (c := c) (b := s.arb) h
    rw [State.having_self] at h; exact h
  · refine ⟨s.sampled a c m mismatch, exec_of_bringsOf h, s.causes_sampled a c m mismatch, fun hwas hk => ?_, fun hwas hk hst => ?_⟩
    · obtain ⟨w, hw, hsettles⟩ := State.applySample_settles (s := s.heard a m) (n := (s.br.nodes.get a).since)
        (State.sampleCauses_having_inhibits (m := m) (mismatch := mismatch) (u := s.takes c m) (b := s.arb) hwas hk)
        (.inr (by cases m.hallFault <;> rfl))
      obtain ⟨hchan, harb, -⟩ := State.sampled_of_applySample hw
      obtain ⟨hst, hmotion, hhold, hrev, href⟩ := (SettlesTo.fields hsettles)
      rw [hchan, harb, hst, hmotion, hhold, hrev]
      refine ⟨?_, Oct.get_set_self _ _ _, State.entryOf_of_drop harb, ?_, ?_, ?_, fun hh => Bool.eq_false_of_not_eq_true fun ht => ?_⟩
      iterate 4 · cases m.hallFault <;> rfl
      · rw [hh] at href
        exact nomatch href ht
    · obtain ⟨w, hw, hsettles⟩ := State.applySample_settles (s := s.heard a m) (n := (s.br.nodes.get a).since)
        (State.sampleCauses_having_frees (m := m) (mismatch := mismatch) (u := s.takes c m) (b := s.arb) hst hwas hk) (.inl rfl)
      obtain ⟨hchan, -⟩ := State.sampled_of_applySample hw
      rw [hchan, (SettlesTo.fields hsettles).1]

end Sys2Proof.Proofs
end

section
/-! A GOOD sample of a channel at rest: the position by a plausible delta, or the counter base alone (01 R9 to R13). -/

namespace Sys2Proof.Machine

open Sys2Proof.Claim

section
variable {s : State} {a : Node} {c : Chan} {m : Sample} {mismatch : Bool}

/-- The record of a channel at rest once a sample's causes stand: an INHIBITED one has taken them, and HALL_FAULT its reference. -/
def recordAtRest (u : ChannelUnit) (k : Causes) (hall : Bool) : ChannelRecord :=
  if u.ctl.st = .inhibited then { u.ctl with causes := k, referenced := u.ctl.referenced && !hall } else u.ctl

/-- A sample that raises no cause on a channel free of them leaves all but the supply context to the counter. -/
theorem State.sampleCauses_of_healthy (h : healthy s c m) :
    State.sampleCauses (s.modSup c (voltageStage s.glob m.volt.toNat)) c m false = s.having c (s.takes c m) s.arb := by
  obtain ⟨hc, hh, ho, hv⟩ := h
  rw [State.voltage_eq_having]
  exact State.sampleCauses_having_healthy hc hh ho hv

/-- What a sample's causes make of a channel that stays free of them, or stays inhibited. -/
theorem State.sampleCauses_at_rest
    (h : (healthy s c m ∧ mismatch = false ∧ ((s.chans.get c).ctl.st = .idle ∨ (s.chans.get c).ctl.st = .waiting)) ∨
      ((s.chans.get c).ctl.st = .inhibited ∧ (s.chans.get c).ctl.causes ≠ noCauses ∧
        causesOfSample (s.takes c m) m mismatch ≠ noCauses)) :
    State.sampleCauses (s.modSup c (voltageStage s.glob m.volt.toNat)) c m mismatch =
      s.having c { s.takes c m with
        ctl := recordAtRest (s.chans.get c) (causesOfSample (s.takes c m) m mismatch) m.hallFault } s.arb := by
  rcases h with ⟨hh, rfl, hst⟩ | ⟨hst, hc, hk⟩
  · have hni : (s.chans.get c).ctl.st ≠ .inhibited := by rcases hst with h | h <;> rw [h] <;> nofun
    rw [State.sampleCauses_of_healthy hh, recordAtRest, if_neg hni]
    rfl
  · rw [State.voltage_eq_having, State.sampleCauses_having_stays (u := s.takes c m) hst hc hk, recordAtRest, if_pos hst]
    cases m.hallFault
    · rw [Bool.not_false, Bool.and_true]; rfl
    · rw [Bool.not_true, Bool.and_false]; rfl

end

end Sys2Proof.Machine

namespace Sys2Proof.Proofs

open Sys2Proof.Machine Sys2Proof.Claim

/-- Settles O45: the causes leave a channel at rest, and the counter then moves it or sets its base. -/
theorem goodSampleMovesThePosition : Obligations.GoodSampleMovesThePosition := by
  intro mismatch s a c content m h hf u supply causes hcase record rests
  have hcauses : State.sampleCauses ((s.heard a m).modSup c (voltageStage (s.heard a m).glob m.volt.toNat)) c m mismatch =
      (s.heard a m).having c { s.takes c m with ctl := record } s.arb := State.sampleCauses_at_rest (s := s.heard a m) hcase
  have hst : record.st = u.ctl.st := by show (if _ then _ else _ : ChannelRecord).st = _; split <;> rfl
  have hbase : record.base = u.ctl.base := by show (if _ then _ else _ : ChannelRecord).base = _; split <;> rfl
  have hpos : record.pos = u.ctl.pos := by show (if _ then _ else _ : ChannelRecord).pos = _; split <;> rfl
  have hmove : inMotion record.st = false := by
    rw [hst]
    rcases hcase with ⟨-, -, h | h⟩ | ⟨h, -⟩ <;> rw [h] <;> rfl
  have sampled {w : ChannelRecord} (hw : State.sampleCounter ((s.heard a m).having c { s.takes c m with ctl := record } s.arb) c m
      (s.br.nodes.get a).since = (s.heard a m).having c { s.takes c m with ctl := w } s.arb) (hwm : inMotion w.st = false) :
      ∃ t, exec (.replySlotEnd a content) s = .next t ∧ rests t ∧ (t.chans.get c).ctl = w := by
    obtain ⟨hchan, harb, hstg, hbr, hframe⟩ := State.sampled_of_applySample (State.applySample_rests hcauses hw hwm)
    refine ⟨_, exec_of_bringsOf h, ⟨?_, ?_, ?_, ?_, hbr, hframe, harb, hstg⟩, ?_⟩ <;> rw [hchan] <;> rfl
  refine ⟨fun o ho hk => sampled ?_ hmove, fun hb => sampled ?_ hmove⟩
  · have hmoved := State.sampleCounter_having_position (s := s.heard a m) (b := s.arb) (u := { s.takes c m with ctl := record }) hf
      (hbase.trans ho) hk fun hc => absurd (hc ▸ hmove : inMotion .closing = false) (by decide)
    dsimp only at hmoved
    rw [hpos] at hmoved
    exact hmoved
  · exact State.sampleCounter_having_first (u := { s.takes c m with ctl := record }) hf (hbase.trans hb)

end Sys2Proof.Proofs
end

section
/-! The pinch engine on a closing sample: entering it, the flat tests, the trip and the peak ratio (02 R33 to R60, 04 R89). -/

namespace Sys2Proof

/-- A unit whose closing sample the supply monitor has counted (06 R126). -/
def ChannelUnit.counted (u : ChannelUnit) : ChannelUnit :=
  { u with sup := { u.sup with strokeMask := if 0 < u.sup.mask then min 1023 (u.sup.strokeMask + 1) else u.sup.strokeMask } }

/-- A unit whose engine has prepared a sample current and handed its entry to the stroke record (02 R36 to R38). -/
def ChannelUnit.entered (u : ChannelUnit) (travel current : Nat) : ChannelUnit :=
  { u with
    eng := Machine.prepare current u.eng
    prof := Machine.ProfileContext.enter u.prof (Machine.binOfPos u.ctl.pos travel) (Machine.effort (Machine.prepare current u.eng))
      (decide (0 < u.eng.blank)) (Machine.maskActive u.sup) }

/-- A unit that has tripped: REVERSING, its escalation raised, its stroke closed, its trip record written, a running teach failed
(02 R57, R58, 04 R89, R90). -/
def ChannelUnit.tripped (u : ChannelUnit) (s : Machine.State) (cs : ChanSettings) (cause : TripCause) (ref margin acc : Nat) :
    ChannelUnit :=
  { u.failed .trip with
    ctl := { u.ctl with st := .reversing, motion := none, hold := none }
    rev := { target := some (min (cs.travel : Int) (u.ctl.pos + cs.reverseDist)), level := min 3 (u.rev.level + 1)
             window := some (s.now + 2000 * cs.escalWindow) }
    eng := { Machine.closeStroke u.eng with
      trip := { cause := some cause, pos := u.ctl.pos, bin := (Machine.binOfPos u.ctl.pos cs.travel).val, f := Machine.effort u.eng
                r := ref, t := margin, a := acc, level := min 3 (u.rev.level + 1), speed := s.ctx.speed
                stamp := s.now / 20 % 65536 }
      tripFlag := true } }

/-- A unit whose peak ratio has taken the candidate of an accumulator value (02 R60). -/
def ChannelUnit.peaked (u : ChannelUnit) (cs : ChanSettings) (acc : Nat) : ChannelUnit :=
  { u with eng := { u.eng with peak := max u.eng.peak (Machine.peakCandidate cs acc) } }

end Sys2Proof

namespace Sys2Proof.Machine

open Sys2Proof.Claim

section
variable {s : State} {c : Chan} {u : ChannelUnit} {b : SlotArbiter}

theorem State.countStage_having (h : u.ctl.st = .closing) : (s.having c u b).countStage c = s.having c u.counted b := by
  unfold State.countStage ChannelUnit.counted
  rw [State.chan_having]
  by_cases hm : 0 < u.sup.mask
  · rw [if_pos ⟨h, decide_eq_true hm⟩, State.modSup, State.modChan_having, if_pos hm]
  · rw [if_neg fun hc => hm (of_decide_eq_true hc.2), if_neg hm]

theorem State.enterSample_having (current : Nat) : (s.having c u b).enterSample c current =
    s.having c (u.entered (s.stg.image.chan.get c).travel current) b := by
  unfold State.enterSample; dsimp only
  rw [State.modEng, State.modProf, State.modChan_having, State.chan_having, State.modChan_having, State.chan_having]
  rfl

theorem State.trip_having (cause : TripCause) (ref margin acc : Nat) : (s.having c u b).trip c cause ref margin acc =
    s.having c (u.tripped s (s.stg.image.chan.get c) cause ref margin acc) b := by
  have htime (n : Nat) : s.inMs (1000 * n) = s.now + 2000 * n := by
    show s.now + 2 * (1000 * n) = _
    omega
  unfold State.trip State.takeTrip; dsimp only
  rw [State.teachFail_having, State.modChan_having, State.chan_having, State.chan_having, State.modEng, State.modChan_having]
  show _ = s.having c { u.failed .trip with
    ctl := { u.ctl with st := .reversing, motion := none, hold := none }, rev := _, eng := _ } b
  rw [← htime]
  rfl

theorem State.peakStep_having (acc : Nat) :
    (s.having c u b).peakStep c acc = s.having c (u.peaked (s.stg.image.chan.get c) acc) b := by
  rw [State.peakStep, State.modEng, State.modChan_having]; rfl

/-! ### The judgement of a closing sample (02 R33 steps 3 to 5) -/

/-- The current has reached the flat limit: HARD_LIMIT, or 800 under CONFIG_FAULT (02 R40, R55). -/
def State.overLimit (s : State) (c : Chan) (m : Sample) : Prop :=
  (if s.stg.configFault = true then 800 else (s.stg.image.chan.get c).hardLimit) ≤ m.current.toNat

/-- Outside SEAL a sample at the flat limit trips HARD, and END of a referenced channel trips STALL; HARD comes first. -/
theorem State.judgeSample_having_trips {m : Sample} {blanked : Bool} {cause : TripCause} (hz : (s.effectiveZone c u.ctl.pos).1 ≠ .seal)
    (h : (s.overLimit c m ∧ cause = .hard) ∨ (¬s.overLimit c m ∧ u.ctl.referenced = true ∧ m.atEnd = true ∧ cause = .stall)) :
    (s.having c u b).judgeSample c m blanked =
      (s.having c (u.tripped s (s.stg.image.chan.get c) cause 0 0 u.eng.acc) b, u.eng.acc) := by
  have hz' : decide (((s.having c u b).effectiveZone c u.ctl.pos).1 = .seal) = false := decide_eq_false hz
  unfold State.judgeSample; dsimp only
  rw [State.chan_having, hz']
  rcases h with ⟨hl, rfl⟩ | ⟨hl, href, he, rfl⟩
  · rw [if_pos ⟨hl, rfl⟩, State.trip_having]
  · rw [if_neg fun hc => hl hc.1, if_pos ⟨href, he, rfl⟩, State.trip_having]

/-- In SEAL the END of a referenced channel is its closed end stop. -/
theorem State.judgeSample_having_closes {m : Sample} {blanked : Bool} (hz : (s.effectiveZone c u.ctl.pos).1 = .seal)
    (href : u.ctl.referenced = true) (he : m.atEnd = true) :
    (s.having c u b).judgeSample c m blanked = ((s.having c u b).closedEndStop c, u.eng.acc) := by
  have hz' : decide (((s.having c u b).effectiveZone c u.ctl.pos).1 = .seal) = true := decide_eq_true hz
  unfold State.judgeSample; dsimp only
  rw [State.chan_having, hz', if_neg (fun hc => nomatch hc.2), if_neg (fun hc => nomatch hc.2.2), if_pos ⟨href, he⟩]

/-- Short of HARD an unreferenced channel is under flat protection, and its sample is judged no further (02 R53). -/
theorem State.judgeSample_having_flat {m : Sample} {blanked : Bool} (hl : ¬s.overLimit c m ∨ (s.effectiveZone c u.ctl.pos).1 = .seal)
    (href : u.ctl.referenced = false) :
    (s.having c u b).judgeSample c m blanked = (s.having c u b, u.eng.acc) := by
  have hflat : (s.having c u b).flatProtection c = true := by
    unfold State.flatProtection
    rw [State.chan_having, href, Bool.not_false, Bool.or_true, Bool.true_or, Bool.true_or, Bool.true_or]
  have hnot : ¬u.ctl.referenced = true := Bool.eq_false_iff.mp href
  unfold State.judgeSample; dsimp only
  rw [State.chan_having, if_neg (fun hc => ?_), if_neg (fun hc => hnot hc.1), if_neg (fun hc => hnot hc.1), hflat,
    if_pos (Bool.or_true _)]
  exact hl.elim (· hc.1) fun hz => of_decide_eq_false hc.2 hz

/-- A closing sample that is entered and judged with no change of the settings unit. -/
theorem State.closingSample_having {m : Sample} {v : ChannelUnit} {acc : Nat}
    (h : ∀ blanked, (s.having c (u.entered (s.stg.image.chan.get c).travel m.current.toNat) b).judgeSample c m blanked =
      (s.having c v b, acc)) :
    (s.having c u b).closingSample c m = s.having c (v.peaked (s.stg.image.chan.get c) acc) b := by
  unfold State.closingSample; dsimp only
  rw [State.enterSample_having, h, State.peakStep_having]

/-! ### What the statements say of it -/

theorem failed_teach (u : ChannelUnit) (why : TeachReason) :
    (u.prof.teach = .running → (u.failed why).prof.teach = .failed why) ∧ (u.prof.teach ≠ .running → (u.failed why).prof = u.prof) :=
  ⟨fun h => by rw [ChannelUnit.failed, if_pos h], fun h => if_neg h⟩

/-- A failed teach leaves the stroke record and the working profile. -/
theorem failed_record (u : ChannelUnit) (why : TeachReason) : (u.failed why).prof.marks = u.prof.marks ∧
    (u.failed why).prof.stroke = u.prof.stroke ∧ (u.failed why).prof.visited = u.prof.visited ∧
    (u.failed why).prof.working = u.prof.working := by
  unfold ChannelUnit.failed; dsimp only; split <;> exact ⟨rfl, rfl, rfl, rfl⟩

theorem peakCandidate_of_pos {cs : ChanSettings} (h : 0 < cs.tripLevel) (acc : Nat) :
    peakCandidate cs acc = min acc cs.tripLevel * 255 / cs.tripLevel := if_neg (by omega)

/-- An entry in the stroke record, and a profile that differs from it in no mark, bin or visited count. -/
theorem strokeTakes_enter {p q : ProfileContext} {x : Fin 64} {f : Nat} {blanked masked : Bool} {leftOut : Prop}
    (hout : leftOut ↔ (blanked || masked) = true) (hmarks : q.marks = (ProfileContext.enter p x f blanked masked).marks)
    (hstroke : q.stroke = (ProfileContext.enter p x f blanked masked).stroke)
    (hvisited : q.visited = (ProfileContext.enter p x f blanked masked).visited) : strokeTakes p q x f leftOut := by
  rw [strokeTakes, hmarks, hstroke, hvisited, hout]
  refine ⟨(ProfileContext.enter_keeps p x f blanked masked).2, fun ho => ?_, fun ho => ?_⟩
  · rw [ProfileContext.enter, if_pos ho]; exact ⟨rfl, rfl⟩
  · rw [ProfileContext.enter, if_neg ho]
    cases hx : p.stroke.get x with
    | none =>
      refine ⟨fun y hy => ?_, fun _ => ⟨?_, fun hv => ?_⟩, nofun⟩
      · exact (Bins.get_set _ _ _ _).trans (if_neg hy)
      · exact (Bins.get_set _ _ _ _).trans (if_pos rfl)
      · exact min_eq_right (by omega)
    | some old =>
      refine ⟨fun y hy => ?_, nofun, fun old' ho => ⟨?_, rfl⟩⟩
      · exact (Bins.get_set _ _ _ _).trans (if_neg hy)
      · rw [← Option.some.inj ho]
        exact (Bins.get_set _ _ _ _).trans (if_pos rfl)

end

end Sys2Proof.Machine
end

section
/-! A closing sample of a channel with a counter base and no cause: the position first, then the engine (01 R9, 02 R33). -/

namespace Sys2Proof.Machine

open Sys2Proof.Claim

section
variable {s : State} {c : Chan} {m : Sample}

/-- The unit whose position a plausible delta has brought to `p` (01 R13). -/
def State.movedTo (s : State) (c : Chan) (m : Sample) (p : Int) : ChannelUnit := ((s.takes c m).rebased m).atPos p

/-- A plausible sample that raises no cause, up to the end tests. -/
theorem State.sampleCounter_movedTo {b : SlotArbiter} {n : Nat} {o : BitVec 12} (hb : (s.chans.get c).ctl.base = some o) (hf : m.freshStart = false)
    (hk : |deltaFrom m o| ≤ (((s.stg.image.chan.get c).edgeMax * n : Nat) : Int))
    (hlow : (s.chans.get c).ctl.st = .closing → -255 ≤ (s.chans.get c).ctl.pos + deltaFrom m o) :
    (s.having c (s.takes c m) b).sampleCounter c m n =
      s.having c (s.movedTo c m (max (-255) (min 4095 ((s.chans.get c).ctl.pos + deltaFrom m o)))) b :=
  State.sampleCounter_having_position (u := s.takes c m) hf hb hk hlow

theorem not_atTarget_of_targetAhead {u : ChannelUnit} {p : Int} (h : targetAhead s c p) (hm : u.ctl.motion = (s.chans.get c).ctl.motion)
    (hp : u.ctl.pos = p) : ¬u.atTarget := by
  rintro ⟨mo, g, hmo, hg, hle⟩
  have := h mo g (hm ▸ hmo) hg
  omega

/-- Short of its target, and not at END unless it is referenced, a CLOSING channel comes to the engine. -/
theorem State.applySample_closing {n : Nat} {w : ChannelUnit} (hh : healthy s c m)
    (hw : (s.having c (s.takes c m) s.arb).sampleCounter c m n = s.having c w s.arb) (hst : w.ctl.st = .closing) (ht : ¬w.atTarget)
    (he : m.atEnd = false ∨ w.ctl.referenced = true) :
    s.applySample c m n false = (s.having c w.counted s.arb).closingSample c m := by
  rw [(State.applySample_of_steps (w := w) (b' := s.arb) (State.sampleCauses_of_healthy hh) ?_).2 hst, State.countStage_having hst]
  rw [hw, (State.endTests_having_closing hst).2.2 ht he]

/-- A closing sample that trips HARD or STALL outside SEAL (02 R54 to R57). -/
theorem State.applySample_trips {n : Nat} {w : ChannelUnit} {cause : TripCause} (hh : healthy s c m)
    (hw : (s.having c (s.takes c m) s.arb).sampleCounter c m n = s.having c w s.arb) (hst : w.ctl.st = .closing) (ht : ¬w.atTarget)
    (he : m.atEnd = false ∨ w.ctl.referenced = true) (hz : (s.effectiveZone c w.ctl.pos).1 ≠ .seal)
    (h : (s.overLimit c m ∧ cause = .hard) ∨ (¬s.overLimit c m ∧ w.ctl.referenced = true ∧ m.atEnd = true ∧ cause = .stall)) :
    s.applySample c m n false = s.having c
      (((w.counted.entered (s.stg.image.chan.get c).travel m.current.toNat).tripped s (s.stg.image.chan.get c) cause 0 0 w.eng.acc).peaked
        (s.stg.image.chan.get c) w.eng.acc) s.arb := by
  rw [State.applySample_closing hh hw hst ht he]
  exact State.closingSample_having (u := w.counted) fun blanked =>
    State.judgeSample_having_trips (u := w.counted.entered (s.stg.image.chan.get c).travel m.current.toNat) hz h

/-- The sample is left out of the stroke record where blanking or the voltage mask stands (03 R74). -/
theorem leftOut_iff {blank mask : Nat} : (0 < blank ∨ 0 < mask) ↔ (decide (0 < blank) || decide (0 < mask)) = true := by
  rw [Bool.or_eq_true, decide_eq_true_iff, decide_eq_true_iff]

theorem State.effectiveZone_configFault (h : s.stg.configFault = true) (p : Int) : s.effectiveZone c p = fallbackZone p := if_pos h

end

end Sys2Proof.Machine

namespace Sys2Proof.Proofs

open Sys2Proof.Machine Sys2Proof.Claim

/-- Settles O53: the position first, then the trip of the entered sample. -/
theorem closingSampleTripsOnHardOrStall : Obligations.ClosingSampleTripsOnHardOrStall := by
  refine ⟨fun s c p => ⟨fun h hp => ?_, fun h hp => ?_, fun h => ?_⟩, ?_⟩
  · rw [State.effectiveZone_configFault h]; exact if_pos hp
  · rw [State.effectiveZone_configFault h]; exact if_neg (not_le.mpr hp)
  · exact if_neg (Bool.eq_false_iff.mp h)
  · intro s a c content m o hbr hh hst hb hf u cs hk hlow p limit ht hz hcase f16
    have hp : max (-255) (min 4095 (u.ctl.pos + deltaFrom m o)) = p := max_eq_right (by show _ ≤ min _ _; omega)
    have hw := State.sampleCounter_movedTo (s := s.heard a m) (c := c) (b := s.arb) (n := (s.br.nodes.get a).since) hb hf hk fun _ => hlow
    rw [show (s.heard a m).chans.get c = u from rfl, hp] at hw
    have htrip := State.applySample_trips (s := s.heard a m) (cause := if limit ≤ m.current.toNat then .hard else .stall) hh hw hst
      (not_atTarget_of_targetAhead (s := s.heard a m) (c := c) (p := p) ht rfl rfl) ?_ hz ?_
    · obtain ⟨hchan, harb, hstg, -, hframe⟩ := State.sampled_of_applySample htrip
      refine ⟨_, exec_of_bringsOf hbr, ?_⟩
      rw [hchan]
      refine ⟨rfl, rfl, rfl, rfl, fun hl => ?_, fun hr => ?_, ?_, rfl, hframe, harb, hstg⟩
      · exact congrArg (max u.eng.peak) (peakCandidate_of_pos hl _)
      · exact (failed_teach _ _).1 ((ProfileContext.enter_keeps u.prof _ _ _ _).1.trans hr)
      · obtain ⟨hmarks, hstroke, hvisited, -⟩ := failed_record ((s.movedTo c m p).counted.entered cs.travel m.current.toNat) .trip
        exact strokeTakes_enter leftOut_iff hmarks hstroke hvisited
    · exact (hcase.imp And.right And.left).elim Or.symm .inr
    · by_cases hl : limit ≤ m.current.toNat
      · exact .inl ⟨hl, if_pos hl⟩
      · obtain ⟨href, he⟩ := hcase.resolve_left fun h => hl h.1
        exact .inr ⟨hl, href, he, if_neg hl⟩

end Sys2Proof.Proofs
end

section
/-! The profile store at a closed end stop: learning, the end of a teach stroke, and the bins that it fills (03 R75 to R83). -/

namespace Sys2Proof.Machine

open Sys2Proof.Claim

/-! ### The bins that a teach stroke fills (03 R82, R83) -/

theorem Bins.toList_eq_map {α : Type} (o : Bins α) : Bins.toList o = (List.finRange 64).map o.get := rfl

section
variable {stroke : Bins (Option Nat)} {b x : Fin 64} {v : Nat}

theorem Bins.length_toList {α : Type} (o : Bins α) : (Bins.toList o).length = 64 := by
  rw [Bins.toList_eq_map, List.length_map, List.length_finRange]

theorem Bins.getElem_toList {α : Type} (o : Bins α) (i : Nat) (h : i < (Bins.toList o).length) :
    (Bins.toList o)[i] = o.get ⟨i, (Bins.length_toList o) ▸ h⟩ := by
  simp [Bins.toList_eq_map]

/-- The bins from `b` up to `x`, if none of them is visited, are passed over. -/
theorem findSome_drop (hbx : b ≤ x) (hx : stroke.get x = some v) (hnone : ∀ y : Fin 64, b ≤ y → y < x → stroke.get y = none) :
    ((Bins.toList stroke).drop b.val).findSome? (fun p => p) = some v := by
  have hlen := Bins.length_toList stroke
  rw [List.findSome?_eq_some_iff]
  refine ⟨((Bins.toList stroke).drop b.val).take (x.val - b.val), some v, (Bins.toList stroke).drop (x.val + 1), ?_, rfl, fun p hp => ?_⟩
  · have hx' : (Bins.toList stroke)[x.val]'(by omega) = some v := (Bins.getElem_toList stroke x.val (by omega)).trans hx
    rw [← hx', ← List.drop_eq_getElem_cons]
    conv_lhs => rw [← List.take_append_drop (x.val - b.val) ((Bins.toList stroke).drop b.val)]
    rw [List.drop_drop, Nat.add_sub_cancel' hbx]
  · obtain ⟨i, hi, rfl⟩ := List.mem_iff_getElem.mp hp
    rw [List.length_take, List.length_drop] at hi
    rw [List.getElem_take, List.getElem_drop, Bins.getElem_toList]
    exact hnone _ (Fin.le_def.mpr (by dsimp only; omega)) (Fin.lt_def.mpr (by dsimp only; omega))

/-- A bin takes the nearest visited one at or above it. -/
theorem filledBin_above (hbx : b ≤ x) (hx : stroke.get x = some v) (hnone : ∀ y : Fin 64, b ≤ y → y < x → stroke.get y = none) :
    filledBin stroke b = v := by
  unfold filledBin; dsimp only
  rw [findSome_drop hbx hx hnone]

/-- Above the highest visited bin its peak stands. -/
theorem filledBin_highest (hxb : x < b) (hx : stroke.get x = some v) (hnone : ∀ y : Fin 64, x < y → stroke.get y = none) :
    filledBin stroke b = v := by
  have hlen := Bins.length_toList stroke
  have habove : ((Bins.toList stroke).drop b.val).findSome? (fun p => p) = none := by
    rw [List.findSome?_eq_none_iff]
    intro p hp
    obtain ⟨i, hi, rfl⟩ := List.mem_iff_getElem.mp hp
    rw [List.length_drop] at hi
    rw [List.getElem_drop, Bins.getElem_toList]
    exact hnone _ (Fin.lt_def.mpr (by have := Fin.lt_def.mp hxb; dsimp only; omega))
  have hhighest : (Bins.toList stroke).reverse.findSome? (fun p => p) = some v := by
    rw [List.findSome?_eq_some_iff]
    refine ⟨((Bins.toList stroke).drop (x.val + 1)).reverse, some v, ((Bins.toList stroke).take x.val).reverse, ?_, rfl, fun p hp => ?_⟩
    · have hx' : (Bins.toList stroke)[x.val]'(by omega) = some v := (Bins.getElem_toList stroke x.val (by omega)).trans hx
      conv_lhs => rw [← List.take_append_drop x.val (Bins.toList stroke), List.drop_eq_getElem_cons (by omega), hx']
      simp
    · obtain ⟨i, hi, rfl⟩ := List.mem_iff_getElem.mp (List.mem_reverse.mp hp)
      rw [List.length_drop] at hi
      rw [List.getElem_drop, Bins.getElem_toList]
      exact hnone _ (Fin.lt_def.mpr (by dsimp only; omega))
  unfold filledBin; dsimp only
  rw [habove, hhighest]; rfl

end

/-! ### What the profile store makes of a closed end stop -/

/-- The learning conditions, from what they read (03 R76). -/
def learnsFrom (g : SettingsUnit) (ctx : ContextUnit) (c : Chan) (p : ProfileContext) (strokeMask : Nat) (k : Int) : Bool :=
  p.marks.openedInRun && decide (|k| ≤ (g.image.chan.get c).driftTol) && decide (strokeMask ≤ g.image.glob.learnMask) &&
  learningPermission g.image.glob ctx && p.marks.escZero && !g.configFault && decide (8 ≤ p.visited)

/-- The profile after the judgement of a stroke for learning (03 R76, R77). -/
def learnedProfile (g : SettingsUnit) (ctx : ContextUnit) (c : Chan) (p : ProfileContext) (strokeMask : Nat) (k : Int) : ProfileContext :=
  if learnsFrom g ctx c p strokeMask k then
    { p with working := Bins.ofFn fun b =>
        learnBin (g.image.chan.get c) ((g.image.baseline.get c).get b) (p.working.get b) (p.stroke.get b) }
  else p

/-- The result of a teach stroke at its closed end stop (03 R82). -/
def teachResult (g : SettingsUnit) (c : Chan) (visited : Nat) (k : Int) : TeachState :=
  if (g.image.chan.get c).driftTol < |k| then .failed .drift else if visited < 8 then .failed .short else .done

/-- The profile after a closed end stop (03 R75, R82). -/
def closedProfile (g : SettingsUnit) (ctx : ContextUnit) (c : Chan) (p : ProfileContext) (strokeMask : Nat) (k : Int) : ProfileContext :=
  if p.marks.teachStroke then
    if p.teach = .running then
      { p with teach := teachResult g c p.visited k, teachVisited := p.visited
               working := if teachResult g c p.visited k = .done then Bins.ofFn fun b => filledBin p.stroke b else p.working }
    else p
  else learnedProfile g ctx c p strokeMask k

/-- The settings unit after a closed end stop: a teach that ends DONE has written its baseline (03 R82). -/
def closedSettings (g : SettingsUnit) (c : Chan) (p : ProfileContext) (k : Int) : SettingsUnit :=
  if p.marks.teachStroke = true ∧ p.teach = .running ∧ teachResult g c p.visited k = .done then
    { g with image := { g.image with baseline := g.image.baseline.set c (Bins.ofFn fun b => filledBin p.stroke b) } }
  else g

section
variable {s : State} {c : Chan} {u : ChannelUnit} {b : SlotArbiter}

theorem State.learn_having (k : Int) : (s.having c u b).learn c k =
    s.having c { u with prof := learnedProfile s.stg s.ctx c u.prof u.sup.strokeMask k } b := by
  have hlearns : (s.having c u b).learns c k = learnsFrom s.stg s.ctx c u.prof u.sup.strokeMask k := by
    unfold State.learns; rw [State.chan_having]; rfl
  unfold State.learn learnedProfile
  rw [hlearns]
  split
  · rw [State.modProf, State.modChan_having]; rfl
  · rfl

theorem State.modImage_having (f : Image → Image) : (s.having c u b).modImage f = (s.modImage f).having c u b := rfl

theorem State.profileClosedEnd_having (k : Int) : (s.having c u b).profileClosedEnd c k =
    State.having { s with stg := closedSettings s.stg c u.prof k } c
      { u with prof := closedProfile s.stg s.ctx c u.prof u.sup.strokeMask k } b := by
  unfold State.profileClosedEnd closedProfile closedSettings; dsimp only
  rw [State.chan_having]
  by_cases hm : u.prof.marks.teachStroke = true
  · rw [if_pos hm, if_pos hm]
    by_cases hr : u.prof.teach = .running
    · rw [if_pos hr, if_pos hr]
      unfold State.teachEnd; dsimp only
      rw [State.chan_having]
      generalize hres : (if (((s.having c u b).cset c).driftTol : Int) < |k| then TeachState.failed .drift
        else if u.prof.visited < 8 then .failed .short else .done) = result
      rw [show teachResult s.stg c u.prof.visited k = result from hres]
      by_cases hd : result = .done
      · rw [if_pos hd, if_pos ⟨hm, hr, hd⟩, if_pos hd]
        rw [State.modProf, State.modChan_having, State.modImage_having, State.copyBaseline, State.modProf, State.modChan_having]
        simp only [State.stg_having, State.stg_modImage, Oct.get_set_self]
        rfl
      · rw [if_neg hd, if_neg fun h => hd h.2.2, if_neg hd, State.modProf, State.modChan_having]
    · rw [if_neg hr, if_neg hr, if_neg fun h => hr h.2.1]
  · rw [if_neg hm, if_neg hm, if_neg fun h => hm h.1, State.learn_having]

/-- A unit that has come to rest at position 0, its escalation cleared in RUN (01 R15, R16, 04 R100). -/
def landed (u : ChannelUnit) (phase : Phase) : ChannelUnit :=
  { ChannelUnit.leave u .idle with
    ctl := { u.ctl with st := .idle, motion := none, hold := none, pos := 0 }
    rev := if phase = .run then { target := none, level := 0, window := none } else { u.rev with target := none } }

/-- A unit with DRIFT latched where `drift` says so (01 R15). -/
def driftLatched (u : ChannelUnit) (drift : Bool) : ChannelUnit :=
  { u with ctl := { u.ctl with latched := { u.ctl.latched with drift := u.ctl.latched.drift || drift } } }

theorem State.reversalClosedEnd_having : (s.having c u b).reversalClosedEnd c =
    s.having c (if s.stg.phase = .run then { u with rev := { u.rev with level := 0, window := none } } else u) b := by
  show (if s.stg.phase = .run then _ else _) = _
  split
  · rw [State.modRev, State.modChan_having]; rfl
  · rfl

theorem phase_closedSettings (g : SettingsUnit) (c : Chan) (p : ProfileContext) (k : Int) : (closedSettings g c p k).phase = g.phase := by
  unfold closedSettings; split <;> rfl

/-- The closed end stop of a referenced channel (01 R15). -/
theorem State.closedEndStop_having : (s.having c u b).closedEndStop c =
    State.having { s with stg := closedSettings s.stg c u.prof u.ctl.pos } c
      { landed (driftLatched u (decide (((s.stg.image.chan.get c).driftTol : Int) < |u.ctl.pos|))) s.stg.phase with
        prof := closedProfile s.stg s.ctx c u.prof u.sup.strokeMask u.ctl.pos } (SlotArbiter.drop b c) := by
  unfold State.closedEndStop; dsimp only
  rw [State.chan_having, State.vacate_having, State.modCtl, State.modChan_having, State.profileClosedEnd_having,
    State.reversalClosedEnd_having]
  unfold landed; dsimp only
  rw [phase_closedSettings]
  split <;> rfl

/-- The end of an unreferenced CLOSING channel (01 R16). -/
theorem State.unreferencedEnd_having : (s.having c u b).unreferencedEnd c =
    s.having c { landed u s.stg.phase with ctl := { (landed u s.stg.phase).ctl with referenced := true } } (SlotArbiter.drop b c) := by
  unfold State.unreferencedEnd
  rw [State.vacate_having, State.modCtl, State.modChan_having, State.reversalClosedEnd_having]
  unfold landed
  split <;> rfl

end

end Sys2Proof.Machine
end

section
/-! The closed end of a CLOSING channel in a sample: referenced in SEAL, and unreferenced (01 R15, R16). -/

namespace Sys2Proof.Machine

open Sys2Proof.Claim

section
variable {s : State} {c : Chan} {m : Sample} {u : ChannelUnit}

/-- A closed end stop leaves the stroke record. -/
theorem closedProfile_record (g : SettingsUnit) (ctx : ContextUnit) (c : Chan) (p : ProfileContext) (strokeMask : Nat) (k : Int) :
    (closedProfile g ctx c p strokeMask k).marks = p.marks ∧ (closedProfile g ctx c p strokeMask k).stroke = p.stroke ∧
    (closedProfile g ctx c p strokeMask k).visited = p.visited := by
  unfold closedProfile learnedProfile
  split <;> split <;> exact ⟨rfl, rfl, rfl⟩

theorem chan_closedSettings (g : SettingsUnit) (c : Chan) (p : ProfileContext) (k : Int) :
    (closedSettings g c p k).image.chan = g.image.chan := by
  unfold closedSettings; split <;> rfl

/-- An entry reaches the stroke record alone. -/
theorem ProfileContext.enter_eq (p : ProfileContext) (x : Fin 64) (f : Nat) (blanked masked : Bool) :
    ProfileContext.enter p x f blanked masked = { p with
      stroke := (ProfileContext.enter p x f blanked masked).stroke
      visited := (ProfileContext.enter p x f blanked masked).visited } := by
  unfold ProfileContext.enter; split
  · rfl
  · split <;> rfl

/-- The unit after the closed end stop of a referenced channel, given the entered sample (01 R15, 02 R60, 03 R75). -/
def State.closedUnit (s : State) (c : Chan) (v : ChannelUnit) (acc : Nat) : ChannelUnit :=
  ChannelUnit.peaked
    { landed (driftLatched v (decide (((s.stg.image.chan.get c).driftTol : Int) < |v.ctl.pos|))) s.stg.phase with
      prof := closedProfile s.stg s.ctx c v.prof v.sup.strokeMask v.ctl.pos }
    (s.stg.image.chan.get c) acc

theorem State.eng_closedUnit {v : ChannelUnit} {acc : Nat} (h : v.ctl.st = .closing) : (s.closedUnit c v acc).eng =
    { v.eng with acc := 0, first := false, blank := 0, peak := max v.eng.peak (peakCandidate (s.stg.image.chan.get c) acc) } := by
  have hleave := ChannelUnit.engLeaving_closing (driftLatched v (decide (((s.stg.image.chan.get c).driftTol : Int) < |v.ctl.pos|))) h
  unfold State.closedUnit ChannelUnit.peaked landed ChannelUnit.leave; dsimp only
  rw [hleave]
  rfl

/-- A closing sample that carries END of a referenced channel in SEAL (02 R33). -/
theorem State.applySample_closes {n : Nat} {w v : ChannelUnit} (hh : healthy s c m)
    (hw : (s.having c (s.takes c m) s.arb).sampleCounter c m n = s.having c w s.arb) (hst : w.ctl.st = .closing) (ht : ¬w.atTarget)
    (href : w.ctl.referenced = true) (he : m.atEnd = true) (hz : (s.effectiveZone c w.ctl.pos).1 = .seal)
    (hv : v = w.counted.entered (s.stg.image.chan.get c).travel m.current.toNat) :
    s.applySample c m n false = State.having { s with stg := closedSettings s.stg c v.prof w.ctl.pos } c
      (s.closedUnit c v w.eng.acc) (SlotArbiter.drop s.arb c) := by
  subst hv
  rw [State.applySample_closing hh hw hst ht (.inr href)]
  unfold State.closingSample; dsimp only
  rw [State.enterSample_having, State.judgeSample_having_closes (u := w.counted.entered _ _) hz href he, State.closedEndStop_having,
    State.peakStep_having]
  unfold State.closedUnit; dsimp only
  rw [chan_closedSettings]
  rfl

/-- A sample that carries END of an unreferenced CLOSING channel short of its target (01 R16). -/
theorem State.applySample_references {n : Nat} {w : ChannelUnit} (hh : healthy s c m)
    (hw : (s.having c (s.takes c m) s.arb).sampleCounter c m n = s.having c w s.arb) (hst : w.ctl.st = .closing) (ht : ¬w.atTarget)
    (href : w.ctl.referenced = false) (he : m.atEnd = true) :
    s.applySample c m n false = s.having c
      { landed w s.stg.phase with ctl := { (landed w s.stg.phase).ctl with referenced := true } } (SlotArbiter.drop s.arb c) := by
  refine (State.applySample_of_steps (State.sampleCauses_of_healthy hh) ?_).1 nofun
  rw [hw, (State.endTests_having_closing hst).2.1 ht he href, State.unreferencedEnd_having]

/-- The unit of a closing sample as the engine has entered it, at the position `p`. -/
def State.enteredAt (s : State) (c : Chan) (m : Sample) (p : Int) : ChannelUnit :=
  (s.movedTo c m p).counted.entered (s.stg.image.chan.get c).travel m.current.toNat

theorem State.prof_enteredAt (s : State) (c : Chan) (m : Sample) (p : Int) : (s.enteredAt c m p).prof =
    { (s.chans.get c).prof with stroke := (s.enteredAt c m p).prof.stroke, visited := (s.enteredAt c m p).prof.visited } :=
  ProfileContext.enter_eq _ _ _ _ _

/-- A teach that fails at its closed end stop (03 R82). -/
theorem closedProfile_teachFails {g : SettingsUnit} {ctx : ContextUnit} {p : ProfileContext} {strokeMask : Nat} {k : Int}
    {result : TeachState} (hm : p.marks.teachStroke = true) (hr : p.teach = .running) (hres : teachResult g c p.visited k = result)
    (hd : result ≠ .done) : closedSettings g c p k = g ∧
      closedProfile g ctx c p strokeMask k = { p with teach := result, teachVisited := p.visited } := by
  subst hres
  refine ⟨if_neg fun h => hd h.2.2, ?_⟩
  unfold closedProfile
  rw [if_pos hm, if_pos hr, if_neg hd]

/-- A teach that ends DONE at its closed end stop (03 R82, R83). -/
theorem closedProfile_teachDone {g : SettingsUnit} {ctx : ContextUnit} {p : ProfileContext} {strokeMask : Nat} {k : Int}
    (hm : p.marks.teachStroke = true) (hr : p.teach = .running) (hres : teachResult g c p.visited k = .done) :
    closedSettings g c p k =
      { g with image := { g.image with baseline := g.image.baseline.set c (Bins.ofFn fun b => filledBin p.stroke b) } } ∧
    closedProfile g ctx c p strokeMask k =
      { p with teach := .done, teachVisited := p.visited, working := Bins.ofFn fun b => filledBin p.stroke b } := by
  refine ⟨if_pos ⟨hm, hr, hres⟩, ?_⟩
  unfold closedProfile
  rw [if_pos hm, if_pos hr, hres, if_pos rfl]

/-- The closed end stop of a channel as it stands. -/
theorem State.closedEndStop_eq (s : State) (c : Chan) :
    (s.closedEndStop c).stg = closedSettings s.stg c (s.chans.get c).prof (s.chans.get c).ctl.pos ∧
    ((s.closedEndStop c).chans.get c).prof =
      closedProfile s.stg s.ctx c (s.chans.get c).prof (s.chans.get c).sup.strokeMask (s.chans.get c).ctl.pos := by
  have h := State.closedEndStop_having (s := s) (c := c) (u := s.chans.get c) (b := s.arb)
  rw [State.having_self] at h
  rw [h, State.chans_having]
  exact ⟨rfl, rfl⟩

theorem State.learn_eq (s : State) (c : Chan) (k : Int) :
    ((s.learn c k).chans.get c).prof = learnedProfile s.stg s.ctx c (s.chans.get c).prof (s.chans.get c).sup.strokeMask k := by
  have h := State.learn_having (s := s) (c := c) (u := s.chans.get c) (b := s.arb) k
  rw [State.having_self] at h
  rw [h, State.chans_having]

end

end Sys2Proof.Machine

namespace Sys2Proof.Proofs

open Sys2Proof.Machine Sys2Proof.Claim

/-- Settles O55: the sample up to the closed end, and the profile store there. -/
theorem closedEndStopsAndReferences : Obligations.ClosedEndStopsAndReferences := by
  refine ⟨fun s a c content m o hbr hh hst hb hf he => ?_, fun s c hst => ?_⟩
  · intro u cs hk hlow p f16 ht
    have hp : max (-255) (min 4095 (u.ctl.pos + deltaFrom m o)) = p := max_eq_right (by show _ ≤ min _ _; omega)
    have hw := State.sampleCounter_movedTo (s := s.heard a m) (c := c) (b := s.arb) (n := (s.br.nodes.get a).since) hb hf hk fun _ => hlow
    rw [show (s.heard a m).chans.get c = u from rfl, hp] at hw
    have hnot : ¬(State.movedTo (s.heard a m) c m p).atTarget :=
      not_atTarget_of_targetAhead (s := s.heard a m) (c := c) (p := p) ht rfl rfl
    refine ⟨_, exec_of_bringsOf hbr, (sampleReach_applySample (s.heard a m) c m _ false).frame, fun href hz => ?_, fun href => ?_⟩
    · obtain ⟨hchan, harb, hstg, -, -⟩ := State.sampled_of_path (State.applySample_closes (s := s.heard a m) hh hw hst hnot href he hz rfl)
      obtain ⟨hmarks, hstroke, hvisited⟩ := closedProfile_record s.stg s.ctx c
        (State.enteredAt (s.heard a m) c m p).prof
        (closingSupply s.stg.image.glob m.volt.toNat u.sup).strokeMask p
      have heng := State.eng_closedUnit (s := s.heard a m) (c := c) (acc := u.eng.acc)
        (v := State.enteredAt (s.heard a m) c m p) hst
      rw [hchan, harb, hstg]
      refine ⟨rfl, rfl, rfl, strokeTakes_enter leftOut_iff hmarks hstroke hvisited, heng.trans ?_, fun hl => ?_, rfl, ?_⟩
      · exact congrArg (fun e : EngineContext => { u.eng with f16 := f16, first := false, acc := 0, blank := 0, peak := e.peak }) heng.symm
      · exact (congrArg EngineContext.peak heng).trans (congrArg (max u.eng.peak) (peakCandidate_of_pos hl _))
      · intro applied
        have hunit : applied.chans.get c = { u with
            ctl := { u.ctl with pos := p }
            prof := (State.enteredAt (s.heard a m) c m p).prof
            sup := closingSupply s.stg.image.glob m.volt.toNat u.sup } := by
          refine (Oct.get_set_self _ _ _).trans ?_
          rw [State.prof_enteredAt (s.heard a m) c m p, ← hstroke, ← hvisited]
          rfl
        obtain ⟨hstg', hprof'⟩ := applied.closedEndStop_eq c
        rw [hstg', hprof', hunit]
        exact ⟨rfl, rfl⟩
    · obtain ⟨hchan, harb, hstg, -, -⟩ := State.sampled_of_applySample (State.applySample_references (s := s.heard a m) hh hw hst hnot href he)
      rw [hchan, harb, hstg]
      exact ⟨rfl, rfl, rfl, rfl, rfl, rfl, rfl⟩
  · obtain ⟨hstg, hprof⟩ := s.closedEndStop_eq c
    intro u t tol ends
    refine ⟨fun hm => ?_, fun hm hr => ?_, fun hm hr => ⟨fun hd => ?_, fun hd hv => ?_, fun hd hv => ?_⟩⟩
    · have hn : ¬u.prof.marks.teachStroke = true := Bool.eq_false_iff.mp hm
      rw [hstg, hprof, State.learn_eq]
      exact ⟨if_neg fun h => hn h.1, if_neg hn⟩
    · rw [hstg, hprof]
      exact ⟨if_neg fun h => hr h.2.1, (if_pos hm).trans (if_neg hr)⟩
    · obtain ⟨hs, hp⟩ := closedProfile_teachFails (c := c) (g := s.stg) hm hr (if_pos hd) nofun
      exact ⟨hstg.trans hs, hprof.trans hp⟩
    · obtain ⟨hs, hp⟩ := closedProfile_teachFails (c := c) (g := s.stg) hm hr ((if_neg (not_lt.mpr hd)).trans (if_pos hv)) nofun
      exact ⟨hstg.trans hs, hprof.trans hp⟩
    · obtain ⟨hs, hp⟩ := closedProfile_teachDone (c := c) (g := s.stg) hm hr ((if_neg (not_lt.mpr hd)).trans (if_neg (not_lt.mpr hv)))
      refine ⟨_, hstg.trans hs, hprof.trans hp, fun b x v hbx hx hnone => ?_, fun b x v hxb hx hnone => ?_⟩
      · exact (Bins.get_ofFn _ _).trans (filledBin_above hbx hx hnone)
      · exact (Bins.get_ofFn _ _).trans (filledBin_highest hxb hx hnone)

end Sys2Proof.Proofs
end

section
/-! What a sample ends on a channel in motion or WAITING: the sample path case by case (01 R11 to R16, 04 R92). -/

namespace Sys2Proof.Machine

open Sys2Proof.Claim

section
variable {s : State} {a : Node} {c : Chan} {m : Sample} {n : Nat} {o : BitVec 12} {w : ChannelUnit} {b : SlotArbiter}

/-! ### The end tests after the counter -/

/-- The sample path of a channel free of causes, up to the end tests. -/
theorem State.applySample_of_counter {v : ChannelUnit} {b' : SlotArbiter} (hh : healthy s c m)
    (hw : (s.having c (s.takes c m) s.arb).sampleCounter c m n = s.having c w b)
    (he : (s.having c w b).endTests c m.atEnd (s.chans.get c).ctl.pos = s.having c v b') (hst : v.ctl.st ≠ .closing) :
    s.applySample c m n false = s.having c v b' :=
  (State.applySample_of_steps (State.sampleCauses_of_healthy hh) (by rw [hw, he])).1 hst

/-- The counter leaves the channel neither in motion nor at an end test. -/
theorem State.applySample_of_rest (hh : healthy s c m) (hw : (s.having c (s.takes c m) s.arb).sampleCounter c m n = s.having c w b)
    (hst : inMotion w.ctl.st = false) : s.applySample c m n false = s.having c w b :=
  State.applySample_rests (State.sampleCauses_of_healthy hh) hw hst

theorem State.applySample_opening (hh : healthy s c m) (hw : (s.having c (s.takes c m) s.arb).sampleCounter c m n = s.having c w s.arb)
    (hst : w.ctl.st = .opening) :
    (w.opened (s.stg.image.chan.get c).travel m.atEnd →
      s.applySample c m n false = s.having c (ChannelUnit.leave w .idle) (SlotArbiter.drop s.arb c)) ∧
    (¬w.opened (s.stg.image.chan.get c).travel m.atEnd → s.applySample c m n false = s.having c w s.arb) := by
  obtain ⟨hends, hgoes⟩ := State.endTests_having_opening (s := s) (c := c) (b := s.arb) (atEnd := m.atEnd)
    (before := (s.chans.get c).ctl.pos) hst
  exact ⟨fun h => State.applySample_of_counter hh hw (hends h) nofun,
    fun h => State.applySample_of_counter hh hw (hgoes h) (by rw [hst]; nofun)⟩

theorem State.applySample_reversing (hh : healthy s c m) (hw : (s.having c (s.takes c m) s.arb).sampleCounter c m n = s.having c w s.arb)
    (hst : w.ctl.st = .reversing) :
    (w.reversed (s.chans.get c).ctl.pos m.atEnd →
      s.applySample c m n false = s.having c (ChannelUnit.leave w .idle) (SlotArbiter.drop s.arb c)) ∧
    (¬w.reversed (s.chans.get c).ctl.pos m.atEnd → s.applySample c m n false = s.having c w s.arb) := by
  obtain ⟨hends, hgoes⟩ := State.endTests_having_reversing (s := s) (c := c) (b := s.arb) (atEnd := m.atEnd)
    (before := (s.chans.get c).ctl.pos) hst
  exact ⟨fun h => State.applySample_of_counter hh hw (hends h) nofun,
    fun h => State.applySample_of_counter hh hw (hgoes h) (by rw [hst]; nofun)⟩

theorem State.applySample_atTarget (hh : healthy s c m) (hw : (s.having c (s.takes c m) s.arb).sampleCounter c m n = s.having c w s.arb)
    (hst : w.ctl.st = .closing) (ht : w.atTarget) :
    s.applySample c m n false = s.having c (ChannelUnit.leave w .idle) (SlotArbiter.drop s.arb c) :=
  State.applySample_of_counter hh hw ((State.endTests_having_closing hst).1 ht) nofun

/-- Short of HARD an unreferenced CLOSING channel goes on under flat protection (02 R53, log 34). -/
theorem State.applySample_flat (hh : healthy s c m) (hw : (s.having c (s.takes c m) s.arb).sampleCounter c m n = s.having c w s.arb)
    (hst : w.ctl.st = .closing) (ht : ¬w.atTarget) (he : m.atEnd = false) (href : w.ctl.referenced = false)
    (hl : ¬s.overLimit c m ∨ (s.effectiveZone c w.ctl.pos).1 = .seal) :
    s.applySample c m n false = s.having c
      ((w.counted.entered (s.stg.image.chan.get c).travel m.current.toNat).peaked (s.stg.image.chan.get c) w.eng.acc) s.arb := by
  rw [State.applySample_closing hh hw hst ht (.inl he)]
  exact State.closingSample_having (u := w.counted) fun blanked =>
    State.judgeSample_having_flat (u := w.counted.entered (s.stg.image.chan.get c).travel m.current.toNat) hl href

/-! ### What the counter ends -/

/-- An implausible delta stops a channel in motion unreferenced (01 R11). -/
theorem State.sampleCounter_stops (hb : (s.chans.get c).ctl.base = some o) (hf : m.freshStart = false)
    (hk : (((s.stg.image.chan.get c).edgeMax * n : Nat) : Int) < |deltaFrom m o|) (hm : moves s c) :
    (s.having c (s.takes c m) s.arb).sampleCounter c m n =
      s.having c ((s.takes c m).rebased m).driftStopped.unreferenced (SlotArbiter.drop s.arb c) := by
  rw [State.sampleCounter_having_implausible (u := s.takes c m) hf hb hk,
    State.driftStop_having_moves (u := (s.takes c m).rebased m) ((inMotion_iff _).mpr hm)]
  exact State.loseReference_having_rests (.inl rfl)

/-- An implausible delta of a channel that is not in motion takes its reference (01 R11, R7). -/
theorem State.sampleCounter_implausible_rests (hb : (s.chans.get c).ctl.base = some o) (hf : m.freshStart = false)
    (hk : (((s.stg.image.chan.get c).edgeMax * n : Nat) : Int) < |deltaFrom m o|)
    (hst : (s.chans.get c).ctl.st = .idle ∨ (s.chans.get c).ctl.st = .waiting) :
    (s.having c (s.takes c m) s.arb).sampleCounter c m n = (s.having c ((s.takes c m).rebased m) s.arb).loseReference c := by
  have hmove : inMotion ((s.takes c m).rebased m).ctl.st = false := by
    show inMotion (s.chans.get c).ctl.st = false
    rcases hst with h | h <;> rw [h] <;> rfl
  rw [State.sampleCounter_having_implausible (u := s.takes c m) hf hb hk, State.driftStop_having_rests hmove]

/-- Overtravel stops a CLOSING channel unreferenced at -255 (01 R13). -/
theorem State.sampleCounter_overtravel (hb : (s.chans.get c).ctl.base = some o) (hf : m.freshStart = false)
    (hk : |deltaFrom m o| ≤ (((s.stg.image.chan.get c).edgeMax * n : Nat) : Int)) (hst : (s.chans.get c).ctl.st = .closing)
    (hlow : (s.chans.get c).ctl.pos + deltaFrom m o < -255) :
    (s.having c (s.takes c m) s.arb).sampleCounter c m n =
      s.having c (s.movedTo c m (-255)).driftStopped.unreferenced (SlotArbiter.drop s.arb c) := by
  rw [State.sampleCounter_having_moved (u := s.takes c m) hf hb hk]
  exact State.movePosition_having_overtravel hst hlow

theorem State.carries_rebased {mo : Motion} (h : carries s c mo) :
    ChannelUnit.carries ((s.takes c m).rebased m) (s.arb.motionOf c) = some mo := (s.carried_eq_some c mo).mpr h

theorem needsReference_iff (mo : Motion) : needsReference mo = true ↔ mo.origin = .latched ∨ mo.cls ≠ .user := by
  rw [needsReference, Bool.or_eq_true, decide_eq_true_iff, decide_eq_true_iff]

/-- The reference of a channel that carries a motion or entry other than a held USER one takes that with it (01 R8). -/
theorem State.loseReference_rebased_ends {mo : Motion} (hc : carries s c mo) (href : (s.chans.get c).ctl.referenced = true)
    (hn : mo.origin = .latched ∨ mo.cls ≠ .user) :
    (s.having c ((s.takes c m).rebased m) s.arb).loseReference c =
      s.having c (((s.takes c m).rebased m).unreferenced.driftStopped.refused .unreferenced) (SlotArbiter.drop s.arb c) :=
  State.loseReference_having_ends (u := (s.takes c m).rebased m) href (State.carries_rebased hc) ((needsReference_iff mo).mpr hn)

/-- A held USER motion or entry, or one that has lost its reference already, goes on (01 R8). -/
theorem State.loseReference_rebased_keeps {mo : Motion} (hc : carries s c mo)
    (hn : (s.chans.get c).ctl.referenced = false ∨ (mo.origin = .held ∧ mo.cls = .user)) :
    (s.having c ((s.takes c m).rebased m) s.arb).loseReference c = s.having c ((s.takes c m).rebased m).unreferenced s.arb := by
  refine State.loseReference_having_keeps (u := (s.takes c m).rebased m) fun href mo' hmo => Bool.eq_false_of_not_eq_true fun hneeds => ?_
  obtain rfl : mo = mo' := Option.some.inj ((State.carries_rebased hc).symm.trans hmo)
  rcases hn with hn | ⟨ho, hu⟩
  · exact absurd href (Bool.eq_false_iff.mp hn)
  · rcases (needsReference_iff mo).mp hneeds with h | h
    · rw [ho] at h; exact nomatch h
    · exact h hu

theorem State.sampleCounter_fresh_moves (hf : m.freshStart = true) (hm : moves s c) :
    (s.having c (s.takes c m) s.arb).sampleCounter c m n = (s.having c ((s.takes c m).rebased m) s.arb).loseReference c :=
  State.sampleCounter_having_fresh_moves (u := s.takes c m) hf ((inMotion_iff _).mpr hm)

/-! ### What the row leaves -/

/-- The channel has stopped in IDLE with the record `r`, its slot and entry gone and its stroke closed (01 R26, 02 R32). -/
def StopsWith (s t : State) (c : Chan) (m : Sample) (r : ChannelRecord) : Prop :=
  (t.chans.get c).ctl = { r with st := .idle, motion := none, hold := none } ∧
  t.arb.slots = s.arb.slots.set c false ∧ t.entryOf c = none ∧ (t.chans.get c).rev = { (s.chans.get c).rev with target := none } ∧
  (t.chans.get c).eng = (stopped (s.chans.get c) .idle).eng ∧ (t.chans.get c).sup = (s.takes c m).sup ∧ sampleFrame s t c ∧
  t.stg = s.stg

/-- The channel goes on with the record `r`. -/
def GoesOnWith (s t : State) (c : Chan) (m : Sample) (r : ChannelRecord) : Prop :=
  (t.chans.get c).ctl = r ∧ t.arb = s.arb ∧ (t.chans.get c).rev = (s.chans.get c).rev ∧ (t.chans.get c).eng = (s.chans.get c).eng ∧
  (t.chans.get c).prof = (s.chans.get c).prof ∧ (t.chans.get c).sup = (s.takes c m).sup ∧ sampleFrame s t c ∧ t.stg = s.stg

theorem goesOnWith_of_path {r : ChannelRecord}
    (h : (s.heard a m).applySample c m (s.br.nodes.get a).since false = (s.heard a m).having c { s.takes c m with ctl := r } s.arb) :
    GoesOnWith s (s.sampled a c m false) c m r := by
  obtain ⟨hchan, harb, hstg, -, hframe⟩ := State.sampled_of_applySample h
  unfold GoesOnWith; rw [hchan]
  exact ⟨rfl, harb, rfl, rfl, rfl, rfl, hframe, hstg⟩

theorem stopsWith_of_path {r : ChannelRecord} {p : ProfileContext}
    (h : (s.heard a m).applySample c m (s.br.nodes.get a).since false = (s.heard a m).having c
      { ChannelUnit.leave (s.takes c m) .idle with ctl := { r with st := .idle, motion := none, hold := none }, prof := p }
      (SlotArbiter.drop s.arb c)) :
    StopsWith s (s.sampled a c m false) c m r ∧ ((s.sampled a c m false).chans.get c).prof = p := by
  obtain ⟨hchan, harb, hstg, -, hframe⟩ := State.sampled_of_applySample h
  unfold StopsWith; rw [hchan, harb]
  exact ⟨⟨rfl, rfl, State.entryOf_of_drop harb, rfl, rfl, rfl, hframe, hstg⟩, rfl⟩

end

end Sys2Proof.Machine
end

section
/-! What a sample ends: the cases of the statement, one by one (01 R9 to R16). -/

namespace Sys2Proof.Machine

open Sys2Proof.Claim

section
variable {s : State} {a : Node} {c : Chan} {m : Sample} {o : BitVec 12}

/-- The record of the channel once the counter base is that of the sample. -/
def basedRecord (s : State) (c : Chan) (m : Sample) : ChannelRecord := { (s.chans.get c).ctl with base := some m.counter }

/-- The profile of the channel once a running teach has failed with DRIFT. -/
def driftedProfile (u : ChannelUnit) : ProfileContext :=
  if u.prof.teach = .running then
    { u.prof with teach := .failed .drift, teachVisited := if u.ctl.st = .closing then u.prof.visited else 0 }
  else u.prof

/-- The row stops the channel with the record `r`, and a running teach fails with DRIFT. -/
def DriftsWith (s t : State) (c : Chan) (m : Sample) (r : ChannelRecord) : Prop :=
  StopsWith s t c m r ∧ (t.chans.get c).prof = driftedProfile (s.chans.get c)

/-! ### Implausible deltas and overtravel (01 R11, R13) -/

theorem sampled_implausible_moves (hh : healthy s c m) (hb : (s.chans.get c).ctl.base = some o) (hf : m.freshStart = false)
    (hk : edgeBound s a c < |deltaFrom m o|) (hm : moves s c) :
    DriftsWith s (s.sampled a c m false) c m { basedRecord s c m with referenced := false } :=
  stopsWith_of_path (State.applySample_of_rest (s := s.heard a m) hh (State.sampleCounter_stops (s := s.heard a m) hb hf hk hm) rfl)

theorem sampled_implausible_idle (hh : healthy s c m) (hb : (s.chans.get c).ctl.base = some o) (hf : m.freshStart = false)
    (hk : edgeBound s a c < |deltaFrom m o|) (hst : (s.chans.get c).ctl.st = .idle) :
    GoesOnWith s (s.sampled a c m false) c m { basedRecord s c m with referenced := false } := by
  have hcounter := State.sampleCounter_implausible_rests (s := s.heard a m) hb hf hk (.inl hst)
  rw [State.loseReference_having_rests (u := (State.takes (s.heard a m) c m).rebased m) (.inl hst)] at hcounter
  exact goesOnWith_of_path (State.applySample_of_rest (s := s.heard a m) hh hcounter (by
    show inMotion (s.chans.get c).ctl.st = false
    rw [hst]; rfl))

theorem sampled_overtravel (hh : healthy s c m) (hb : (s.chans.get c).ctl.base = some o) (hf : m.freshStart = false)
    (hk : |deltaFrom m o| ≤ edgeBound s a c) (hst : (s.chans.get c).ctl.st = .closing)
    (hlow : (s.chans.get c).ctl.pos + deltaFrom m o < -255) :
    DriftsWith s (s.sampled a c m false) c m { basedRecord s c m with pos := -255, referenced := false } :=
  stopsWith_of_path (State.applySample_of_rest (s := s.heard a m) hh
    (State.sampleCounter_overtravel (s := s.heard a m) hb hf hk hst hlow) rfl)

/-! ### The reference lost (01 R7, R8, R12) -/

/-- The record of a channel whose motion or entry ends with its reference. -/
def refusedRecord (s : State) (c : Chan) (m : Sample) : ChannelRecord :=
  { basedRecord s c m with
    referenced := false, refusal := some .unreferenced
    latched := { (s.chans.get c).ctl.latched with orderRefused := true } }

theorem sampled_fresh_ends {mo : Motion} (hh : healthy s c m) (hf : m.freshStart = true)
    (hst : (s.chans.get c).ctl.st = .opening ∨ (s.chans.get c).ctl.st = .closing) (href : (s.chans.get c).ctl.referenced = true)
    (hmo : (s.chans.get c).ctl.motion = some mo) (hn : mo.origin = .latched ∨ mo.cls ≠ .user) :
    DriftsWith s (s.sampled a c m false) c m (refusedRecord s c m) := by
  have hcounter := (State.sampleCounter_fresh_moves (s := s.heard a m) (n := (s.br.nodes.get a).since) hf
    (hst.imp_right .inl)).trans (State.loseReference_rebased_ends (s := s.heard a m) (.inr ⟨hst, hmo⟩) href hn)
  exact stopsWith_of_path (State.applySample_of_rest (s := s.heard a m) hh hcounter rfl)

theorem sampled_implausible_waiting {mo : Motion} (hh : healthy s c m) (hb : (s.chans.get c).ctl.base = some o)
    (hf : m.freshStart = false) (hk : edgeBound s a c < |deltaFrom m o|) (hst : (s.chans.get c).ctl.st = .waiting)
    (hc : carries s c mo) :
    ((s.chans.get c).ctl.referenced = true → mo.origin = .latched ∨ mo.cls ≠ .user →
      DriftsWith s (s.sampled a c m false) c m (refusedRecord s c m)) ∧
    ((s.chans.get c).ctl.referenced = false ∨ (mo.origin = .held ∧ mo.cls = .user) →
      GoesOnWith s (s.sampled a c m false) c m { basedRecord s c m with referenced := false }) := by
  have hcounter := State.sampleCounter_implausible_rests (s := s.heard a m) hb hf hk (.inr hst)
  refine ⟨fun href hn => ?_, fun hn => ?_⟩
  · rw [State.loseReference_rebased_ends (s := s.heard a m) hc href hn] at hcounter
    exact stopsWith_of_path (State.applySample_of_rest (s := s.heard a m) hh hcounter rfl)
  · rw [State.loseReference_rebased_keeps (s := s.heard a m) hc hn] at hcounter
    exact goesOnWith_of_path (State.applySample_of_rest (s := s.heard a m) hh hcounter (by
      show inMotion (s.chans.get c).ctl.st = false
      rw [hst]; rfl))

/-- FRESH_START of a channel under a held USER motion takes the reference and no more. -/
theorem sampleCounter_fresh_held {mo : Motion} {n : Nat} (hf : m.freshStart = true)
    (hst : (s.chans.get c).ctl.st = .opening ∨ (s.chans.get c).ctl.st = .closing)
    (hmo : (s.chans.get c).ctl.motion = some mo) (ho : mo.origin = .held) (hu : mo.cls = .user) :
    (s.having c (s.takes c m) s.arb).sampleCounter c m n = s.having c ((s.takes c m).rebased m).unreferenced s.arb :=
  (State.sampleCounter_fresh_moves hf (hst.imp_right .inl)).trans
    (State.loseReference_rebased_keeps (.inr ⟨hst, hmo⟩) (.inr ⟨ho, hu⟩))

/-- An OPENING channel short of its ends is at no end test. -/
theorem not_opened {w : ChannelUnit} {travel : Nat} {mo : Motion} (hmo : w.ctl.motion = some mo)
    (hnone : mo.target = none → w.ctl.referenced = false ∨ w.ctl.pos < travel) (hsome : ∀ g, mo.target = some g → w.ctl.pos < g) :
    ¬w.opened travel false := by
  have htarget : w.ctl.motion.bind Motion.target = mo.target := by rw [hmo]; rfl
  unfold ChannelUnit.opened
  rw [htarget]
  rintro (h | h)
  · exact nomatch h
  · cases ht : mo.target with
    | none =>
      rw [ht] at h
      obtain ⟨href, hle⟩ := h
      rcases hnone ht with h | h
      · rw [h] at href; exact nomatch href
      · omega
    | some g =>
      rw [ht] at h
      exact absurd (hsome g ht) (not_lt.mpr h)

theorem sampled_fresh_opening {mo : Motion} (hh : healthy s c m) (hf : m.freshStart = true)
    (hst : (s.chans.get c).ctl.st = .opening) (hmo : (s.chans.get c).ctl.motion = some mo) (ho : mo.origin = .held)
    (hu : mo.cls = .user) (ht : ∀ g, mo.target = some g → (s.chans.get c).ctl.pos < g) (he : m.atEnd = false) :
    GoesOnWith s (s.sampled a c m false) c m { basedRecord s c m with referenced := false } := by
  have hcounter := sampleCounter_fresh_held (s := s.heard a m) (n := (s.br.nodes.get a).since) hf (.inl hst) hmo ho hu
  refine goesOnWith_of_path ((State.applySample_opening (s := s.heard a m) hh hcounter hst).2 ?_)
  rw [he]
  exact not_opened (w := ((State.takes (s.heard a m) c m).rebased m).unreferenced) hmo (fun _ => .inl rfl) ht

theorem sampled_fresh_reversing {g : Int} (hh : healthy s c m) (hf : m.freshStart = true)
    (hst : (s.chans.get c).ctl.st = .reversing) (hg : (s.chans.get c).rev.target = some g) :
    (m.atEnd = true ∨ g ≤ (s.chans.get c).ctl.pos →
      StopsWith s (s.sampled a c m false) c m { basedRecord s c m with referenced := false }) ∧
    (m.atEnd = false → (s.chans.get c).ctl.pos < g →
      GoesOnWith s (s.sampled a c m false) c m { basedRecord s c m with referenced := false }) := by
  have hcounter := (State.sampleCounter_fresh_moves (s := s.heard a m) (n := (s.br.nodes.get a).since) hf (.inr (.inr hst))).trans
    (State.loseReference_having_rests (.inr (.inr hst)))
  obtain ⟨hends, hgoes⟩ := State.applySample_reversing (s := s.heard a m) hh hcounter hst
  refine ⟨fun h => (stopsWith_of_path (hends (h.imp_right fun h => ⟨g, hg, .inl h⟩))).1, fun he hp => goesOnWith_of_path (hgoes ?_)⟩
  rintro (h | ⟨g', hg', h⟩)
  · rw [he] at h; exact nomatch h
  · obtain rfl : g = g' := Option.some.inj (hg.symm.trans hg')
    exact absurd hp (not_lt.mpr (h.elim id id))

theorem sampled_fresh_rests (hh : healthy s c m) (hf : m.freshStart = true)
    (hst : (s.chans.get c).ctl.st = .idle ∨ (s.chans.get c).ctl.st = .waiting) :
    GoesOnWith s (s.sampled a c m false) c m (basedRecord s c m) := by
  have hmove : inMotion (s.chans.get c).ctl.st = false := by rcases hst with h | h <;> rw [h] <;> rfl
  exact goesOnWith_of_path (State.applySample_of_rest (s := s.heard a m) hh
    (State.sampleCounter_having_fresh_rests (u := State.takes (s.heard a m) c m) hf hmove) hmove)

/-! ### A held USER close without its reference (01 R8, R16, 02 R53, log 34) -/

section
variable {mo : Motion} (hh : healthy s c m) (hf : m.freshStart = true) (hst : (s.chans.get c).ctl.st = .closing)
  (hmo : (s.chans.get c).ctl.motion = some mo) (ho : mo.origin = .held) (hu : mo.cls = .user)
  (ht : targetAhead s c (s.chans.get c).ctl.pos)
include hh hf hst hmo ho hu ht

theorem sampled_fresh_closing_end (he : m.atEnd = true) : let t := s.sampled a c m false
    (t.chans.get c).ctl = { basedRecord s c m with st := .idle, motion := none, hold := none, pos := 0, referenced := true } ∧
    t.arb.slots = s.arb.slots.set c false ∧ (t.chans.get c).prof = (s.chans.get c).prof ∧
    (t.chans.get c).sup = (s.takes c m).sup ∧
    (t.chans.get c).rev = if s.stg.phase = .run then { target := none, level := 0, window := none }
      else { (s.chans.get c).rev with target := none } := by
  have hcounter := sampleCounter_fresh_held (s := s.heard a m) (n := (s.br.nodes.get a).since) hf (.inr hst) hmo ho hu
  obtain ⟨hchan, harb, -⟩ := State.sampled_of_applySample (State.applySample_references (s := s.heard a m) hh hcounter hst
    (not_atTarget_of_targetAhead (s := s.heard a m) ht rfl rfl) rfl he)
  dsimp only
  rw [hchan, harb]
  exact ⟨rfl, rfl, rfl, rfl, rfl⟩

theorem sampled_fresh_closing_trips (he : m.atEnd = false) (hl : s.overLimit c m)
    (hz : (s.effectiveZone c (s.chans.get c).ctl.pos).1 ≠ .seal) : let t := s.sampled a c m false
    (t.chans.get c).ctl = { basedRecord s c m with referenced := false, st := .reversing, motion := none, hold := none } ∧
    (t.chans.get c).eng.trip.cause = some .hard ∧ (t.chans.get c).rev.level = min 3 ((s.chans.get c).rev.level + 1) ∧
    (t.chans.get c).sup = closingSupply s.stg.image.glob m.volt.toNat (s.chans.get c).sup ∧ t.arb = s.arb ∧ sampleFrame s t c ∧
    t.stg = s.stg := by
  have hcounter := sampleCounter_fresh_held (s := s.heard a m) (n := (s.br.nodes.get a).since) hf (.inr hst) hmo ho hu
  obtain ⟨hchan, harb, hstg, -, hframe⟩ := State.sampled_of_applySample (State.applySample_trips (s := s.heard a m) (cause := .hard) hh
    hcounter hst (not_atTarget_of_targetAhead (s := s.heard a m) ht rfl rfl) (.inl he) hz (.inl ⟨hl, rfl⟩))
  dsimp only
  rw [hchan]
  exact ⟨rfl, rfl, rfl, rfl, harb, hframe, hstg⟩

theorem sampled_fresh_closing_goes_on (he : m.atEnd = false)
    (hl : ¬s.overLimit c m ∨ (s.effectiveZone c (s.chans.get c).ctl.pos).1 = .seal)
    (hlevel : 0 < (s.stg.image.chan.get c).tripLevel) : let t := s.sampled a c m false
    let u := s.chans.get c
    let f16 := filterStep u.eng.first u.eng.f16 m.current.toNat
    (t.chans.get c).ctl = { basedRecord s c m with referenced := false } ∧ (t.chans.get c).rev = u.rev ∧ t.arb = s.arb ∧
    (t.chans.get c).eng = { u.eng with
      f16 := f16, first := false, blank := u.eng.blank - 1, peak := peakAfter u (s.stg.image.chan.get c) u.eng.acc } ∧
    strokeTakes u.prof (t.chans.get c).prof (binOfPos u.ctl.pos (s.stg.image.chan.get c).travel) (f16 / 16)
      (0 < u.eng.blank ∨ 0 < (s.takes c m).sup.mask) ∧
    (t.chans.get c).prof.working = u.prof.working ∧
    (t.chans.get c).sup = closingSupply s.stg.image.glob m.volt.toNat u.sup ∧ sampleFrame s t c ∧ t.stg = s.stg := by
  have hcounter := sampleCounter_fresh_held (s := s.heard a m) (n := (s.br.nodes.get a).since) hf (.inr hst) hmo ho hu
  obtain ⟨hchan, harb, hstg, -, hframe⟩ := State.sampled_of_applySample (State.applySample_flat (s := s.heard a m) hh hcounter hst
    (not_atTarget_of_targetAhead (s := s.heard a m) ht rfl rfl) he rfl hl)
  intro t u f16
  rw [hchan]
  refine ⟨rfl, rfl, harb, ?_, strokeTakes_enter leftOut_iff rfl rfl rfl, ?_, rfl, hframe, hstg⟩
  · exact congrArg (fun n => { u.eng with f16 := f16, first := false, blank := u.eng.blank - 1, peak := max u.eng.peak n })
      (peakCandidate_of_pos hlevel u.eng.acc)
  · show (ProfileContext.enter u.prof _ _ _ _).working = u.prof.working
    rw [ProfileContext.enter_eq]

end

/-! ### Plausible deltas at the ends of a motion (01 R14, 04 R92) -/

section
variable (hh : healthy s c m) (hb : (s.chans.get c).ctl.base = some o) (hf : m.freshStart = false)
  (hk : |deltaFrom m o| ≤ edgeBound s a c)
include hh hb hf hk

/-- An OPENING channel stops at END, at its target, or with a reference and no target at the travel. -/
theorem sampled_opening {mo : Motion} {p : Int} (hp : p = max (-255) (min 4095 ((s.chans.get c).ctl.pos + deltaFrom m o)))
    (hst : (s.chans.get c).ctl.st = .opening) (hmo : (s.chans.get c).ctl.motion = some mo) :
    (mo.target = none →
      (m.atEnd = true ∨ ((s.chans.get c).ctl.referenced = true ∧ ((s.stg.image.chan.get c).travel : Int) ≤ p) →
        StopsWith s (s.sampled a c m false) c m { basedRecord s c m with pos := p }) ∧
      (m.atEnd = false → (s.chans.get c).ctl.referenced = false ∨ p < (s.stg.image.chan.get c).travel →
        GoesOnWith s (s.sampled a c m false) c m { basedRecord s c m with pos := p })) ∧
    (∀ g, mo.target = some g →
      (m.atEnd = true ∨ g ≤ p → StopsWith s (s.sampled a c m false) c m { basedRecord s c m with pos := p }) ∧
      (m.atEnd = false → p < g → GoesOnWith s (s.sampled a c m false) c m { basedRecord s c m with pos := p })) := by
  have hcounter := State.sampleCounter_movedTo (s := s.heard a m) (b := s.arb) (n := (s.br.nodes.get a).since) hb hf hk
    fun hc => absurd (hst.symm.trans hc) nofun
  rw [← show p = max (-255) (min 4095 (((s.heard a m).chans.get c).ctl.pos + deltaFrom m o)) from hp] at hcounter
  obtain ⟨hends, hgoes⟩ := State.applySample_opening (s := s.heard a m) hh hcounter hst
  have htarget : (s.chans.get c).ctl.motion.bind Motion.target = mo.target := by rw [hmo]; rfl
  have stops (h : m.atEnd = true ∨
      mo.target.elim ((s.chans.get c).ctl.referenced = true ∧ ((s.stg.image.chan.get c).travel : Int) ≤ p) (· ≤ p)) :
      StopsWith s (s.sampled a c m false) c m { basedRecord s c m with pos := p } :=
    (stopsWith_of_path (hends (by rw [← htarget] at h; exact h))).1
  have goesOn (he : m.atEnd = false) (hnone : mo.target = none → (s.chans.get c).ctl.referenced = false ∨
        p < (s.stg.image.chan.get c).travel) (hsome : ∀ g, mo.target = some g → p < g) :
      GoesOnWith s (s.sampled a c m false) c m { basedRecord s c m with pos := p } :=
    goesOnWith_of_path (hgoes (by rw [he]; exact not_opened (w := State.movedTo (s.heard a m) c m p) hmo hnone hsome))
  refine ⟨fun hn => ⟨fun h => stops (by rw [hn]; exact h), fun he h => goesOn he (fun _ => h) fun g hg => ?_⟩,
    fun g hg => ⟨fun h => stops (by rw [hg]; exact h), fun he h => goesOn he (fun hn => ?_) fun g' hg' => ?_⟩⟩
  · rw [hn] at hg; exact nomatch hg
  · rw [hn] at hg; exact nomatch hg
  · rw [← Option.some.inj (hg.symm.trans hg')]; exact h

theorem sampled_atTarget {mo : Motion} {g p : Int} (hp : p = max (-255) (min 4095 ((s.chans.get c).ctl.pos + deltaFrom m o)))
    (hst : (s.chans.get c).ctl.st = .closing) (hmo : (s.chans.get c).ctl.motion = some mo) (hg : mo.target = some g) (hle : p ≤ g)
    (hlow : -255 ≤ (s.chans.get c).ctl.pos + deltaFrom m o) :
    StopsWith s (s.sampled a c m false) c m { basedRecord s c m with pos := p } := by
  have hcounter := State.sampleCounter_movedTo (s := s.heard a m) (b := s.arb) (n := (s.br.nodes.get a).since) hb hf hk fun _ => hlow
  rw [← show p = max (-255) (min 4095 (((s.heard a m).chans.get c).ctl.pos + deltaFrom m o)) from hp] at hcounter
  exact (stopsWith_of_path (State.applySample_atTarget (s := s.heard a m) (w := State.movedTo (s.heard a m) c m p) hh hcounter hst ⟨mo, g, hmo, hg, hle⟩)).1

theorem sampled_reversing {g p : Int} (hp : p = max (-255) (min 4095 ((s.chans.get c).ctl.pos + deltaFrom m o)))
    (hst : (s.chans.get c).ctl.st = .reversing) (hg : (s.chans.get c).rev.target = some g) :
    (m.atEnd = true ∨ g ≤ p ∨ g ≤ (s.chans.get c).ctl.pos →
      StopsWith s (s.sampled a c m false) c m { basedRecord s c m with pos := p }) ∧
    (m.atEnd = false → p < g → (s.chans.get c).ctl.pos < g →
      GoesOnWith s (s.sampled a c m false) c m { basedRecord s c m with pos := p }) := by
  have hcounter := State.sampleCounter_movedTo (s := s.heard a m) (b := s.arb) (n := (s.br.nodes.get a).since) hb hf hk
    fun hc => absurd (hst.symm.trans hc) nofun
  rw [← show p = max (-255) (min 4095 (((s.heard a m).chans.get c).ctl.pos + deltaFrom m o)) from hp] at hcounter
  obtain ⟨hends, hgoes⟩ := State.applySample_reversing (s := s.heard a m) hh hcounter hst
  refine ⟨fun h => (stopsWith_of_path (hends (h.imp_right fun h => ⟨g, hg, h⟩))).1, fun he hlt hbefore => goesOnWith_of_path (hgoes ?_)⟩
  rintro (h | ⟨g', hg', h⟩)
  · rw [he] at h; exact nomatch h
  · obtain rfl : g = g' := Option.some.inj (hg.symm.trans hg')
    exact h.elim (not_le.mpr hlt) (not_le.mpr hbefore)

end

end

end Sys2Proof.Machine

namespace Sys2Proof.Proofs

open Sys2Proof.Machine Sys2Proof.Claim

/-- Settles O47: each case of the sample path, the fresh ones and those of a delta. -/
theorem sampleEndsMotion : Obligations.SampleEndsMotion := by
  intro s a c content m o hbr hh hb u delta p supply based moved stops drifts goesOn refused
  refine ⟨_, exec_of_bringsOf hbr, sampled_implausible_moves hh hb, sampled_implausible_idle hh hb, fun hf hk hst hlow => ?_,
    fun mo hf hst href hmo hn => sampled_fresh_ends hh hf hst href hmo hn,
    fun mo hf hk hst hc => sampled_implausible_waiting hh hb hf hk hst hc,
    fun mo hf hst hmo ho hu ht he => sampled_fresh_opening hh hf hst hmo ho hu ht he, fun mo hf hst hmo ho hu ht => ?_,
    fun g hf hst hg => sampled_fresh_reversing hh hf hst hg, fun hf hst => sampled_fresh_rests hh hf hst, fun hf hk => ?_⟩
  · have hp : p = -255 := max_eq_left (by show min _ _ ≤ _; omega)
    show DriftsWith s _ c m { basedRecord s c m with pos := p, referenced := false }
    rw [hp]
    exact sampled_overtravel hh hb hf hk hst hlow
  · intro cs sealed limit counted f16
    exact ⟨fun he => sampled_fresh_closing_end hh hf hst hmo ho hu ht he,
      fun he hl hz => sampled_fresh_closing_trips hh hf hst hmo ho hu ht he hl hz,
      fun he hl hlevel => sampled_fresh_closing_goes_on hh hf hst hmo ho hu ht he (hl.imp_left not_le.mpr) hlevel⟩
  · exact ⟨fun mo hst hmo hn => (sampled_opening hh hb hf hk rfl hst hmo).1 hn,
      fun mo g hst hmo hg => (sampled_opening hh hb hf hk rfl hst hmo).2 g hg,
      fun mo g hst hmo hg hle hlow => sampled_atTarget hh hb hf hk rfl hst hmo hg hle hlow,
      fun g hst hg => sampled_reversing hh hb hf hk rfl hst hg⟩

end Sys2Proof.Proofs
end

section
/-! The engine's formulas as the statements write them: bins, the accumulator, the filter, and the margin stack with its terms
(02 R35, R36, R44 to R49, 05 R112 to R115). -/

namespace Sys2Proof.Machine

open Sys2Proof.Claim

/-! ### Bins, filter and accumulator -/

theorem binOfPos_low {p : Int} {travel : Nat} (h : p ≤ 0) : binOfPos p travel = 0 := if_pos h

theorem binOfPos_high {p : Int} {travel : Nat} (h0 : 0 < p) (h : (travel : Int) ≤ p) : binOfPos p travel = 63 :=
  (if_neg (not_le.mpr h0)).trans (if_pos h)

theorem binOfPos_between {p : Int} {travel : Nat} (h0 : 0 < p) (h : p < travel) :
    ((binOfPos p travel).val : Int) = min 63 (p * 64 / travel) := by
  have hquot : 0 ≤ p * 64 / travel := Int.ediv_nonneg (by omega) (by omega)
  rw [binOfPos, if_neg (not_le.mpr h0), if_neg (not_le.mpr h)]
  show ((min 63 (p * 64 / travel).toNat : Nat) : Int) = _
  omega

theorem accStep_of_pos (cs : ChanSettings) (acc : Nat) {e : Int} (h : 0 < e) :
    (accStep cs acc e : Int) = min 4095 ((acc : Int) + e / 16) := by
  rw [accStep, if_pos h]; omega

theorem accStep_of_nonpos (cs : ChanSettings) (acc : Nat) {e : Int} (h : e ≤ 0) :
    (accStep cs acc e : Int) = max 0 ((acc : Int) - cs.decay) := by
  rw [accStep, if_neg (not_lt.mpr h)]; omega

/-- A quarter of the way to a current is no step below 0. -/
theorem filterStep_eq (first : Bool) (f16 i : Nat) :
    (filterStep first f16 i : Int) = if first then 16 * (i : Int) else (f16 : Int) + (16 * (i : Int) - f16) / 4 := by
  cases first
  · show ((((f16 : Int) + (16 * (i : Int) - f16) / 4).toNat : Nat) : Int) = (f16 : Int) + (16 * (i : Int) - f16) / 4
    omega
  · show ((16 * i : Nat) : Int) = 16 * (i : Int)
    omega

/-! ### The terms of the margin stack -/

/-- A subtraction of naturals stops at 0. -/
theorem cast_sub_eq_max (a b : Nat) : ((a - b : Nat) : Int) = max 0 ((a : Int) - b) := by omega

theorem panelMoving_iff (s : State) (c : Chan) : panelMoving (s.stg.image.chan.get c) s.ctx = true ↔ sideMoving s c := by
  unfold panelMoving sideMoving; split
  · next hkind hside => simp [hkind, hside]
  · next hkind hside => simp [hkind, hside]
  · next hleft hright =>
    exact iff_of_false nofun fun ⟨hkind, h⟩ => h.elim (fun h => hleft hkind h.1) (fun h => hright hkind h.1)

theorem roadTerm_eq (cs : ChanSettings) (ctx : ContextUnit) : (roadTerm cs ctx : Int) =
    ((if panelMoving cs ctx then 15 else ctx.rough : Nat) : Int) * cs.roadFactor / 4 := by
  rw [roadTerm, Int.natCast_ediv, Nat.cast_mul]; rfl

theorem coldTerm_eq (cs : ChanSettings) (g : GlobSettings) (ctx : ContextUnit) : (coldTerm cs g ctx : Int) =
    if ctx.fresh = false then 0 else if ctx.temp ≤ g.cold2Temp then (cs.cold2Margin : Int)
      else if ctx.temp ≤ g.cold1Temp then (cs.cold1Margin : Int) else 0 := by
  unfold coldTerm; push_cast; rfl

theorem windTerm_eq (cs : ChanSettings) (g : GlobSettings) (ctx : ContextUnit) : (windTerm cs g ctx : Int) =
    if cs.closure = .roof then (cs.windFactor : Int) * (max 0 ((ctx.speed : Int) - g.windOnset)) ^ 2 / 256 else 0 := by
  unfold windTerm; push_cast [cast_sub_eq_max]; rfl

theorem State.loadTerm_eq (s : State) : (s.loadTerm : Int) =
    max 0 ((s.arb.slots.toList.countP (fun b => b) : Int) - 2) * s.stg.image.glob.loadStep := by
  rw [State.loadTerm, Nat.cast_mul, cast_sub_eq_max]; rfl

theorem State.escalTerm_eq (s : State) (c : Chan) :
    (s.escalTerm c : Int) = ((s.chans.get c).rev.level : Int) * (s.stg.image.chan.get c).escalStep := Nat.cast_mul _ _

theorem State.marginStack_eq (s : State) (c : Chan) : (s.marginStack c : Int) =
    max 8 (min 1023 ((s.stg.image.chan.get c).marginBase + (s.effectiveZone c (s.chans.get c).ctl.pos).2 +
      roadTerm (s.stg.image.chan.get c) s.ctx + coldTerm (s.stg.image.chan.get c) s.stg.image.glob s.ctx +
      windTerm (s.stg.image.chan.get c) s.stg.image.glob s.ctx + s.loadTerm + s.escalTerm c)) := by
  unfold State.marginStack; dsimp only
  rw [clamp_eq_max_min (by decide)]
  exact Int.toNat_of_nonneg (le_max_of_le_left (by decide))

end Sys2Proof.Machine

namespace Sys2Proof.Proofs

open Sys2Proof.Machine Sys2Proof.Claim

/-- Settles O51: each formula, and the margin stack term by term. -/
theorem tripArithmeticFollowsItsFormulas : Obligations.TripArithmeticFollowsItsFormulas := by
  refine ⟨fun p l hl => ⟨fun h => ?_, fun h => ?_, binOfPos_between⟩, fun _ _ _ => rfl,
    fun cs acc e => ⟨accStep_of_pos cs acc, accStep_of_nonpos cs acc⟩, fun first f16 i _ _ => filterStep_eq first f16 i,
    fun s c moving hmoving => ?_⟩
  · rw [binOfPos_low h]; rfl
  · rw [binOfPos_high (by omega) h]; rfl
  · intro cs g adjust road cold wind load escal
    have hside : panelMoving cs s.ctx = moving := Bool.eq_iff_iff.mpr ((panelMoving_iff s c).trans hmoving.symm)
    rw [State.marginStack_eq, roadTerm_eq, hside, coldTerm_eq, windTerm_eq, State.loadTerm_eq, State.escalTerm_eq]

end Sys2Proof.Proofs
end

section
/-! A trip of a CLOSING channel reverses it (02 R57, R58, 04 R89, R90). -/

namespace Sys2Proof.Proofs

open Sys2Proof.Machine Sys2Proof.Claim

/-- Settles O52: the trip replaces the unit of its channel by the tripped one. -/
theorem tripReversesTheChannel : Obligations.TripReversesTheChannel := by
  intro s c cause r t acc _ u cs s'
  have htrip : s' = s.having c (u.tripped s cs cause r t acc) s.arb := by
    show s.trip c cause r t acc = _
    rw [← State.trip_having, State.having_self]
  have hunit : s'.chans.get c = u.tripped s cs cause r t acc := by rw [htrip, State.chans_having]
  obtain ⟨hfails, hkeeps⟩ := failed_teach u .trip
  rw [hunit]
  refine ⟨rfl, rfl, rfl, hfails, hkeeps, fun d hd => ?_, ?_, ?_⟩
  · rw [htrip]; exact Oct.get_set_ne _ _ hd
  · rw [htrip]; rfl
  · rw [htrip]; rfl

end Sys2Proof.Proofs
end

section
/-! A closing sample short of HARD and STALL: its suspensions, the repair of its bin, and the accumulator (02 R43, R48 to R54). -/

namespace Sys2Proof

/-- The reference of a sample: the working bin in the band of its baseline bin, else the baseline bin (02 R43). -/
def ChannelUnit.reference (u : ChannelUnit) (cs : ChanSettings) (base : Nat) (x : Fin 64) : Nat :=
  if Machine.inBand cs base (u.prof.working.get x) = true then u.prof.working.get x else base

/-- A unit whose working bin is the reference, with PROFILE_REPAIRED latched where that was a repair (02 R43). -/
def ChannelUnit.repaired (u : ChannelUnit) (cs : ChanSettings) (base : Nat) (x : Fin 64) : ChannelUnit :=
  { u with
    ctl := { u.ctl with latched := { u.ctl.latched with
      profileRepaired := u.ctl.latched.profileRepaired || !Machine.inBand cs base (u.prof.working.get x) } }
    prof := { u.prof with working := u.prof.working.set x (u.reference cs base x) } }

/-- A unit with its bin repaired and the accumulator at `acc`. -/
def ChannelUnit.stepped (u : ChannelUnit) (cs : ChanSettings) (base : Nat) (x : Fin 64) (acc : Nat) : ChannelUnit :=
  { u.repaired cs base x with eng := { u.eng with acc := acc } }

/-- A unit whose sample has stepped the accumulator to `acc` over the margin stack `margin`: tripped ACCUM at TRIP_LEVEL
(02 R50). -/
def ChannelUnit.accumulated (u : ChannelUnit) (s : Machine.State) (cs : ChanSettings) (base : Nat) (x : Fin 64) (margin acc : Nat) :
    ChannelUnit :=
  if cs.tripLevel ≤ acc then (u.stepped cs base x acc).tripped s cs .accum (u.reference cs base x) margin acc
  else u.stepped cs base x acc

theorem Bins.set_get_self {α : Type} (o : Bins α) (x : Fin 64) : o.set x (o.get x) = o := by
  apply Bins.ext_get; intro i; rw [Bins.get_set]; split
  · next h => rw [h]
  · rfl

end Sys2Proof

namespace Sys2Proof.Machine

open Sys2Proof.Claim

section
variable {s : State} {c : Chan} {u : ChannelUnit} {b : SlotArbiter} {m : Sample}

/-! ### The repair and the accumulator -/

theorem inBand_iff (cs : ChanSettings) (base w : Nat) :
    inBand cs base w = true ↔ max 0 ((base : Int) - cs.bandLow) ≤ w ∧ (w : Int) ≤ min 4095 ((base : Int) + cs.bandHigh) := by
  rw [inBand, Bool.and_eq_true, decide_eq_true_iff, decide_eq_true_iff, bandFrom, bandTo]
  omega

theorem State.repairBin_having (x : Fin 64) : (s.having c u b).repairBin c x =
    s.having c (u.repaired (s.stg.image.chan.get c) ((s.stg.image.baseline.get c).get x) x) b := by
  unfold State.repairBin ChannelUnit.repaired ChannelUnit.reference; dsimp only
  rw [State.chan_having]
  show (if inBand (s.stg.image.chan.get c) ((s.stg.image.baseline.get c).get x) (u.prof.working.get x) = true then _ else _) = _
  by_cases h : inBand (s.stg.image.chan.get c) ((s.stg.image.baseline.get c).get x) (u.prof.working.get x) = true
  · rw [if_pos h, if_pos h, h, Bins.set_get_self, Bool.not_true, Bool.or_false]
  · rw [if_neg h, if_neg h, Bool.eq_false_of_not_eq_true h, State.modProf, State.modChan_having, State.modCtl, State.modChan_having,
      Bool.not_false, Bool.or_true]
    rfl

/-- The margin stack reads position and escalation level alone of its channel. -/
theorem State.marginStack_having_congr {v : ChannelUnit} (hpos : u.ctl.pos = v.ctl.pos) (hlevel : u.rev.level = v.rev.level) :
    (s.having c u b).marginStack c = (s.having c v b).marginStack c := by
  unfold State.marginStack State.escalTerm; dsimp only
  rw [State.chan_having, State.chan_having, hpos, hlevel]
  rfl

theorem State.accumulate_having {x : Fin 64} {base margin acc : Nat} (hx : binOfPos u.ctl.pos (s.stg.image.chan.get c).travel = x)
    (hbase : (s.stg.image.baseline.get c).get x = base) (hmargin : (s.having c u b).marginStack c = margin)
    (hacc : accStep (s.stg.image.chan.get c) u.eng.acc
      (excessOf u.eng.f16 (u.reference (s.stg.image.chan.get c) base x) margin) = acc) :
    (s.having c u b).accumulate c = (s.having c (u.accumulated s (s.stg.image.chan.get c) base x margin acc) b, acc) := by
  have hmargin' : (s.having c (u.repaired (s.stg.image.chan.get c) base x) b).marginStack c = margin :=
    (State.marginStack_having_congr (u := u.repaired (s.stg.image.chan.get c) base x) (v := u) rfl rfl).trans hmargin
  have hworking : (u.repaired (s.stg.image.chan.get c) base x).prof.working.get x =
      u.reference (s.stg.image.chan.get c) base x := (Bins.get_set _ _ _ _).trans (if_pos rfl)
  have hset : (s.having c u b).cset c = s.stg.image.chan.get c := rfl
  have hacc' : accStep (s.stg.image.chan.get c) (u.repaired (s.stg.image.chan.get c) base x).eng.acc
      (excessOf (u.repaired (s.stg.image.chan.get c) base x).eng.f16 (u.reference (s.stg.image.chan.get c) base x) margin) = acc := hacc
  unfold State.accumulate ChannelUnit.accumulated; dsimp only
  rw [State.chan_having, hset, hx, State.repairBin_having, hbase, hmargin', State.chan_having, hworking, hacc', State.modEng,
    State.modChan_having]
  split
  · rw [State.trip_having]; rfl
  · rfl

theorem accumulated_of_lt {cs : ChanSettings} {base margin acc : Nat} {x : Fin 64} (h : acc < cs.tripLevel) :
    u.accumulated s cs base x margin acc = u.stepped cs base x acc := if_neg (not_le.mpr h)

theorem accumulated_of_le {cs : ChanSettings} {base margin acc : Nat} {x : Fin 64} (h : cs.tripLevel ≤ acc) :
    u.accumulated s cs base x margin acc =
      (u.stepped cs base x acc).tripped s cs .accum (u.reference cs base x) margin acc := if_pos h

/-- Tripped or not, the accumulator's step leaves the supply, the filter, the peak ratio and the stroke record. -/
theorem accumulated_keeps (s : State) (u : ChannelUnit) (cs : ChanSettings) (base margin acc : Nat) (x : Fin 64) :
    let v := u.accumulated s cs base x margin acc
    v.sup = u.sup ∧ v.eng.f16 = u.eng.f16 ∧ (u.eng.first = false → v.eng.first = false) ∧ v.eng.peak = u.eng.peak ∧
    v.prof.marks = u.prof.marks ∧ v.prof.stroke = u.prof.stroke ∧ v.prof.visited = u.prof.visited ∧
    v.prof.working = u.prof.working.set x (u.reference cs base x) := by
  intro v
  by_cases h : cs.tripLevel ≤ acc
  · obtain ⟨hmarks, hstroke, hvisited, hworking⟩ := failed_record (u.stepped cs base x acc) .trip
    rw [show v = _ from accumulated_of_le h]
    exact ⟨rfl, rfl, fun _ => rfl, rfl, hmarks, hstroke, hvisited, hworking⟩
  · rw [show v = _ from accumulated_of_lt (not_le.mp h)]
    exact ⟨rfl, rfl, id, rfl, rfl, rfl, rfl, rfl⟩

/-! ### Suspension -/

/-- The suspensions of a sample whose unit is `u`: blanking, SEAL, a mask within its budget, and flat protection (02 R51 to
R53). -/
def State.suspends (s : State) (c : Chan) (u : ChannelUnit) (blanked : Prop) : Prop :=
  blanked ∨ (s.effectiveZone c u.ctl.pos).1 = .seal ∨ (0 < u.sup.mask ∧ u.sup.strokeMask ≤ s.stg.image.glob.maskBudget) ∨
  s.stg.phase = .setup ∨ u.ctl.referenced = false ∨ u.rev.level = 3 ∨ u.prof.teach = .running ∨ s.stg.configFault = true

theorem State.maskHolds_having : (s.having c u b).maskHolds c = true ↔
    0 < u.sup.mask ∧ u.sup.strokeMask ≤ s.stg.image.glob.maskBudget := by
  rw [State.maskHolds, State.chan_having, maskActive, Bool.and_eq_true, decide_eq_true_iff, decide_eq_true_iff]; rfl

theorem State.flatProtection_having : (s.having c u b).flatProtection c = true ↔
    s.stg.phase = .setup ∨ u.ctl.referenced = false ∨ u.rev.level = 3 ∨ u.prof.teach = .running ∨ s.stg.configFault = true := by
  rw [State.flatProtection, State.chan_having]
  simp only [Bool.or_eq_true, decide_eq_true_iff, Bool.not_eq_true', or_assoc]
  rfl

/-- Short of HARD, a sample without END is judged no further under a suspension, and steps the accumulator without one. -/
theorem State.judgeSample_having_short {blanked : Prop} [Decidable blanked]
    (hl : ¬s.overLimit c m ∨ (s.effectiveZone c u.ctl.pos).1 = .seal) (he : m.atEnd = false) :
    (s.suspends c u blanked → (s.having c u b).judgeSample c m (decide blanked) = (s.having c u b, u.eng.acc)) ∧
    (¬s.suspends c u blanked → (s.having c u b).judgeSample c m (decide blanked) = (s.having c u b).accumulate c) := by
  have hiff : (decide blanked || decide (((s.having c u b).effectiveZone c u.ctl.pos).1 = .seal) || (s.having c u b).maskHolds c ||
      (s.having c u b).flatProtection c) = true ↔ s.suspends c u blanked := by
    rw [Bool.or_eq_true, Bool.or_eq_true, Bool.or_eq_true, State.maskHolds_having, State.flatProtection_having, decide_eq_true_iff,
      decide_eq_true_iff, or_assoc, or_assoc]
    rfl
  have hend : ¬m.atEnd = true := Bool.eq_false_iff.mp he
  unfold State.judgeSample; dsimp only
  rw [State.chan_having, if_neg fun h => ?_, if_neg fun h => hend h.2.1, if_neg fun h => hend h.2]
  · exact ⟨fun h => if_pos (hiff.mpr h), fun h => if_neg fun hc => h (hiff.mp hc)⟩
  · exact hl.elim (· h.1) fun hz => of_decide_eq_false h.2 hz

/-- A closing sample that is judged with no change but to its channel, by the blanking count as the sample found it. -/
theorem State.closingSample_having_of_judged {v : ChannelUnit} {acc : Nat}
    (h : (s.having c (u.entered (s.stg.image.chan.get c).travel m.current.toNat) b).judgeSample c m (decide (0 < u.eng.blank)) =
      (s.having c v b, acc)) :
    (s.having c u b).closingSample c m = s.having c (v.peaked (s.stg.image.chan.get c) acc) b := by
  unfold State.closingSample; dsimp only
  rw [State.enterSample_having, State.chan_having, h, State.peakStep_having]

/-! ### The sample as the engine has entered it -/

theorem State.working_enteredAt (s : State) (c : Chan) (m : Sample) (p : Int) :
    (s.enteredAt c m p).prof.working = (s.chans.get c).prof.working := by rw [State.prof_enteredAt]

/-- The suspensions of an entered sample, on the blocks as the sample found them: it has raised the stroke mask count by 1. -/
theorem State.suspends_enteredAt (s : State) (c : Chan) (m : Sample) (p : Int) {blanked : Prop} :
    s.suspends c (s.enteredAt c m p) blanked ↔ blanked ∨ (s.effectiveZone c p).1 = .seal ∨
      (0 < (s.takes c m).sup.mask ∧ min 1023 ((s.chans.get c).sup.strokeMask + 1) ≤ s.stg.image.glob.maskBudget) ∨
      s.stg.phase = .setup ∨ (s.chans.get c).ctl.referenced = false ∨ (s.chans.get c).rev.level = 3 ∨
      (s.chans.get c).prof.teach = .running ∨ s.stg.configFault = true := by
  have hmask : (0 < (s.enteredAt c m p).sup.mask ∧ (s.enteredAt c m p).sup.strokeMask ≤ s.stg.image.glob.maskBudget) ↔
      0 < (s.takes c m).sup.mask ∧ min 1023 ((s.chans.get c).sup.strokeMask + 1) ≤ s.stg.image.glob.maskBudget :=
    and_congr_right fun h => by
      rw [show (s.enteredAt c m p).sup.strokeMask = min 1023 ((s.chans.get c).sup.strokeMask + 1) from if_pos h]
  have hteach : (s.enteredAt c m p).prof.teach = (s.chans.get c).prof.teach := by rw [State.prof_enteredAt]
  rw [State.suspends, hmask, hteach]
  rfl

section
variable {n : Nat} {o : BitVec 12} {p : Int} (hh : healthy s c m) (hst : (s.chans.get c).ctl.st = .closing)
  (hb : (s.chans.get c).ctl.base = some o) (hf : m.freshStart = false) (he : m.atEnd = false)
  (hk : |deltaFrom m o| ≤ (((s.stg.image.chan.get c).edgeMax * n : Nat) : Int))
  (hlow : -255 ≤ (s.chans.get c).ctl.pos + deltaFrom m o) (hp : min 4095 ((s.chans.get c).ctl.pos + deltaFrom m o) = p)
  (ht : targetAhead s c p)
include hh hst hb hf he hk hlow hp ht

/-- A sample without END of a CLOSING channel short of its target comes to the engine at its new position (01 R9, 02 R33). -/
theorem State.applySample_judged {v : ChannelUnit} {acc : Nat}
    (h : (s.having c (s.enteredAt c m p) s.arb).judgeSample c m (decide (0 < (s.chans.get c).eng.blank)) = (s.having c v s.arb, acc)) :
    s.applySample c m n false = s.having c (v.peaked (s.stg.image.chan.get c) acc) s.arb := by
  have hpos : max (-255) (min 4095 ((s.chans.get c).ctl.pos + deltaFrom m o)) = p := hp ▸ max_eq_right (by omega)
  have hw := State.sampleCounter_movedTo (b := s.arb) hb hf hk fun _ => hlow
  rw [hpos] at hw
  rw [State.applySample_closing hh hw hst (not_atTarget_of_targetAhead ht rfl rfl) (.inl he)]
  exact State.closingSample_having_of_judged (u := (s.movedTo c m p).counted) h

variable (hl : ¬s.overLimit c m ∨ (s.effectiveZone c p).1 = .seal)
include hl

/-- A suspended closing sample (02 R51 to R54). -/
theorem State.applySample_suspended (h : s.suspends c (s.enteredAt c m p) (0 < (s.chans.get c).eng.blank)) :
    s.applySample c m n false =
      s.having c ((s.enteredAt c m p).peaked (s.stg.image.chan.get c) (s.chans.get c).eng.acc) s.arb :=
  State.applySample_judged hh hst hb hf he hk hlow hp ht
    ((State.judgeSample_having_short (u := s.enteredAt c m p) hl he).1 h)

/-- A closing sample that steps the accumulator (02 R48 to R50). -/
theorem State.applySample_accumulates {x : Fin 64} {base margin acc : Nat}
    (h : ¬s.suspends c (s.enteredAt c m p) (0 < (s.chans.get c).eng.blank))
    (hacc : (s.having c (s.enteredAt c m p) s.arb).accumulate c =
      (s.having c ((s.enteredAt c m p).accumulated s (s.stg.image.chan.get c) base x margin acc) s.arb, acc)) :
    s.applySample c m n false = s.having c
      (((s.enteredAt c m p).accumulated s (s.stg.image.chan.get c) base x margin acc).peaked (s.stg.image.chan.get c) acc) s.arb :=
  State.applySample_judged hh hst hb hf he hk hlow hp ht
    (((State.judgeSample_having_short (u := s.enteredAt c m p) hl he).2 h).trans hacc)

end

end

end Sys2Proof.Machine

namespace Sys2Proof.Proofs

open Sys2Proof.Machine Sys2Proof.Claim

/-- Settles O54: the position first, then the entered sample, suspended or judged by the accumulator. -/
theorem closingSampleAccumulatesOrIsSuspended : Obligations.ClosingSampleAccumulatesOrIsSuspended := by
  intro s a c content m o hbr hh hst hb hf he u cs g hk hlow htrip p limit zone ht hl f16 masked suspended here b base bin kept r t'
    acc record repaired
  have hshort : ¬(s.heard a m).overLimit c m ∨ ((s.heard a m).effectiveZone c p).1 = .seal := hl.imp_left not_le.mpr
  let v := State.enteredAt (s.heard a m) c m p
  have hworking : v.prof.working = u.prof.working := State.working_enteredAt (s.heard a m) c m p
  have hsuspends : (s.heard a m).suspends c v (0 < u.eng.blank) ↔ suspended := State.suspends_enteredAt (s.heard a m) c m p
  have hpeaks (n : Nat) : max u.eng.peak (peakCandidate cs n) = peakAfter u cs n :=
    congrArg (max u.eng.peak) (peakCandidate_of_pos htrip n)
  refine ⟨_, exec_of_bringsOf hbr, ?_⟩
  by_cases hs : suspended
  · obtain ⟨hchan, harb, hstg, -, hframe⟩ := State.sampled_of_applySample
      (State.applySample_suspended (s := s.heard a m) hh hst hb hf he hk hlow rfl ht hshort (hsuspends.mpr hs))
    rw [hchan]
    refine ⟨hframe, harb, hstg, rfl, rfl, rfl, strokeTakes_enter leftOut_iff rfl rfl rfl, fun _ => ⟨rfl, rfl, ?_, hworking⟩,
      fun h => absurd hs h, fun h => absurd hs h, fun h => absurd hs h⟩
    exact congrArg (fun k => { u.eng with f16 := f16, first := false, blank := u.eng.blank - 1, peak := k }) (hpeaks u.eng.acc)
  · have hkept : inBand cs base (v.prof.working.get b) = true ↔ kept := by rw [hworking]; exact inBand_iff _ _ _
    have href : v.reference cs base b = r := by
      rw [ChannelUnit.reference, hworking]; exact if_congr (hworking ▸ hkept) rfl rfl
    have hrepair : (!inBand cs base (v.prof.working.get b)) = decide (¬kept) :=
      (congrArg not (Bool.eq_iff_iff.mpr (hkept.trans decide_eq_true_iff.symm))).trans decide_not.symm
    have hctl : (v.repaired cs base b).ctl = repaired := by rw [ChannelUnit.repaired, hrepair]; rfl
    have hmargin : ((s.heard a m).having c v s.arb).marginStack c = t' :=
      State.marginStack_having_congr (s := s) (u := v) (v := { u with ctl := { u.ctl with pos := p } }) rfl rfl
    have hstep := State.accumulate_having (s := s.heard a m) (u := v) (x := b) (base := base) (acc := acc) rfl rfl hmargin
      (congrArg (fun k => accStep cs u.eng.acc (excessOf f16 k t')) href)
    obtain ⟨hchan, harb, hstg, -, hframe⟩ := State.sampled_of_applySample
      (State.applySample_accumulates (s := s.heard a m) hh hst hb hf he hk hlow rfl ht hshort (fun h => hs (hsuspends.mp h)) hstep)
    have hunit : (s.sampled a c m false).chans.get c = (v.accumulated (s.heard a m) cs base b t' acc).peaked cs acc := hchan
    obtain ⟨hsup, hf16, hfirst, hpeak, hmarks, hstroke, hvisited, hwork⟩ := accumulated_keeps (s.heard a m) v cs base t' acc b
    rw [hunit]
    refine ⟨hframe, harb, hstg, hsup, hf16, hfirst rfl, strokeTakes_enter leftOut_iff hmarks hstroke hvisited,
      fun h => absurd h hs, fun _ => ⟨?_, fun x hx => ?_, ?_⟩, fun _ hlt => ?_, fun _ hle => ?_⟩
    · exact (congrArg (·.get b) hwork).trans ((Bins.get_set _ _ _ _).trans ((if_pos rfl).trans href))
    · exact (congrArg (·.get x) hwork).trans ((Bins.get_set _ _ _ _).trans ((if_neg hx).trans (congrArg (·.get x) hworking)))
    · exact (congrArg (max · (peakCandidate cs acc)) hpeak).trans (hpeaks acc)
    · rw [accumulated_of_lt hlt]
      exact ⟨hctl, rfl, rfl, rfl⟩
    · rw [accumulated_of_le hle, href]
      exact ⟨congrArg (fun k : ChannelRecord => { k with st := .reversing, motion := none, hold := none }) hctl, rfl, rfl, rfl, rfl⟩

end Sys2Proof.Proofs
end

section
/-! Zone lists: what validity says record by record, and the lookup of a zone (03 R68, R69). -/

namespace Sys2Proof.Machine

section
variable {zs : List Zone} {z : Zone} {p : Int}

theorem Zone.acts_of_code {k : ZoneKind} (h : z.kind = ZoneKind.code k) : Zone.acts z = k := by
  unfold Zone.acts
  rw [h]
  cases k <;> rfl

/-- A code that a rule names acts as SEAL exactly where it is the code of SEAL. -/
theorem Zone.acts_eq_seal (h : z.kind ≤ 2) : Zone.acts z = .seal ↔ z.kind = 2 := by
  rcases (by omega : z.kind = 0 ∨ z.kind = 1 ∨ z.kind = 2) with h0 | h1 | h2
  · simp [Zone.acts_of_code (k := .protect) h0, h0]
  · simp [Zone.acts_of_code (k := .relaxed) h1, h1]
  · simp [Zone.acts_of_code (k := .seal) h2, h2]

/-- Condition 4 of 03 R68 at each index. -/
theorem ascending_iff : ascending zs = true ↔
    ∀ (n : Nat) (x y : Zone), zs[n]? = some x → zs[n + 1]? = some y → x.stop < y.start := by
  induction zs using ascending.induct with
  | case1 => exact iff_of_true rfl fun n x y hx => nomatch hx
  | case2 a => exact iff_of_true rfl fun n x y _ hy => nomatch hy
  | case3 a b rest ih =>
    rw [ascending, Bool.and_eq_true, decide_eq_true_iff, ih]
    constructor
    · rintro ⟨hab, hrest⟩ (_ | n) x y hx hy
      · cases hx; cases hy; exact hab
      · exact hrest n x y hx hy
    · exact fun h => ⟨h 0 a b rfl rfl, fun n => h (n + 1)⟩

/-- The records of an ascending list whose ends are not below their starts lie apart, one above the other. -/
theorem ascending_pairwise (h : ascending zs = true) (hspan : ∀ z ∈ zs, z.start ≤ z.stop) :
    zs.Pairwise fun x y => x.stop < y.start := by
  induction zs using ascending.induct with
  | case1 => exact .nil
  | case2 a => exact List.pairwise_singleton _ a
  | case3 a b rest ih =>
    rw [ascending, Bool.and_eq_true, decide_eq_true_iff] at h
    obtain ⟨hab, hrest⟩ := h
    obtain ⟨-, hspan⟩ := List.forall_mem_cons.mp hspan
    have hpairs := ih hrest hspan
    refine .cons (List.forall_mem_cons.mpr ⟨hab, fun y hy => ?_⟩) hpairs
    have hb := hspan b List.mem_cons_self
    have hby := (List.pairwise_cons.mp hpairs).1 y hy
    omega

theorem zonesValid_cons {z : Zone} {rest : List Zone} : zonesValid (z :: rest) = true ↔
    (Zone.acts z = .seal ∧ z.start = -255 ∧ 0 ≤ z.stop ∧ z.stop ≤ 255) ∧ (∀ r ∈ rest, Zone.acts r ≠ .seal) ∧
      ascending (z :: rest) = true := by
  simp only [zonesValid, Bool.and_eq_true, decide_eq_true_iff, List.all_eq_true, and_assoc]

/-- Validity by the four conditions of 03 R68, over records whose kinds the rule names. -/
theorem zonesValid_iff (hkind : ∀ z ∈ zs, z.kind ≤ 2) : zonesValid zs = true ↔
    (∃ z, zs[0]? = some z ∧ z.kind = 2 ∧ z.start = -255 ∧ 0 ≤ z.stop ∧ z.stop ≤ 255) ∧
    (∀ (n : Nat) (z : Zone), zs[n + 1]? = some z → z.kind ≠ 2) ∧
    (∀ (n : Nat) (x y : Zone), zs[n]? = some x → zs[n + 1]? = some y → x.stop < y.start) := by
  cases zs with
  | nil => exact iff_of_false nofun fun ⟨⟨z, hz, _⟩, _⟩ => nomatch hz
  | cons z rest =>
    obtain ⟨hz, hrest⟩ := List.forall_mem_cons.mp hkind
    have hfirst : (∃ y, (z :: rest)[0]? = some y ∧ y.kind = 2 ∧ y.start = -255 ∧ 0 ≤ y.stop ∧ y.stop ≤ 255) ↔
        z.kind = 2 ∧ z.start = -255 ∧ 0 ≤ z.stop ∧ z.stop ≤ 255 := by simp
    have hothers : (∀ (n : Nat) (y : Zone), (z :: rest)[n + 1]? = some y → y.kind ≠ 2) ↔ ∀ r ∈ rest, Zone.acts r ≠ .seal := by
      simp only [List.getElem?_cons_succ]
      constructor
      · intro h r hr
        obtain ⟨n, hn⟩ := List.mem_iff_getElem?.mp hr
        exact mt (Zone.acts_eq_seal (hrest r hr)).mp (h n r hn)
      · intro h n y hy
        have hmem := List.mem_of_getElem? hy
        exact mt (Zone.acts_eq_seal (hrest y hmem)).mpr (h y hmem)
    rw [zonesValid_cons, hfirst, hothers, Zone.acts_eq_seal hz, ascending_iff]

theorem ascending_of_zonesValid (h : zonesValid zs = true) : ascending zs = true := by
  cases zs with
  | nil => rfl
  | cons z rest => exact (zonesValid_cons.mp h).2.2

/-- A search in a list finds an item that alone meets the test. -/
theorem find?_eq_some_of_unique {α : Type} {l : List α} {test : α → Bool} {x : α} (hx : x ∈ l) (htest : test x = true)
    (honly : ∀ y ∈ l, test y = true → y = x) : l.find? test = some x := by
  cases hfind : l.find? test with
  | none => exact absurd htest (List.find?_eq_none.mp hfind x hx)
  | some y => rw [honly y (List.mem_of_find?_eq_some hfind) (List.find?_some hfind)]

/-- Records that lie apart do not both cover a position. -/
theorem eq_of_cover {x y : Zone} (happart : zs.Pairwise fun a b => a.stop < b.start) (hx : x ∈ zs) (hy : y ∈ zs)
    (hxp : x.start ≤ p ∧ p ≤ x.stop) (hyp : y.start ≤ p ∧ p ≤ y.stop) : x = y := by
  have hsymm : Std.Symm fun a b : Zone => a.stop < b.start ∨ b.stop < a.start := ⟨fun _ _ => Or.symm⟩
  by_contra hne
  have := (happart.imp (S := fun a b : Zone => a.stop < b.start ∨ b.stop < a.start) Or.inl).forall hx hy hne
  omega

/-- In a valid list the record that covers the position gives kind and adjust (03 R69). -/
theorem zoneLookup_covered (hvalid : zonesValid zs = true) (hspan : ∀ z ∈ zs, z.start ≤ z.stop) (hz : z ∈ zs)
    (hlow : z.start ≤ p) (hhigh : p ≤ z.stop) : zoneLookup zs p = (Zone.acts z, z.adjust) := by
  have happart := ascending_pairwise (ascending_of_zonesValid hvalid) hspan
  have hfind : zs.find? (fun y => decide (y.start ≤ p) && decide (p ≤ y.stop)) = some z :=
    find?_eq_some_of_unique hz (by simp [hlow, hhigh]) fun y hy hcover =>
      eq_of_cover happart hy hz (by simpa using hcover) ⟨hlow, hhigh⟩
  rw [zoneLookup, if_pos hvalid, hfind]

/-- In the gaps of a valid list PROTECT with adjust 0 stands (03 R69). -/
theorem zoneLookup_gap (hvalid : zonesValid zs = true) (hgap : ∀ z ∈ zs, ¬(z.start ≤ p ∧ p ≤ z.stop)) :
    zoneLookup zs p = (.protect, 0) := by
  have hfind : zs.find? (fun y => decide (y.start ≤ p) && decide (p ≤ y.stop)) = none :=
    List.find?_eq_none.mpr fun z hz => by simpa using hgap z hz
  rw [zoneLookup, if_pos hvalid, hfind]

theorem zoneLookup_invalid (h : zonesValid zs = false) : zoneLookup zs p = fallbackZone p :=
  if_neg (Bool.eq_false_iff.mp h)

end

end Sys2Proof.Machine

namespace Sys2Proof.Proofs

open Sys2Proof.Machine Sys2Proof.Claim

/-- Settles O57: the records of a valid list lie apart, so that one at most covers a position. -/
theorem zoneLookupUsesValidListsOnly : Obligations.ZoneLookupUsesValidListsOnly := by
  intro zs p hspan
  refine ⟨zonesValid_iff, fun hvalid z hz hlow hhigh k hk => ?_, zoneLookup_gap, fun hinvalid hp => ?_, fun hinvalid hp => ?_⟩
  · rw [zoneLookup_covered hvalid hspan hz hlow hhigh, Zone.acts_of_code hk]
  · rw [zoneLookup_invalid hinvalid]
    exact if_pos hp
  · rw [zoneLookup_invalid hinvalid]
    exact if_neg (not_le.mpr hp)

end Sys2Proof.Proofs
end

section
/-! Learning: the update of one bin, and the conditions under which a stroke learns (03 R66, R76, R77). -/

namespace Sys2Proof.Machine

open Sys2Proof.Claim

/-- An eighth truncated toward zero, or one unit where that is 0, as 03 R77 says it. -/
theorem learnStep_eq (delta : Int) :
    (if delta ≠ 0 ∧ delta.tdiv 8 = 0 then (if 0 < delta then 1 else -1) else delta.tdiv 8) =
      if delta = 0 then 0 else if |delta| < 8 then delta.sign else delta.tdiv 8 := by
  have hzero : delta.tdiv 8 = 0 ↔ |delta| < 8 := by
    rw [← Int.natAbs_eq_zero, Int.natAbs_tdiv, Int.abs_eq_natAbs]
    show delta.natAbs / 8 = 0 ↔ _
    omega
  by_cases h0 : delta = 0
  · subst h0; rfl
  · rw [if_neg h0]
    refine if_ctx_congr (by rw [hzero]; exact and_iff_right h0) (fun _ => ?_) fun _ => rfl
    rcases lt_or_gt_of_ne h0 with hneg | hpos
    · rw [if_neg (by omega), Int.sign_eq_neg_one_of_neg hneg]
    · rw [if_pos hpos, Int.sign_eq_one_of_pos hpos]

/-- The band of a baseline bin in its range, as integers (03 R66). -/
theorem band_eq (cs : ChanSettings) (b : Nat) : (bandFrom cs b : Int) = max 0 ((b : Int) - cs.bandLow) ∧
    (bandTo cs b : Int) = min 4095 ((b : Int) + cs.bandHigh) := by
  unfold bandFrom bandTo
  omega

/-- The learning update of a visited bin, as 03 R77 says it. -/
theorem learnBin_visited (cs : ChanSettings) {b : Nat} (w p : Nat) (hb : b ≤ 4095) :
    (learnBin cs b w (some p) : Int) =
      max (max 0 ((b : Int) - cs.bandLow)) (min (min 4095 ((b : Int) + cs.bandHigh))
        (w + if (p : Int) - w = 0 then 0 else if |(p : Int) - w| < 8 then ((p : Int) - w).sign else ((p : Int) - w).tdiv 8)) := by
  obtain ⟨hfrom, hto⟩ := band_eq cs b
  have hband : (bandFrom cs b : Int) ≤ bandTo cs b := by omega
  rw [← hfrom, ← hto, ← learnStep_eq, ← clamp_eq_max_min hband]
  exact Int.toNat_of_nonneg (le_trans (Int.natCast_nonneg _) (clamp_within hband _).1)

theorem learnsFrom_iff (g : SettingsUnit) (ctx : ContextUnit) (c : Chan) (p : ProfileContext) (strokeMask : Nat) (k : Int) :
    learnsFrom g ctx c p strokeMask k = true ↔
      p.marks.openedInRun = true ∧ |k| ≤ ((g.image.chan.get c).driftTol : Int) ∧ strokeMask ≤ g.image.glob.learnMask ∧
      g.image.glob.cold1Temp < ctx.temp ∧ ctx.rough ≤ g.image.glob.learnRough ∧ p.marks.escZero = true ∧
      g.configFault = false ∧ 8 ≤ p.visited := by
  simp only [learnsFrom, learningPermission, Bool.and_eq_true, decide_eq_true_iff, Bool.not_eq_true', and_assoc]

end Sys2Proof.Machine

namespace Sys2Proof.Proofs

open Sys2Proof.Machine Sys2Proof.Claim

/-- Settles O56: the update of one bin, the seven conditions, and the profile that learns. -/
theorem learningMovesAnEighthOfTheWay : Obligations.LearningMovesAnEighthOfTheWay := by
  refine ⟨fun cs b w p hb => ⟨rfl, learnBin_visited cs w p hb⟩, fun s c k => ?_⟩
  intro u g learns
  have hlearns : s.learns c k = true ↔ learns := learnsFrom_iff s.stg s.ctx c u.prof u.sup.strokeMask k
  refine ⟨fun h => if_neg (mt hlearns.mp h), fun h => ⟨_, if_pos (hlearns.mpr h), fun b => Bins.get_ofFn _ b⟩⟩

end Sys2Proof.Proofs
end

section
/-! Rows of management commands: a command that passes dispatch is answered as its owning rule says (09 R179), its data bits laid
field by field (11 R191). -/

namespace Sys2Proof.Machine

open Sys2Proof.Claim

/-! ### The rows -/

section
variable {s u : State} {path : Path} {status : Status} {data : BitVec 48}

/-- The state that a command finds: its COMMAND frame or side command has come to an end (09 R173, R180). -/
def State.arrived (s : State) (path : Path) : State := { s with trk := TrunkPort.arrived s.trk path }

/-- An answer delivered where the command has changed other blocks alone. -/
theorem State.deliver_arrived (r : Reply) : (u.arrived path).deliver path r false = delivered path r u :=
  State.deliver_eq_delivered path r

/-- A command that passes dispatch, whatever its owning rule makes of the state it finds. -/
theorem execManaged_delivered {cmd : Command} (hd : dispatched path s) (hl : path = .side → cmd.code ≠ .loadBaseline)
    (hs : s.stg.phase = .starting → cmd.code = .read) (ht : cmd.code.takenIn s.stg.phase = true) (hn : cmd ≠ .resetPart)
    (hperform : (s.arrived path).perform cmd = { state := u.arrived path, status := status, data := data }) :
    execManaged path cmd s = .next (delivered path { code := cmd.code.byte, status := status, data := data } u) := by
  rw [State.manage_performs hd hl hs ht hn hperform, State.deliver_arrived]

/-- READ is taken in every phase. -/
theorem execManaged_read {item first second : Byte} (hd : dispatched path s)
    (hread : (s.arrived path).read item first second = { state := u.arrived path, status := status, data := data }) :
    execManaged path (.read item first second) s = .next (delivered path { code := 1, status := status, data := data } u) :=
  execManaged_delivered hd nofun (fun _ => rfl) (takenIn_read _) nofun hread

/-- A command of the SETUP phase. -/
theorem execManaged_setup {cmd : Command} (hd : dispatched path s) (hsetup : s.stg.phase = .setup)
    (hl : path = .side → cmd.code ≠ .loadBaseline) (ht : cmd.code.takenIn .setup = true) (hn : cmd ≠ .resetPart)
    (hperform : (s.arrived path).perform cmd = { state := u.arrived path, status := status, data := data }) :
    execManaged path cmd s = .next (delivered path { code := cmd.code.byte, status := status, data := data } u) :=
  execManaged_delivered hd hl (fun h => by rw [hsetup] at h; exact nomatch h) (hsetup ▸ ht) hn hperform

/-- LOAD BASELINE has no side form (09 R179 step 1). -/
theorem execManaged_loadBaseline_side {ch first : Byte} {values : Oct (BitVec 16)} (hr : s.rst.active = false) :
    execManaged .side (.loadBaseline ch first values) s = .next (delivered .side (denied 6 .unknownCommand) s) := by
  rw [execManaged, whileRunning_running s _ hr, ← State.deliver_arrived]
  rfl

end

/-! ### Data bits (11 R191) -/

/-- Data bits are the number of their fields. -/
theorem answerData_eq {fields : List (Nat × Int)} {x : BitVec 48} (hwidth : (fields.map Prod.fst).sum ≤ 48)
    (hx : x.toNat = packFields 48 fields) : answerData fields = x :=
  BitVec.eq_of_toNat_eq ((toNat_packFields 48 fields hwidth).trans hx.symm)

/-- A bin in 12 bits. -/
theorem answerData_bin (n : Nat) : answerData [(12, (n : Int))] = BitVec.ofNat 12 n ++ 0#36 := by
  refine answerData_eq (by simp) ?_
  simp only [toNat_append_add, toNat_ofNat_field]
  simp [packFields]

/-- The count, the validity, and no record. -/
theorem answerData_noZone (n : Nat) (b : Bool) :
    answerData ([(3, (n : Int)), bitOf b] ++ zoneFields none) = BitVec.ofNat 3 n ++ BitVec.ofBool b ++ 0#44 := by
  refine answerData_eq (by simp [bitOf, zoneFields]) ?_
  simp only [toNat_append_add, toNat_ofNat_field, toNat_ofBool]
  simp [packFields, bitOf, zoneFields]
  ring

theorem answerData_zone (n : Nat) (b : Bool) (z : Zone) :
    answerData ([(3, (n : Int)), bitOf b] ++ zoneFields (some z)) =
      BitVec.ofNat 3 n ++ BitVec.ofBool b ++ 1#1 ++ BitVec.ofInt 13 z.start ++ BitVec.ofInt 13 z.stop ++
        BitVec.ofNat 2 z.kind ++ BitVec.ofInt 8 z.adjust ++ 0#7 := by
  refine answerData_eq (by simp [bitOf, zoneFields]) ?_
  simp only [toNat_append_add, toNat_ofNat_field, toNat_ofInt_field, toNat_ofBool]
  simp [packFields, bitOf, zoneFields]

/-- The place of a record and the count. -/
theorem answerData_place (i n : Nat) :
    answerData [(3, (i : Int)), (3, (n : Int))] = BitVec.ofNat 3 i ++ BitVec.ofNat 3 n ++ 0#42 := by
  refine answerData_eq (by simp) ?_
  simp only [toNat_append_add, toNat_ofNat_field]
  simp [packFields]

theorem answerData_first (n : Nat) : answerData [(6, (n : Int))] = BitVec.ofNat 6 n ++ 0#42 := by
  refine answerData_eq (by simp) ?_
  simp only [toNat_append_add, toNat_ofNat_field]
  simp [packFields]

end Sys2Proof.Machine
end

section
/-! Commands of the profile store: READ of bins and zones, LOAD BASELINE, SET ZONE, CLEAR ZONES and TEACH (03 R70 to R79, R87). -/

namespace Sys2Proof.Machine

open Sys2Proof.Claim

section
variable {s : State} {c : Chan}

/-! ### READ of bins and zones (03 R72, R87) -/

theorem State.readBaseline_of_val {x : Byte} {b : Fin 64} (h : x.toNat = b.val) : s.readBaseline c x =
    { state := s, status := .ok, data := BitVec.ofNat 12 ((s.stg.image.baseline.get c).get b) ++ 0#36 } := by
  rw [State.readBaseline, binOf_of_val h, ← answerData_bin]; rfl

theorem State.readBaseline_denied {x : Byte} (h : 63 < x.toNat) : s.readBaseline c x = s.deny .badArgument := by
  rw [State.readBaseline, binOf_none h]

theorem State.readWorking_of_val {x : Byte} {b : Fin 64} (h : x.toNat = b.val) : s.readWorking c x =
    { state := s, status := .ok, data := BitVec.ofNat 12 ((s.chans.get c).prof.working.get b) ++ 0#36 } := by
  rw [State.readWorking, binOf_of_val h, ← answerData_bin]; rfl

theorem State.readWorking_denied {x : Byte} (h : 63 < x.toNat) : s.readWorking c x = s.deny .badArgument := by
  rw [State.readWorking, binOf_none h]

section
variable {x : Byte} {zs : List Zone} (hzs : s.stg.image.zones.get c = zs) (hx : x.toNat ≤ 5)
include hzs hx

theorem State.readZone_of_le : s.readZone c x =
    s.okWith ([(3, (zs.length : Int)), bitOf (zonesValid zs)] ++ zoneFields zs[x.toNat]?) := by
  subst hzs; exact if_neg (not_lt.mpr hx)

theorem State.readZone_absent (hlen : zs.length ≤ x.toNat) : s.readZone c x =
    { state := s, status := .ok, data := BitVec.ofNat 3 zs.length ++ BitVec.ofBool (zonesValid zs) ++ 0#44 } := by
  rw [State.readZone_of_le hzs hx, List.getElem?_eq_none hlen, State.okWith, answerData_noZone]

theorem State.readZone_present {z : Zone} (hz : zs[x.toNat]? = some z) : s.readZone c x =
    { state := s, status := .ok
      data := BitVec.ofNat 3 zs.length ++ BitVec.ofBool (zonesValid zs) ++ 1#1 ++ BitVec.ofInt 13 z.start ++
        BitVec.ofInt 13 z.stop ++ BitVec.ofNat 2 z.kind ++ BitVec.ofInt 8 z.adjust ++ 0#7 } := by
  rw [State.readZone_of_le hzs hx, hz, State.okWith, answerData_zone]

end

theorem State.readZone_denied {x : Byte} (h : 5 < x.toNat) : s.readZone c x = s.deny .badArgument := if_pos h

/-! ### LOAD BASELINE (03 R78) -/

theorem State.loadBaseline_badArgument {first : Byte} {values : Oct (BitVec 16)} (h : 56 < first.toNat) :
    s.loadBaseline c first values = s.deny .badArgument := if_pos h

theorem State.loadBaseline_busy {first : Byte} {values : Oct (BitVec 16)} (h : first.toNat ≤ 56)
    (hteach : (s.chans.get c).prof.teach = .running) : s.loadBaseline c first values = s.deny .busy :=
  (if_neg (not_lt.mpr h)).trans (if_pos hteach)

/-- A baseline written, and the working profile of its channel a copy of it. -/
theorem State.copyBaseline_modImage (bins : Bins Nat) :
    (s.modImage fun i => { i with baseline := i.baseline.set c bins }).copyBaseline c =
      withUnit (withImage s fun i => { i with baseline := i.baseline.set c bins }) c fun u =>
        { u with prof := { u.prof with working := bins } } := by
  have hcopy : ((s.modImage fun i => { i with baseline := i.baseline.set c bins }).stg.image.baseline.get c) = bins :=
    Oct.get_set_self _ _ _
  rw [State.copyBaseline, hcopy]; rfl

theorem State.loadBaseline_ok {first : Byte} {values : Oct (BitVec 16)} (h : first.toNat ≤ 56)
    (hteach : (s.chans.get c).prof.teach ≠ .running) {bins : Bins Nat}
    (hbins : loadBins (s.stg.image.baseline.get c) first.toNat values = bins) :
    s.loadBaseline c first values =
      { state := withUnit (withImage s fun i => { i with baseline := i.baseline.set c bins }) c fun u =>
          { u with prof := { u.prof with working := bins } }
        status := .ok, data := BitVec.ofNat 6 first.toNat ++ 0#42 } := by
  subst hbins
  rw [← State.copyBaseline_modImage, ← answerData_first]
  exact (if_neg (not_lt.mpr h)).trans (if_neg hteach)

theorem loadBins_outside (base : Bins Nat) {first : Nat} (values : Oct (BitVec 16)) {b : Fin 64}
    (h : b.val < first ∨ first + 8 ≤ b.val) : (loadBins base first values).get b = base.get b :=
  (Bins.get_ofFn _ b).trans (dif_neg (by omega))

theorem loadBins_inside (base : Bins Nat) {first : Nat} (values : Oct (BitVec 16)) {i : Fin 8} {b : Fin 64}
    (h : b.val = first + i.val) : ((loadBins base first values).get b : Int) = max 0 (min 4095 (values.get i).toInt) := by
  have hin : first ≤ b.val ∧ b.val < first + 8 := by omega
  have hi : (⟨b.val - first, by omega⟩ : Fin 8) = i := Fin.ext (by dsimp only; omega)
  rw [loadBins, Bins.get_ofFn, dif_pos hin, hi, ← clamp_eq_max_min (by decide)]
  exact Int.toNat_of_nonneg (clamp_within (by decide) _).1

/-! ### SET ZONE and CLEAR ZONES (03 R70, R71) -/

section
variable {index : Byte} {x y : BitVec 13} {kind : BitVec 4} {adjust : BitVec 8}

theorem zoneKindOf_code (k : ZoneKind) : zoneKindOf (ZoneKind.code k) = some k := by cases k <;> rfl

theorem zoneKindOf_none {n : Nat} (h : 2 < n) : zoneKindOf n = none :=
  match n, h with
  | _ + 3, _ => rfl

/-- An end of a record in 13 bits is at most 4095, so that the clamp acts from below alone. -/
theorem clamp_zoneEnd (v : BitVec 13) : clamp (-255) 4095 v.toInt = max (-255) v.toInt := by
  have := BitVec.toInt_lt (x := v)
  rw [clamp_eq_max_min (by decide)]
  omega

/-- The record that SET ZONE writes (03 R70). -/
def zoneRecord (x y : BitVec 13) (k : ZoneKind) (adjust : BitVec 8) : Zone :=
  { start := max (-255) x.toInt, stop := max (-255) y.toInt, kind := ZoneKind.code k, adjust := adjust.toInt }

/-- A zone list with the record replaced at an index below its count, and appended otherwise (03 R70). -/
def zonesWith (zs : List Zone) (i : Nat) (z : Zone) : List Zone := if i < zs.length then zs.set i z else zs ++ [z]

theorem State.setZone_badArgument (h : 5 < index.toNat ∨ 2 < kind.toNat ∨ max (-255) y.toInt < max (-255) x.toInt) :
    s.setZone c index x y kind adjust = s.deny .badArgument := by
  rw [State.setZone, clamp_zoneEnd, clamp_zoneEnd]
  split
  · rfl
  · next hindex =>
    split
    · rfl
    · next k hk =>
      refine if_pos (h.resolve_left hindex |>.resolve_left fun hkind => ?_)
      rw [zoneKindOf_none hkind] at hk
      exact nomatch hk

/-- A SET ZONE that passes the checks of its arguments. -/
theorem State.setZone_checked {k : ZoneKind} (hindex : index.toNat ≤ 5) (hkind : kind.toNat = ZoneKind.code k)
    (hends : max (-255) x.toInt ≤ max (-255) y.toInt) : s.setZone c index x y kind adjust =
      if (s.chans.get c).prof.teach = .running then s.deny .busy
      else (withImage s fun i => { i with
          zones := i.zones.set c (zonesWith (s.stg.image.zones.get c) index.toNat (zoneRecord x y k adjust)) }).okWith
        [(3, ((min index.toNat (s.stg.image.zones.get c).length : Nat) : Int)),
         (3, ((zonesWith (s.stg.image.zones.get c) index.toNat (zoneRecord x y k adjust)).length : Int))] := by
  rw [State.setZone, clamp_zoneEnd, clamp_zoneEnd, if_neg (not_lt.mpr hindex), hkind, zoneKindOf_code]
  exact if_neg (not_lt.mpr hends)

theorem zonesWith_below {zs : List Zone} {i : Nat} (z : Zone) (h : i < zs.length) : zonesWith zs i z = zs.set i z := if_pos h

theorem zonesWith_above {zs : List Zone} {i : Nat} (z : Zone) (h : zs.length ≤ i) : zonesWith zs i z = zs ++ [z] :=
  if_neg (not_lt.mpr h)

/-- A record replaced (03 R70). -/
theorem State.setZone_replaces {k : ZoneKind} {zs : List Zone} (hzs : s.stg.image.zones.get c = zs) (hindex : index.toNat ≤ 5)
    (hkind : kind.toNat = ZoneKind.code k) (hends : max (-255) x.toInt ≤ max (-255) y.toInt)
    (hteach : (s.chans.get c).prof.teach ≠ .running) (hlt : index.toNat < zs.length) :
    s.setZone c index x y kind adjust =
      { state := withImage s fun i => { i with zones := i.zones.set c (zs.set index.toNat (zoneRecord x y k adjust)) }
        status := .ok
        data := BitVec.ofNat 3 index.toNat ++ BitVec.ofNat 3 zs.length ++ 0#42 } := by
  subst hzs
  rw [State.setZone_checked hindex hkind hends, if_neg hteach, zonesWith_below _ hlt, List.length_set, min_eq_left hlt.le,
    State.okWith, answerData_place]

/-- A record appended (03 R70). -/
theorem State.setZone_appends {k : ZoneKind} {zs : List Zone} (hzs : s.stg.image.zones.get c = zs) (hindex : index.toNat ≤ 5)
    (hkind : kind.toNat = ZoneKind.code k) (hends : max (-255) x.toInt ≤ max (-255) y.toInt)
    (hteach : (s.chans.get c).prof.teach ≠ .running) (hle : zs.length ≤ index.toNat) :
    s.setZone c index x y kind adjust =
      { state := withImage s fun i => { i with zones := i.zones.set c (zs ++ [zoneRecord x y k adjust]) }
        status := .ok
        data := BitVec.ofNat 3 zs.length ++ BitVec.ofNat 3 (zs.length + 1) ++ 0#42 } := by
  subst hzs
  rw [State.setZone_checked hindex hkind hends, if_neg hteach, zonesWith_above _ hle, List.length_append, min_eq_right hle,
    State.okWith, List.length_singleton, answerData_place]

/-- A code up to 2 is the code of a kind. -/
theorem exists_zoneKind {n : Nat} (h : n ≤ 2) : ∃ k : ZoneKind, n = ZoneKind.code k := by
  rcases (by omega : n = 0 ∨ n = 1 ∨ n = 2) with h0 | h1 | h2
  · exact ⟨.protect, h0⟩
  · exact ⟨.relaxed, h1⟩
  · exact ⟨.seal, h2⟩

theorem State.clearZones_busy (hteach : (s.chans.get c).prof.teach = .running) : s.clearZones c = s.deny .busy := if_pos hteach

theorem State.clearZones_ok (hteach : (s.chans.get c).prof.teach ≠ .running) : s.clearZones c =
    { state := withImage s fun i => { i with zones := i.zones.set c [] }, status := .ok, data := 0 } :=
  if_neg hteach

end

/-! ### TEACH (03 R79) -/

/-- The order that a teach stroke is queued as: a latched USER close with no target (03 R79). -/
def teachOrder : Order := { kind := .closeExpress, source := .user, preset := 0 }

theorem State.teachable_iff : s.teachable c = true ↔
    (s.chans.get c).ctl.st = .idle ∧ (s.chans.get c).ctl.referenced = true ∧
    ((s.stg.image.chan.get c).travel : Int) - ((s.stg.image.chan.get c).travel / 16 : Nat) ≤ (s.chans.get c).ctl.pos ∧
    s.stg.configFault = false := by
  have hopen : (((s.cset c).travel - (s.cset c).travel / 16 : Nat) : Int) =
      ((s.cset c).travel : Int) - ((s.cset c).travel / 16 : Nat) := Nat.cast_sub (Nat.div_le_self _ _)
  rw [State.teachable, hopen]
  simp only [Bool.and_eq_true, decide_eq_true_iff, Bool.not_eq_true', and_assoc]
  rfl

/-- The state with a teach of the channel RUNNING and its stroke in the queue (03 R79). -/
theorem joined_teaching : joined (s.modProf c fun p => { p with teach := .running, teachVisited := 0 }) c teachOrder .toClosed =
    { withUnit s c (fun u => { u with
        ctl := { u.ctl with
          st := .waiting, hold := none
          latched := { blindStop := false, drift := false, profileRepaired := false, orderRefused := false,
                       startTimeout := false } }
        prof := { u.prof with teach := .running, teachVisited := 0 } }) with
      arb := { s.arb with queue := s.arb.queue ++
        [{ channel := c, join := s.now, expiry := s.now + 100 * s.stg.image.glob.queueTimeout,
           motion := { dir := .toClosed, origin := .latched, cls := .user, target := none }}] } } := by
  unfold joined withUnit
  simp only [State.chans_modProf, Oct.get_set_self, Oct.set_set]
  rfl

theorem State.teach_queues (h : s.teachable c = true) : s.teach c =
    { state := joined (s.modProf c fun p => { p with teach := .running, teachVisited := 0 }) c teachOrder .toClosed
      status := .ok, data := 0 } := by
  rw [← joinQueue_motionOf]
  exact if_pos h

theorem State.teach_denied (h : ¬s.teachable c = true) : s.teach c = s.deny .notApplicable := if_neg h

end

end Sys2Proof.Machine

namespace Sys2Proof.Proofs

open Sys2Proof.Machine Sys2Proof.Claim

/-- Settles O28: the checks of LOAD BASELINE in their order, the eight bins, and the side path. -/
theorem loadBaselineWritesEightBins : Obligations.LoadBaselineWritesEightBins := by
  intro s ch first c values hch hd hsetup
  let t := s.arrived .command
  have performs {u : State} {status : Status} {data : BitVec 48}
      (h : t.loadBaseline c first values = { state := u.arrived .command, status := status, data := data }) :
      exec (.loadBaseline .command ch first values) s =
        .next (delivered .command { code := 6, status := status, data := data } u) :=
    execManaged_setup hd hsetup nofun rfl nofun ((State.onChannel_of_val hch _).trans h)
  exact ⟨fun hfirst => performs (State.loadBaseline_badArgument (s := t) hfirst),
    fun hfirst hteach => performs (State.loadBaseline_busy (s := t) hfirst hteach),
    fun hfirst hteach => ⟨loadBins (s.stg.image.baseline.get c) first.toNat values, fun _ => loadBins_outside _ values,
      fun _ _ => loadBins_inside _ values, performs (State.loadBaseline_ok (s := t) hfirst hteach rfl)⟩,
    execManaged_loadBaseline_side hd.1⟩

/-- Settles O29: the checks of SET ZONE in their order, the record replaced or appended, and CLEAR ZONES. -/
theorem zoneCommandsWriteTheList : Obligations.ZoneCommandsWriteTheList := by
  intro s path ch index c x y kind adjust hch hd hsetup zs lo hi row
  let t := s.arrived path
  have sets {u : State} {status : Status} {data : BitVec 48}
      (h : t.setZone c index x y kind adjust = { state := u.arrived path, status := status, data := data }) :
      row = .next (delivered path { code := 7, status := status, data := data } u) :=
    execManaged_setup (cmd := .setZone ch index x y kind adjust) hd hsetup nofun rfl nofun
      ((State.onChannel_of_val hch _).trans h)
  have clears {u : State} {status : Status} {data : BitVec 48}
      (h : t.clearZones c = { state := u.arrived path, status := status, data := data }) :
      exec (.clearZones path ch) s = .next (delivered path { code := 8, status := status, data := data } u) :=
    execManaged_setup (cmd := .clearZones ch) hd hsetup nofun rfl nofun ((State.onChannel_of_val hch _).trans h)
  refine ⟨fun h => sets (State.setZone_badArgument (s := t) h), fun hindex hkind hends hteach => ?_,
    fun k hindex hkind hends hteach => ⟨fun hlt => sets (State.setZone_replaces (s := t) rfl hindex hkind hends hteach hlt),
      fun hle => sets (State.setZone_appends (s := t) rfl hindex hkind hends hteach hle)⟩,
    fun hteach => clears (State.clearZones_busy (s := t) hteach), fun hteach => clears (State.clearZones_ok (s := t) hteach)⟩
  obtain ⟨k, hk⟩ := exists_zoneKind hkind
  exact sets ((State.setZone_checked (s := t) hindex hk hends).trans (if_pos hteach))

/-- Settles O30: TEACH where it applies joins the queue as an order does. -/
theorem teachQueuesItsStroke : Obligations.TeachQueuesItsStroke := by
  intro s path ch c hch hd hsetup u travel fits
  let t := s.arrived path
  have performs {u : State} {status : Status} {data : BitVec 48}
      (h : t.teach c = { state := u.arrived path, status := status, data := data }) :
      exec (.teach path ch) s = .next (delivered path { code := 9, status := status, data := data } u) :=
    execManaged_setup (cmd := .teach ch) hd hsetup nofun rfl nofun ((State.onChannel_of_val hch _).trans h)
  have hfits : s.teachable c = true ↔ fits := State.teachable_iff
  refine ⟨fun h => ?_, fun h => performs (State.teach_denied (s := t) (mt hfits.mp h))⟩
  rw [← joined_teaching]
  exact performs (State.teach_queues (s := t) (hfits.mpr h))

/-- Settles O23: the items over the bins and the zone list, and what they deny. -/
theorem readBinsAndZonesReturnTheProfileStore : Obligations.ReadBinsAndZonesReturnTheProfileStore := by
  intro s path ch x c hch hd zs
  let t := s.arrived path
  have denies {item wrong : Byte} (f : Chan → Answered) (hitem : t.read item wrong x = t.onChannel wrong f)
      (hwrong : 7 < wrong.toNat) :
      execManaged path (.read item wrong x) s = .next (delivered path (denied 1 .badArgument) s) :=
    execManaged_read hd (hitem.trans (State.onChannel_none hwrong f))
  have reads {item : Byte} {status : Status} {data : BitVec 48} (f : Chan → Answered)
      (hitem : t.read item ch x = t.onChannel ch f) (h : f c = { state := t, status := status, data := data }) :
      execManaged path (.read item ch x) s = .next (delivered path { code := 1, status := status, data := data } s) :=
    execManaged_read hd (hitem.trans ((State.onChannel_of_val hch f).trans h))
  exact ⟨fun b hb => ⟨reads _ rfl (State.readBaseline_of_val hb), reads _ rfl (State.readWorking_of_val hb)⟩,
    fun wrong hwrong => ⟨denies _ rfl hwrong, denies _ rfl hwrong, denies _ rfl hwrong⟩,
    fun hx => ⟨reads _ rfl (State.readBaseline_denied hx), reads _ rfl (State.readWorking_denied hx)⟩,
    fun hx => reads _ rfl (State.readZone_denied hx),
    fun hx hlen => reads _ rfl (State.readZone_absent (s := t) rfl hx hlen),
    fun z hx hz => reads _ rfl (State.readZone_present (s := t) rfl hx hz)⟩

end Sys2Proof.Proofs
end

section
/-! The escalation window: what its expiry leaves (04 R98, R99). -/

namespace Sys2Proof.Machine

open Sys2Proof.Claim

/-- Clearing the escalation touches e and the window timer of one channel alone (04 R99, R100). -/
theorem State.modRev_clearLevel (s : State) (c : Chan) :
    s.modRev c ReversalContext.clearLevel = withUnit s c fun u => { u with rev := { u.rev with level := 0, window := none } } := rfl

theorem State.escalationExpires_of_reached {s : State} {c : Chan} (h : reached (s.chan c).rev.window s.now) :
    s.escalationExpires c = s.modRev c ReversalContext.clearLevel :=
  if_pos ((isDue_iff_reached _ _).mpr h)

end Sys2Proof.Machine

namespace Sys2Proof.Proofs

open Sys2Proof.Machine Sys2Proof.Claim

/-- Settles O37: the row of a running part is the expiry, whose one guard is the timer reached; the channel's state is not read. -/
theorem escalationWindowExpiryClearsE : Obligations.EscalationWindowExpiryClearsE := by
  intro s c hr hdue
  calc exec (.escalationWindowExpiry c) s
      = whileRunning s (fun s => s.escalationExpires c) := rfl
    _ = .next (s.escalationExpires c) := whileRunning_running s _ hr
    _ = .next (s.modRev c ReversalContext.clearLevel) := congrArg _ (State.escalationExpires_of_reached hdue)
    _ = _ := congrArg _ (s.modRev_clearLevel c)

end Sys2Proof.Proofs
end

section
/-! The voltage stage: the bands, the dips, and what they step (06 R122 to R125). -/

namespace Sys2Proof.Machine

/-! ### The tests of a sample voltage -/

theorem lowBand_iff (g : GlobSettings) (v : Nat) : lowBand g v = true ↔ v < g.uvLevel0 := decide_eq_true_iff

theorem highBand_iff (g : GlobSettings) (v : Nat) : highBand g v = true ↔ ¬v < g.uvLevel0 ∧ g.uvLevel2 ≤ v := by
  simp [highBand, lowBand]

theorem isDip_iff (g : GlobSettings) (v : Nat) (prev : Option Nat) : isDip g v prev = true ↔
    v < g.dipLevel ∨ ∃ p, prev = some p ∧ (g.dipStep : Int) ≤ |(v : Int) - p| := by
  cases prev <;> simp [isDip]

/-! ### UNDERVOLT by the bands -/

/-- In the low band a run that stood at 3 or more sets UNDERVOLT. -/
theorem undervoltStep_low {g : GlobSettings} {v : Nat} (u : SupplyContext) (h : v < g.uvLevel0) : undervoltStep g v u =
    { u with lowRun := min 4 (u.lowRun + 1), highRun := 0, undervolt := if 3 ≤ u.lowRun then true else u.undervolt } := by
  have hlow : lowBand g v = true := (lowBand_iff g v).mpr h
  have hhigh : highBand g v = false := Bool.eq_false_of_not_eq_true fun hv => ((highBand_iff g v).mp hv).1 h
  have hfull : min 4 (u.lowRun + 1) = 4 ↔ 3 ≤ u.lowRun := by omega
  simp [undervoltStep, hlow, hhigh, hfull]

/-- In the high band a run that stood at 3 or more clears UNDERVOLT. -/
theorem undervoltStep_high {g : GlobSettings} {v : Nat} (u : SupplyContext) (h : ¬v < g.uvLevel0) (h2 : g.uvLevel2 ≤ v) :
    undervoltStep g v u =
      { u with lowRun := 0, highRun := min 4 (u.highRun + 1), undervolt := if 3 ≤ u.highRun then false else u.undervolt } := by
  have hlow : lowBand g v = false := Bool.eq_false_of_not_eq_true fun hv => h ((lowBand_iff g v).mp hv)
  have hhigh : highBand g v = true := (highBand_iff g v).mpr ⟨h, h2⟩
  have hfull : min 4 (u.highRun + 1) = 4 ↔ 3 ≤ u.highRun := by omega
  simp [undervoltStep, hlow, hhigh, hfull]

/-- Between the bands both runs end and UNDERVOLT stands. -/
theorem undervoltStep_between {g : GlobSettings} {v : Nat} (u : SupplyContext) (h : ¬v < g.uvLevel0) (h2 : ¬g.uvLevel2 ≤ v) :
    undervoltStep g v u = { u with lowRun := 0, highRun := 0 } := by
  have hlow : lowBand g v = false := Bool.eq_false_of_not_eq_true fun hv => h ((lowBand_iff g v).mp hv)
  have hhigh : highBand g v = false := Bool.eq_false_of_not_eq_true fun hv => h2 ((highBand_iff g v).mp hv).2
  simp [undervoltStep, hlow, hhigh]

/-! ### The mask counter -/

theorem maskStep_mask (g : GlobSettings) (v : Nat) (u : SupplyContext) : (maskStep g v u).mask =
    if v < g.dipLevel ∨ (∃ p, u.prev = some p ∧ (g.dipStep : Int) ≤ |(v : Int) - p|) then g.maskLength else u.mask - 1 :=
  if_congr (isDip_iff g v u.prev) rfl rfl

end Sys2Proof.Machine

namespace Sys2Proof.Proofs

open Sys2Proof.Machine

/-- Settles O50: the runs and UNDERVOLT band by band, then the mask counter, which reads nothing that the bands step. -/
theorem voltageStageStepsTheSupplyMonitor : Obligations.VoltageStageStepsTheSupplyMonitor := by
  intro g v u t
  have hbands : t.lowRun = (undervoltStep g v u).lowRun ∧ t.highRun = (undervoltStep g v u).highRun ∧
      t.undervolt = (undervoltStep g v u).undervolt := ⟨rfl, rfl, rfl⟩
  have hmask : t.mask = _ := maskStep_mask g v (undervoltStep g v u)
  obtain ⟨hlow, hhigh, hunder⟩ := hbands
  rw [hlow, hhigh, hunder]
  by_cases h : v < g.uvLevel0
  · rw [undervoltStep_low u h]
    refine ⟨?_, ?_, ?_, hmask, rfl, rfl⟩ <;> simp [h]
  · by_cases h2 : g.uvLevel2 ≤ v
    · rw [undervoltStep_high u h h2]
      refine ⟨?_, ?_, ?_, hmask, rfl, rfl⟩ <;> simp [h, h2]
    · rw [undervoltStep_between u h h2]
      refine ⟨?_, ?_, ?_, hmask, rfl, rfl⟩ <;> simp [h, h2]

end Sys2Proof.Proofs
end

section
/-! The grant decision of a cycle start: the winner of the queue, and the motion it starts (06 R132 to R135, 01 R26). -/

namespace Sys2Proof.Machine

open Sys2Proof.Claim

section
variable {s : State} {e : Entry}

/-! ### The winner (06 R134) -/

theorem State.eligible_iff (s : State) (x : Entry) : s.eligible x = true ↔ ¬sideMoving s x.channel := by
  rw [State.eligible, Bool.not_eq_true', ← Bool.not_eq_true]
  exact not_congr (panelMoving_iff s x.channel)

/-- The eligible entry of a class that is earliest in the queue. -/
def State.winnerOf (s : State) (cls : Source) : Option Entry :=
  s.arb.queue.find? fun x => s.eligible x && decide (x.motion.cls = cls)

theorem State.winner_eq (s : State) : s.winner = (s.winnerOf .user).or ((s.winnerOf .rain).or (s.winnerOf .global)) := rfl

theorem State.winnerOf_eq_none {cls : Source} (h : ∀ x ∈ s.arb.queue, sideMoving s x.channel ∨ x.motion.cls ≠ cls) :
    s.winnerOf cls = none := by
  rw [State.winnerOf, List.find?_eq_none]
  intro x hx
  rw [Bool.and_eq_true, s.eligible_iff, decide_eq_true_iff]
  exact fun ⟨hstill, hcls⟩ => (h x hx).elim hstill (· hcls)

theorem State.winnerOf_eq_some {before later : List Entry} (hq : s.arb.queue = before ++ e :: later)
    (he : ¬sideMoving s e.channel) (hbefore : ∀ x ∈ before, sideMoving s x.channel ∨ x.motion.cls ≠ e.motion.cls) :
    s.winnerOf e.motion.cls = some e := by
  rw [State.winnerOf, List.find?_eq_some_iff_append]
  refine ⟨?_, before, later, hq, fun x hx => ?_⟩
  · rw [Bool.and_eq_true, s.eligible_iff, decide_eq_true_iff]
    exact ⟨he, rfl⟩
  · rw [Bool.not_eq_true', ← Bool.not_eq_true, Bool.and_eq_true, s.eligible_iff, decide_eq_true_iff]
    exact fun ⟨hstill, hcls⟩ => (hbefore x hx).elim hstill (· hcls)

/-- With no entry of a better class the winner is that of its class. -/
theorem State.winner_of_class {cls : Source} (hbest : ∀ better, classRank better < classRank cls → s.winnerOf better = none)
    (h : s.winnerOf cls = some e) : s.winner = some e := by
  rw [State.winner_eq]
  cases cls with
  | user => rw [h]; rfl
  | rain => rw [hbest .user (by decide), h]; rfl
  | global => rw [hbest .user (by decide), hbest .rain (by decide), h]; rfl

theorem State.winner_eq_none (h : ∀ x ∈ s.arb.queue, sideMoving s x.channel) : s.winner = none := by
  have hnone (cls : Source) : s.winnerOf cls = none := State.winnerOf_eq_none fun x hx => .inl (h x hx)
  rw [State.winner_eq, hnone, hnone, hnone]; rfl

/-- An eligible entry wins where the eligible ones before it are of a worse class, and those behind it of no better one. -/
theorem State.winner_eq_some {before later : List Entry} (hq : s.arb.queue = before ++ e :: later)
    (he : ¬sideMoving s e.channel)
    (hbefore : ∀ x ∈ before, sideMoving s x.channel ∨ classRank e.motion.cls < classRank x.motion.cls)
    (hlater : ∀ x ∈ later, sideMoving s x.channel ∨ classRank e.motion.cls ≤ classRank x.motion.cls) : s.winner = some e := by
  have hall : ∀ x ∈ s.arb.queue, sideMoving s x.channel ∨ classRank e.motion.cls ≤ classRank x.motion.cls := by
    rw [hq, List.forall_mem_append, List.forall_mem_cons]
    exact ⟨fun x hx => (hbefore x hx).imp_right le_of_lt, .inr le_rfl, hlater⟩
  have hbest (better : Source) (hlt : classRank better < classRank e.motion.cls) : s.winnerOf better = none :=
    State.winnerOf_eq_none fun x hx => (hall x hx).imp_right fun hle hcls => absurd hlt (by rw [← hcls]; exact not_lt.mpr hle)
  exact State.winner_of_class hbest (State.winnerOf_eq_some hq he fun x hx =>
    (hbefore x hx).imp_right fun hlt hcls => absurd hlt (by rw [hcls]; exact lt_irrefl _))

/-! ### The decision (06 R132, R133) -/

theorem State.grantsNow_iff (s : State) : s.grantsNow = true ↔
    s.arb.slots.toList.countP (fun b => b) < s.stg.image.glob.slots ∧ s.ctx.crank = false ∧
      s.stg.image.glob.stagger ≤ s.arb.stagger := by
  rw [State.grantsNow, Bool.and_eq_true, Bool.and_eq_true, decide_eq_true_iff, decide_eq_true_iff, Bool.not_eq_true', and_assoc]
  rfl

/-- The state at the grant decision: the stagger count has risen, held at 16. -/
def State.staggered (s : State) : State := { s with arb := { s.arb with stagger := min 16 (s.arb.stagger + 1) } }

theorem State.arbitrate_waits (h : s.staggered.grantsNow = true → s.staggered.winner = none) : s.arbitrate = s.staggered := by
  unfold State.arbitrate; dsimp only
  rw [← State.staggered]
  split
  · next hg => rw [h hg]
  · rfl

theorem State.arbitrate_grants (hg : s.staggered.grantsNow = true) (hw : s.staggered.winner = some e) :
    s.arbitrate = s.staggered.grant e := by
  unfold State.arbitrate; dsimp only
  rw [← State.staggered, if_pos hg, hw]

/-! ### The grant (06 R135) -/

/-- The unit of a channel granted into OPENING. -/
theorem State.chans_grant_toOpen (s : State) (hd : e.motion.dir = .toOpen) : (s.grant e).chans.get e.channel =
    { s.chans.get e.channel with
      ctl := { (s.chans.get e.channel).ctl with st := .opening, motion := some e.motion }
      eng := ChannelUnit.engLeaving (s.chans.get e.channel) } := by
  simp [State.grant, hd]

/-- The unit of a channel granted into CLOSING: the stroke opens. -/
theorem State.chans_grant_toClosed (s : State) (hd : e.motion.dir = .toClosed) : (s.grant e).chans.get e.channel =
    { s.chans.get e.channel with
      ctl := { (s.chans.get e.channel).ctl with st := .closing, motion := some e.motion }
      eng := openEngine (s.cset e.channel) (ChannelUnit.engLeaving (s.chans.get e.channel))
      sup := { (s.chans.get e.channel).sup with strokeMask := 0 }
      prof := ProfileContext.openStroke (s.chans.get e.channel).prof s.phase (s.chans.get e.channel).rev.level } := by
  simp only [State.grant, hd, State.openStroke, State.chans_modChan, Oct.get_set_self]; rfl

/-- The four items that a stroke opens with stand whether or not a stroke in hand closed first (02 R31, R32). -/
theorem openEngine_engLeaving (cs : ChanSettings) (u : ChannelUnit) : openEngine cs (ChannelUnit.engLeaving u) =
    { u.eng with f16 := 0, first := true, acc := 0, blank := cs.blanking } := by
  unfold ChannelUnit.engLeaving; split <;> rfl

theorem State.ctl_grant (s : State) (e : Entry) : ((s.grant e).chans.get e.channel).ctl =
    { (s.chans.get e.channel).ctl with
      st := if e.motion.dir = .toOpen then .opening else .closing, motion := some e.motion } := by
  cases hd : e.motion.dir with
  | toOpen => rw [s.chans_grant_toOpen hd]; rfl
  | toClosed => rw [s.chans_grant_toClosed hd]; rfl

end

end Sys2Proof.Machine

namespace Sys2Proof.Proofs

open Sys2Proof.Machine Sys2Proof.Claim

/-- Settles O41: the cycle start keeps the channels and the arbiter as the grant decision leaves them, which either grants nothing
or grants the winner. -/
theorem grantDecisionGrantsTheWinner : Obligations.GrantDecisionGrantsTheWinner := by
  intro s hr ht hp stagger held
  have hrow : exec .branchCycleStart s = .next s.cycleStart :=
    execBranchCycleStart_next hr ((isDue_iff_reached _ _).mpr ht) (by rw [hp]; decide)
  have hblocks : s.cycleStart.arb = s.arbitrate.arb ∧ s.cycleStart.chans = s.arbitrate.chans := ⟨rfl, rfl⟩
  obtain ⟨harb, hchans⟩ := hblocks
  refine ⟨s.cycleStart, hrow, ?_⟩
  rw [harb, hchans]
  constructor
  · intro hbars
    have hwaits : s.arbitrate = s.staggered := State.arbitrate_waits fun hg => by
      obtain ⟨hfree, hcrank, hcount⟩ := s.staggered.grantsNow_iff.mp hg
      rcases hbars with hfull | hc | hshort | hmoving
      · exact absurd hfree (not_lt.mpr hfull)
      · exact absurd (hc.symm.trans hcrank) (by decide)
      · exact absurd hcount (not_le.mpr hshort)
      · exact State.winner_eq_none hmoving
    rw [hwaits]
    exact ⟨rfl, rfl⟩
  · intro before later e hfree hcrank hcount hq he hbefore hlater
    have hgrants : s.arbitrate = s.staggered.grant e :=
      State.arbitrate_grants (s.staggered.grantsNow_iff.mpr ⟨hfree, hcrank, hcount⟩)
        (State.winner_eq_some hq he hbefore hlater)
    rw [hgrants]
    refine ⟨s.staggered.arb_grant e, s.staggered.ctl_grant e, fun hd => ?_, fun hd => ?_, (onlyChannel_grant s.staggered e).chans⟩
    · rw [s.staggered.chans_grant_toClosed hd]
      exact ⟨openEngine_engLeaving _ _, rfl, Bins.get_const none, rfl, decide_eq_true_iff, decide_eq_true_iff, decide_eq_true_iff,
        rfl, rfl⟩
    · rw [s.staggered.chans_grant_toOpen hd]
      exact ⟨rfl, rfl⟩

end Sys2Proof.Proofs
end

section
/-! The slots of a cycle in their order: none of them touches what the cycle runs by, and the slot whose turn it is ends SILENT
where a row passes over it (07 R143, log 32). -/

namespace Sys2Proof.Machine

section
variable {s t : State} {a : Node} {c : Chan} {n : Nat}

/-! ### What no slot touches -/

/-- What says when a cycle starts, and in which part: the reset unit, the time and the branch cycle timer. -/
def State.clockwork (s : State) : ResetUnit × Nat × Option Nat := (s.rst, s.now, s.br.timer)

theorem State.clockwork_eq_iff : t.clockwork = s.clockwork ↔ t.rst = s.rst ∧ t.now = s.now ∧ t.br.timer = s.br.timer := by
  simp only [State.clockwork, Prod.mk.injEq]

theorem OnlyChannel.clockwork (h : OnlyChannel c s t) : t.clockwork = s.clockwork :=
  State.clockwork_eq_iff.mpr ⟨h.rst, h.now, congrArg BranchPort.timer h.br⟩

theorem SampleReach.clockwork (h : SampleReach c s t) : t.clockwork = s.clockwork := by
  obtain ⟨⟨-, -, -, -, hrst, hnow, -⟩, hbr, -⟩ := h
  exact State.clockwork_eq_iff.mpr ⟨hrst, hnow, congrArg BranchPort.timer hbr⟩

theorem State.clockwork_rebind (s : State) (old : Oct Nat) : (s.rebind old).clockwork = s.clockwork :=
  foldl_octIndexes_field _ State.clockwork (fun s c => (onlyChannel_judgeBinding old s c).clockwork) s

theorem State.clockwork_enterPhase (s : State) (p : Phase) : (s.enterPhase p).clockwork = s.clockwork := by
  unfold State.enterPhase; split <;> rfl

theorem State.clockwork_endRun (s : State) : s.endRun.clockwork = s.clockwork := by
  have h : (s.runOver.rebind s.runOver.nodeAddrs).clockwork = s.clockwork := s.runOver.clockwork_rebind s.runOver.nodeAddrs
  rw [State.endRun_eq]; dsimp only
  generalize s.runOver.rebind s.runOver.nodeAddrs = t at h ⊢
  split
  · exact (State.clockwork_enterPhase _ _).trans h
  · exact h

theorem State.clockwork_makeRecord (s : State) (r : NodeRecord) : (s.makeRecord r).clockwork = s.clockwork := by
  unfold State.makeRecord; dsimp only; split
  · exact State.clockwork_endRun _
  · rfl

theorem State.clockwork_missOffer (s : State) : s.missOffer.clockwork = s.clockwork := by
  unfold State.missOffer; dsimp only; split
  · exact State.clockwork_endRun _
  · rfl

theorem State.clockwork_rejoinNode (s : State) (a : Node) (mismatch : Bool) :
    (s.rejoinNode a mismatch).clockwork = s.clockwork := by
  unfold State.rejoinNode; split
  · rfl
  · split
    · rfl
    · dsimp only
      rw [State.clockwork_rebind]; split
      · rfl
      · exact (onlyChannel_setCauses _ _ _).clockwork

theorem onlyChannel_channelLosesNode (s : State) (c : Chan) : OnlyChannel c s (s.channelLosesNode c) := by
  unfold State.channelLosesNode; dsimp only; split
  · exact (onlyChannel_setCauses s c _).trans (onlyChannel_modCtl _ c _)
  · exact onlyChannel_setCauses s c _

theorem State.clockwork_declareLost (s : State) (a : Node) : (s.declareLost a).clockwork = s.clockwork := by
  unfold State.declareLost; dsimp only; split
  · exact (onlyChannel_channelLosesNode _ _).clockwork
  · rfl

theorem State.clockwork_windowEnd (s : State) (a : Node) : (s.windowEnd a).clockwork = s.clockwork := by
  unfold State.windowEnd; dsimp only; split
  · rfl
  · split
    · exact State.clockwork_declareLost _ a
    · rfl

theorem onlyChannel_blindStop (s : State) (c : Chan) : OnlyChannel c s (s.blindStop c) :=
  ((onlyChannel_teachFail s c .blind).trans (onlyChannel_vacate _ c .idle)).trans (onlyChannel_modCtl _ c _)

theorem State.clockwork_blindTest (s : State) (a : Node) : (s.blindTest a).clockwork = s.clockwork := by
  unfold State.blindTest; split
  · split
    · exact (onlyChannel_blindStop s _).clockwork
    · rfl
  · rfl

theorem State.clockwork_goodSlot (s : State) (a : Node) (m : Sample) : (s.goodSlot a m).clockwork = s.clockwork := by
  unfold State.goodSlot; dsimp only
  rw [State.clockwork_windowEnd]; split
  · exact (sampleReach_applySample _ _ m _ _).clockwork
  · rfl

theorem State.clockwork_badSlot (s : State) (a : Node) : (s.badSlot a).clockwork = s.clockwork := by
  unfold State.badSlot; dsimp only; split
  · rw [State.clockwork_declareLost, State.clockwork_blindTest]; rfl
  · rw [State.clockwork_windowEnd, State.clockwork_blindTest]; rfl

theorem State.clockwork_readSlotEnds (s : State) (a : Node) (content : SlotContent) :
    (s.readSlotEnds a content).clockwork = s.clockwork := by
  unfold State.readSlotEnds; dsimp only; split
  · rfl
  · split
    · exact State.clockwork_makeRecord _ _
    · exact State.clockwork_rejoinNode _ a _

theorem State.clockwork_endReplySlot (s : State) (a : Node) (content : SlotContent) :
    (s.endReplySlot a content).clockwork = s.clockwork := by
  show (s.replySlotEnds a content).clockwork = s.clockwork
  unfold State.replySlotEnds; split
  · exact s.clockwork_readSlotEnds a content
  · split
    · split
      · exact s.clockwork_goodSlot a _
      all_goals exact s.clockwork_badSlot a
    · rfl

theorem State.clockwork_slot0Ends (s : State) (content : SlotContent) : (s.slot0Ends content).clockwork = s.clockwork := by
  unfold State.slot0Ends; dsimp only; split
  · rfl
  · split
    · exact State.clockwork_makeRecord _ _
    · rfl
  · split
    · exact State.clockwork_missOffer _
    · rfl
  · split
    · exact State.clockwork_rejoinNode _ _ _
    · rfl
  · rfl

theorem State.clockwork_silentUpTo (s : State) (n : Nat) : (s.silentUpTo n).clockwork = s.clockwork :=
  foldl_octIndexes_field _ State.clockwork (fun s a => by
    split
    · exact s.clockwork_endReplySlot a .silent
    · rfl) s

theorem State.clockwork_slot0Row (s : State) (content : SlotContent) : (s.slot0Row content).clockwork = s.clockwork := by
  have hsilent := s.clockwork_silentUpTo 8
  unfold State.slot0Row
  generalize s.silentUpTo 8 = t at hsilent ⊢
  split
  · exact (t.clockwork_slot0Ends content).trans hsilent
  · rfl

theorem State.rst_endReplySlot (s : State) (a : Node) (content : SlotContent) : (s.endReplySlot a content).rst = s.rst :=
  (State.clockwork_eq_iff.mp (s.clockwork_endReplySlot a content)).1

/-! ### Slots passed over -/

/-- The first of the slots passed over is the one whose turn it is; the others follow from there. -/
theorem State.silentUpTo_first (hp : s.br.place = a.val) (ha : a.val < n) :
    s.silentUpTo n = (s.endReplySlot a .silent).silentUpTo n := by
  have hu : (s.endReplySlot a .silent).br.place = a.val + 1 := rfl
  have key : ∀ l : List Node, l.Pairwise (· < ·) → a ∈ l →
      l.foldl (fun s b => if s.br.place ≤ b.val ∧ b.val < n then s.endReplySlot b .silent else s) s =
      l.foldl (fun s b => if s.br.place ≤ b.val ∧ b.val < n then s.endReplySlot b .silent else s) (s.endReplySlot a .silent) := by
    intro l
    induction l with
    | nil => exact fun _ h => nomatch h
    | cons b l ih =>
      intro hsorted hmem
      obtain ⟨hfirst, hrest⟩ := List.pairwise_cons.mp hsorted
      rw [List.foldl_cons, List.foldl_cons]
      rcases List.mem_cons.mp hmem with rfl | hlater
      · rw [if_pos ⟨by omega, ha⟩, if_neg (by omega)]
      · have hlt : b.val < a.val := hfirst a hlater
        rw [if_neg (by omega), if_neg (by omega)]
        exact ih hrest hlater
  exact key octIndexes (by decide) (mem_octIndexes a)

/-- The row of a later slot finds the slot whose turn it is ended with nothing received. -/
theorem State.replySlotRow_passing {b : Node} (content : SlotContent) (hp : s.br.place = a.val) (hab : a.val < b.val) :
    s.replySlotRow b content = (s.endReplySlot a .silent).replySlotRow b content := by
  have hu : (s.endReplySlot a .silent).br.place = a.val + 1 := rfl
  rw [State.replySlotRow, State.replySlotRow, if_pos (by omega), if_pos (by omega), State.silentUpTo_first hp hab]

/-- So does the row of slot 0. -/
theorem State.slot0Row_passing (content : SlotContent) (hp : s.br.place = a.val) :
    s.slot0Row content = (s.endReplySlot a .silent).slot0Row content := by
  have hu : (s.endReplySlot a .silent).br.place = a.val + 1 := rfl
  rw [State.slot0Row, State.slot0Row, if_pos (by omega), if_pos (by omega), State.silentUpTo_first hp a.isLt]

/-- A cycle start that finds slots outstanding starts as after the row of a silent slot 0. -/
theorem State.cycle_after_slot0 (hr : s.rst.active = false) (ht : isDue s.br.timer s.now = true) (hp : s.br.place ≤ 8) :
    execBranchCycleStart s = execBranchCycleStart (s.slot0Row .silent) := by
  obtain ⟨hrst, hnow, htimer⟩ := State.clockwork_eq_iff.mp (s.clockwork_slot0Row .silent)
  have hplace : (s.slot0Row .silent).br.place = 9 := by rw [State.slot0Row, if_pos hp]; rfl
  have hstarts : execBranchCycleStart (s.slot0Row .silent) = .next (s.slot0Row .silent).cycleStart :=
    execBranchCycleStart_next (hrst ▸ hr) (by rw [hnow, htimer]; exact ht) (by rw [hplace]; decide)
  rw [hstarts, execBranchCycleStart, whileRunning_running s _ hr, if_pos ht]

end

end Sys2Proof.Machine

namespace Sys2Proof.Proofs

open Sys2Proof.Machine Sys2Proof.Claim

/-- Settles O40: rows of slots that are over, of the slot whose turn it is, and of slots beyond it; then the cycle start. -/
theorem slotsEndInTheirOrder : Obligations.SlotsEndInTheirOrder := by
  intro s content hr
  have row (u : State) (hu : u.rst.active = false) (a : Node) (content : SlotContent) :
      exec (.replySlotEnd a content) u = .next (u.replySlotRow a content) := whileRunning_running u _ hu
  have row0 (u : State) (hu : u.rst.active = false) (content : SlotContent) :
      exec (.slot0End content) u = .next (u.slot0Row content) := whileRunning_running u _ hu
  have silent (a : Node) (hp : s.br.place = a.val) : exec (.replySlotEnd a .silent) s = .next (s.endReplySlot a .silent) := by
    rw [row s hr, State.replySlotRow_next .silent hp]
  have running (a : Node) : (s.endReplySlot a .silent).rst.active = false := by rw [s.rst_endReplySlot]; exact hr
  refine ⟨fun a ha => ?_, fun h => ?_, fun a ha => ⟨_, row s hr a content, ?_⟩, fun h => ⟨_, row0 s hr content, ?_⟩,
    fun a b hp hab => ⟨_, silent a hp, ?_⟩, fun a hp => ⟨_, silent a hp, ?_⟩, fun hp ht => ⟨_, row0 s hr .silent, ?_, ?_⟩⟩
  · rw [row s hr, State.replySlotRow_past content ha]
  · rw [row0 s hr, State.slot0Row_past content h]
  · rw [State.replySlotRow, if_pos ha]; rfl
  · rw [State.slot0Row, if_pos h]; rfl
  · rw [row s hr, row _ (running a), State.replySlotRow_passing content hp hab]
  · rw [row0 s hr, row0 _ (running a), State.slot0Row_passing content hp]
  · rw [State.slot0Row, if_pos hp]; rfl
  · exact State.cycle_after_slot0 hr ((isDue_iff_reached _ _).mpr ht) hp

end Sys2Proof.Proofs
end

section
/-! A sample reads nothing of the branch port and leaves it alone: what the bound channel makes of it is the same whatever the
node contexts hold (01 R9, 02 R33). -/

namespace Sys2Proof.Machine

/-- The state with another branch port. -/
def State.withBr (s : State) (b : BranchPort) : State := { s with br := b }

section
variable (s : State) (b : BranchPort) (c : Chan)

@[simp] theorem State.br_withBr : (s.withBr b).br = b := rfl
@[simp] theorem State.chan_withBr : (s.withBr b).chan c = s.chan c := rfl
@[simp] theorem State.cset_withBr : (s.withBr b).cset c = s.cset c := rfl
@[simp] theorem State.glob_withBr : (s.withBr b).glob = s.glob := rfl
@[simp] theorem State.phase_withBr : (s.withBr b).phase = s.phase := rfl
@[simp] theorem State.stg_withBr : (s.withBr b).stg = s.stg := rfl
@[simp] theorem State.carried_withBr : (s.withBr b).carried c = s.carried c := rfl
@[simp] theorem State.withBr_withBr (b' : BranchPort) : (s.withBr b).withBr b' = s.withBr b' := rfl
@[simp] theorem State.ite_withBr (p : Prop) [Decidable p] (t : State) :
    (if p then s else t).withBr b = if p then s.withBr b else t.withBr b := apply_ite (State.withBr · b) p s t

@[simp] theorem State.modCtl_withBr (f : ChannelRecord → ChannelRecord) :
    (s.withBr b).modCtl c f = (s.modCtl c f).withBr b := rfl
@[simp] theorem State.modEng_withBr (f : EngineContext → EngineContext) :
    (s.withBr b).modEng c f = (s.modEng c f).withBr b := rfl
@[simp] theorem State.modProf_withBr (f : ProfileContext → ProfileContext) :
    (s.withBr b).modProf c f = (s.modProf c f).withBr b := rfl
@[simp] theorem State.modRev_withBr (f : ReversalContext → ReversalContext) :
    (s.withBr b).modRev c f = (s.modRev c f).withBr b := rfl
@[simp] theorem State.modSup_withBr (f : SupplyContext → SupplyContext) :
    (s.withBr b).modSup c f = (s.modSup c f).withBr b := rfl
@[simp] theorem State.setSt_withBr (dst : ChanState) : (s.withBr b).setSt c dst = (s.setSt c dst).withBr b := rfl
@[simp] theorem State.vacate_withBr (dst : ChanState) : (s.withBr b).vacate c dst = (s.vacate c dst).withBr b := rfl
@[simp] theorem State.refuse_withBr (why : RefusalReason) : (s.withBr b).refuse c why = (s.refuse c why).withBr b := rfl

/-! ### Causes, the reference, and the counter (01 R5 to R13) -/

@[simp] theorem State.teachFail_withBr (why : TeachReason) : (s.withBr b).teachFail c why = (s.teachFail c why).withBr b := by
  simp only [State.teachFail, State.chan_withBr, State.modProf_withBr, State.ite_withBr]
  rfl

@[simp] theorem State.setCauses_withBr (k : Causes) : (s.withBr b).setCauses c k = (s.setCauses c k).withBr b := by
  simp only [State.setCauses, State.chan_withBr, State.modCtl_withBr, State.teachFail_withBr, State.vacate_withBr,
    State.setSt_withBr, State.ite_withBr]
  rfl

@[simp] theorem State.loseReference_withBr : (s.withBr b).loseReference c = (s.loseReference c).withBr b := by
  simp only [State.loseReference, State.chan_withBr, State.modCtl_withBr, State.carried_withBr, State.teachFail_withBr,
    State.vacate_withBr, State.refuse_withBr, State.ite_withBr]
  cases (s.modCtl c fun r => { r with referenced := false }).carried c with
  | none => rfl
  | some m => simp only [State.ite_withBr]

@[simp] theorem State.sampleCauses_withBr (m : Sample) (mismatch : Bool) :
    (s.withBr b).sampleCauses c m mismatch = (s.sampleCauses c m mismatch).withBr b := by
  simp only [State.sampleCauses, State.chan_withBr, State.setCauses_withBr, State.loseReference_withBr, State.ite_withBr]

@[simp] theorem State.driftStop_withBr : (s.withBr b).driftStop c = (s.driftStop c).withBr b := by
  simp only [State.driftStop, State.chan_withBr, State.teachFail_withBr, State.vacate_withBr, State.ite_withBr]

@[simp] theorem State.movePosition_withBr (delta : Int) :
    (s.withBr b).movePosition c delta = (s.movePosition c delta).withBr b := by
  simp only [State.movePosition, State.chan_withBr, State.modCtl_withBr, State.driftStop_withBr, State.loseReference_withBr,
    State.ite_withBr]

@[simp] theorem State.sampleCounter_withBr (m : Sample) (k : Nat) :
    (s.withBr b).sampleCounter c m k = (s.sampleCounter c m k).withBr b := by
  simp only [State.sampleCounter, State.rebase, State.chan_withBr, State.cset_withBr, State.modCtl_withBr,
    State.driftStop_withBr, State.loseReference_withBr, State.movePosition_withBr, State.ite_withBr]
  cases (s.chan c).ctl.base with
  | none => rfl
  | some o => simp only [State.ite_withBr]

/-! ### The ends of a motion (01 R14 to R16, 04 R92) -/

@[simp] theorem State.reversalClosedEnd_withBr : (s.withBr b).reversalClosedEnd c = (s.reversalClosedEnd c).withBr b := by
  simp only [State.reversalClosedEnd, State.phase_withBr, State.modRev_withBr, State.ite_withBr]
  rfl

@[simp] theorem State.endTests_withBr (atEnd : Bool) (before : Int) :
    (s.withBr b).endTests c atEnd before = (s.endTests c atEnd before).withBr b := by
  simp only [State.endTests, State.unreferencedEnd, State.chan_withBr, State.cset_withBr, State.vacate_withBr,
    State.modCtl_withBr, State.reversalClosedEnd_withBr]
  cases (s.chan c).ctl.st with
  | opening => cases (s.chan c).ctl.motion.bind Motion.target <;> exact (State.ite_withBr _ b _ _).symm
  | closing => simp only [State.ite_withBr]; rfl
  | reversing => exact (State.ite_withBr _ b _ _).symm
  | _ => rfl

@[simp] theorem State.profileClosedEnd_withBr (k : Int) :
    (s.withBr b).profileClosedEnd c k = (s.profileClosedEnd c k).withBr b := by
  have learns : (s.withBr b).learn c k = (s.learn c k).withBr b := by
    have hlearns : (s.withBr b).learns c k = s.learns c k := rfl
    simp only [State.learn, hlearns, State.stg_withBr, State.cset_withBr, State.modProf_withBr, State.ite_withBr]
  have teaches : (s.withBr b).teachEnd c k = (s.teachEnd c k).withBr b := by
    have copies (t : State) (f : Image → Image) :
        ((t.withBr b).modImage f).copyBaseline c = ((t.modImage f).copyBaseline c).withBr b := rfl
    simp only [State.teachEnd, State.chan_withBr, State.cset_withBr, State.modProf_withBr, copies, State.ite_withBr]
    rfl
  simp only [State.profileClosedEnd, State.chan_withBr, learns, teaches, State.ite_withBr]

@[simp] theorem State.closedEndStop_withBr : (s.withBr b).closedEndStop c = (s.closedEndStop c).withBr b := by
  simp only [State.closedEndStop, State.chan_withBr, State.cset_withBr, State.vacate_withBr, State.modCtl_withBr,
    State.profileClosedEnd_withBr, State.reversalClosedEnd_withBr]
  rfl

/-! ### A closing sample (02 R33) -/

@[simp] theorem State.trip_withBr (cause : TripCause) (ref margin acc : Nat) :
    (s.withBr b).trip c cause ref margin acc = (s.trip c cause ref margin acc).withBr b := by
  simp only [State.trip, State.takeTrip, State.teachFail_withBr]
  rfl

/-- Steps 6 and 7 hand on the same accumulator, and a state that differs in the branch port alone. -/
@[simp] theorem State.accumulate_withBr :
    (s.withBr b).accumulate c = ((s.accumulate c).1.withBr b, (s.accumulate c).2) := by
  have repairs (x : Fin 64) : (s.withBr b).repairBin c x = (s.repairBin c x).withBr b := by
    simp only [State.repairBin, State.stg_withBr, State.chan_withBr, State.cset_withBr, State.modProf_withBr,
      State.modCtl_withBr, State.ite_withBr]
    rfl
  have margin (t : State) : (t.withBr b).marginStack c = t.marginStack c := rfl
  simp only [State.accumulate, State.chan_withBr, State.cset_withBr, repairs, margin, State.modEng_withBr, State.trip_withBr]
  split <;> rfl

@[simp] theorem State.judgeSample_withBr (m : Sample) (blanked : Bool) :
    (s.withBr b).judgeSample c m blanked = ((s.judgeSample c m blanked).1.withBr b, (s.judgeSample c m blanked).2) := by
  have hflat : (s.withBr b).flatLimit c = s.flatLimit c := rfl
  have hzone (p : Int) : (s.withBr b).effectiveZone c p = s.effectiveZone c p := rfl
  have hmask : (s.withBr b).maskHolds c = s.maskHolds c := rfl
  have hprot : (s.withBr b).flatProtection c = s.flatProtection c := rfl
  simp only [State.judgeSample, State.chan_withBr, hflat, hzone, hmask, hprot, State.trip_withBr, State.closedEndStop_withBr,
    State.accumulate_withBr]
  split
  · rfl
  · split
    · rfl
    · split
      · rfl
      · split <;> rfl

@[simp] theorem State.closingSample_withBr (m : Sample) : (s.withBr b).closingSample c m = (s.closingSample c m).withBr b := by
  have enters : (s.withBr b).enterSample c m.current.toNat = (s.enterSample c m.current.toNat).withBr b := rfl
  have peaks (t : State) (acc : Nat) : (t.withBr b).peakStep c acc = (t.peakStep c acc).withBr b := rfl
  simp only [State.closingSample, State.chan_withBr, enters, State.judgeSample_withBr, peaks]
  rfl

/-! ### The sample as a whole -/

theorem State.applySample_withBr (m : Sample) (k : Nat) (mismatch : Bool) :
    (s.withBr b).applySample c m k mismatch = (s.applySample c m k mismatch).withBr b := by
  have counts (t : State) : (t.withBr b).countStage c = (t.countStage c).withBr b := by
    simp only [State.countStage, State.chan_withBr, State.modSup_withBr, State.ite_withBr]
    rfl
  have first : (((s.withBr b).modSup c (voltageStage (s.withBr b).glob m.volt.toNat)).channelSample c m k mismatch).countStage c =
      (((s.modSup c (voltageStage s.glob m.volt.toNat)).channelSample c m k mismatch).countStage c).withBr b := by
    simp only [State.channelSample, State.glob_withBr, State.modSup_withBr, State.chan_withBr, State.sampleCauses_withBr,
      State.sampleCounter_withBr, State.endTests_withBr, counts]
  unfold State.applySample; dsimp only
  rw [first, State.closingSample_withBr]
  exact (State.ite_withBr _ b _ _).symm

end

end Sys2Proof.Machine
end

section
/-! The slot of a judged node: its outcome, a GOOD sample taken, a bad slot counted, and the blind stop (07 R147 to R155). -/

namespace Sys2Proof

/-- The node of a GOOD slot, heard and counted in its window. -/
def NodeContext.goodCounted (n : NodeContext) (m : Machine.Sample) : NodeContext :=
  { n with badRun := 0, since := 0, keep := some m.keep, winPos := n.winPos + 1 }

/-- The node of a bad slot: its run and its window have risen. -/
def NodeContext.badCounted (n : NodeContext) : NodeContext :=
  { n with badRun := min 63 (n.badRun + 1), winPos := n.winPos + 1, winBad := min 512 (n.winBad + 1) }

end Sys2Proof

namespace Sys2Proof.Machine

open Sys2Proof.Claim

section
variable {s t : State} {a : Node} {c : Chan} {r : NodeRecord} {m : Sample} {content : SlotContent}

/-! ### Outcomes (07 R149, R150) -/

theorem slotOutcome_crcBad {bits : List Bool} (keep : Option (BitVec 2)) (h : sampleOf bits = none) :
    slotOutcome keep (.frame bits) = .crcBad := by
  unfold slotOutcome; dsimp only; rw [h]

theorem slotOutcome_sample {bits : List Bool} (keep : Option (BitVec 2)) (h : sampleOf bits = some m) :
    slotOutcome keep (.frame bits) = if m.freshStart = false ∧ keep = some m.keep then .stale else .good m := by
  unfold slotOutcome; dsimp only; rw [h]

/-! ### What the row does by the outcome -/

/-- The slot of an address with no record or a LOST one is not judged. -/
theorem exec_of_unjudged (hrst : s.rst.active = false) (hplace : s.br.place = a.val) (hreading : s.enr.reading ≠ some a)
    (h : ∀ r : NodeRecord, s.enr.table.get a = some r → r.st = .lost) :
    exec (.replySlotEnd a content) s = .next (s.toPlace (a.val + 1)) := by
  have hslot : s.replySlotEnds a content = s := by
    unfold State.replySlotEnds
    rw [if_neg hreading, if_neg fun hj => ?_]
    obtain ⟨r, hr, hst⟩ := (s.isJudged_iff a).mp hj
    exact hst (h r hr)
  exact (execReplySlotEnd_next content hrst hplace).trans (by rw [hslot])

theorem exec_of_good (hrst : s.rst.active = false) (hplace : s.br.place = a.val) (hreading : s.enr.reading ≠ some a)
    (hr : s.enr.table.get a = some r) (hst : r.st ≠ .lost) (hgood : slotOutcome (s.br.nodes.get a).keep content = .good m) :
    exec (.replySlotEnd a content) s = .next ((s.goodSlot a m).toPlace (a.val + 1)) := by
  have hslot : s.replySlotEnds a content = s.goodSlot a m := by
    unfold State.replySlotEnds
    rw [if_neg hreading, if_pos ((s.isJudged_iff a).mpr ⟨r, hr, hst⟩), hgood]
  exact (execReplySlotEnd_next content hrst hplace).trans (by rw [hslot])

theorem exec_of_bad (hrst : s.rst.active = false) (hplace : s.br.place = a.val) (hreading : s.enr.reading ≠ some a)
    (hr : s.enr.table.get a = some r) (hst : r.st ≠ .lost)
    (hbad : ∀ m, slotOutcome (s.br.nodes.get a).keep content ≠ .good m) :
    exec (.replySlotEnd a content) s = .next ((s.badSlot a).toPlace (a.val + 1)) := by
  have hslot : s.replySlotEnds a content = s.badSlot a := by
    unfold State.replySlotEnds
    rw [if_neg hreading, if_pos ((s.isJudged_iff a).mpr ⟨r, hr, hst⟩)]
    cases ho : slotOutcome (s.br.nodes.get a).keep content with
    | good m => exact absurd ho (hbad m)
    | _ => rfl
  exact (execReplySlotEnd_next content hrst hplace).trans (by rw [hslot])

/-! ### A GOOD slot: the sample taken (07 R151, R152, log 18) -/

/-- The state once the channel bound to the address, if there is one, has taken the sample. -/
def State.applied (s : State) (a : Node) (m : Sample) : State :=
  match s.channelOf a with
  | some c => (s.heard a m).applySample c m (s.br.nodes.get a).since (s.isMismatch a)
  | none => s.heard a m

theorem State.applied_unbound (h : ∀ c : Chan, s.channelOf a ≠ some c) : s.applied a m = s.heard a m := by
  unfold State.applied
  rw [Option.eq_none_iff_forall_ne_some.mpr h]

/-- The sample is applied first; then the slot is counted in the window. -/
theorem State.goodSlot_eq (s : State) (a : Node) (m : Sample) :
    s.goodSlot a m = ((s.applied a m).modNode a fun n => NodeContext.count n false).windowEnd a := by
  unfold State.applied
  cases hc : s.channelOf a with
  | some c => exact State.goodSlot_of_channelOf hc
  | none =>
    have hc' : State.channelOf (s.modNode a fun n => { n with badRun := 0, keep := some m.keep, since := 0 }) a = none := hc
    unfold State.goodSlot; dsimp only
    rw [hc']
    rfl

/-- What the bound channel makes of the sample leaves the node as heard, the global settings, and the node records. -/
theorem State.applied_frame (s : State) (a : Node) (m : Sample) : (s.applied a m).br = (s.heard a m).br ∧
    (s.applied a m).stg.image.glob = s.stg.image.glob ∧ (s.applied a m).enr = s.enr := by
  unfold State.applied; split
  · next c _ =>
    obtain ⟨⟨-, henr, -⟩, hbr, hglob⟩ := sampleReach_applySample (s.heard a m) c m (s.br.nodes.get a).since (s.isMismatch a)
    exact ⟨hbr, hglob, henr⟩
  · exact ⟨rfl, rfl, rfl⟩

/-- With the slot counted, the state is that of the sample, but for the node. -/
theorem State.applied_counted (s : State) (a : Node) (m : Sample) :
    ((s.applied a m).modNode a fun n => NodeContext.count n false) =
      (s.applied a m).withBr { s.br with nodes := s.br.nodes.set a ((s.br.nodes.get a).goodCounted m) } := by
  unfold State.modNode State.withBr
  rw [(s.applied_frame a m).1]
  simp only [State.heard, State.br_modNode, Oct.get_set_self, Oct.set_set]
  rfl

/-- A GOOD slot short of a window end. -/
theorem State.goodSlot_short (h : (s.br.nodes.get a).winPos + 1 < 64 * 2 ^ s.stg.image.glob.gradeWindow) : s.goodSlot a m =
    (s.applied a m).withBr { s.br with nodes := s.br.nodes.set a ((s.br.nodes.get a).goodCounted m) } := by
  rw [State.goodSlot_eq, State.applied_counted, State.windowEnd_short]
  rw [State.stg_withBr, (s.applied_frame a m).2.1, State.br_withBr, Oct.get_set_self]
  exact h

/-! ### A bad slot: the run and the window counted (07 R153) -/

/-- The state with a bad slot counted. -/
def State.missed (s : State) (a : Node) : State := s.modNode a NodeContext.badCounted

theorem State.nodes_missed (s : State) (a : Node) : (s.missed a).br.nodes.get a = (s.br.nodes.get a).badCounted :=
  Oct.get_set_self _ _ _

/-- The blind stop test leaves the branch port and the settings. -/
theorem State.blindTest_frame (s : State) (a : Node) : (s.blindTest a).br = s.br ∧ (s.blindTest a).stg = s.stg := by
  unfold State.blindTest; split
  · next c _ =>
    split
    · exact ⟨(onlyChannel_blindStop s c).br, (onlyChannel_blindStop s c).stg⟩
    · exact ⟨rfl, rfl⟩
  · exact ⟨rfl, rfl⟩

/-- A bad slot whose run reaches LOST_COUNT loses the node (07 R156). -/
theorem State.badSlot_loses (h : s.stg.image.glob.lostCount ≤ min 63 ((s.br.nodes.get a).badRun + 1)) :
    s.badSlot a = ((s.missed a).blindTest a).declareLost a := by
  obtain ⟨hbr, hstg⟩ := (s.missed a).blindTest_frame a
  refine if_pos ?_
  show ((s.missed a).blindTest a).stg.image.glob.lostCount ≤ (((s.missed a).blindTest a).br.nodes.get a).badRun
  rw [hbr, hstg, State.nodes_missed]
  exact h

/-- Below LOST_COUNT it goes on to the window end (07 R158). -/
theorem State.badSlot_counts (h : min 63 ((s.br.nodes.get a).badRun + 1) < s.stg.image.glob.lostCount) :
    s.badSlot a = ((s.missed a).blindTest a).windowEnd a := by
  obtain ⟨hbr, hstg⟩ := (s.missed a).blindTest_frame a
  refine if_neg (not_le.mpr ?_)
  show (((s.missed a).blindTest a).br.nodes.get a).badRun < ((s.missed a).blindTest a).stg.image.glob.lostCount
  rw [hbr, hstg, State.nodes_missed]
  exact h

/-- A bad slot short of a window end. -/
theorem State.badSlot_short (h : (s.br.nodes.get a).winPos + 1 < 64 * 2 ^ s.stg.image.glob.gradeWindow)
    (hrun : min 63 ((s.br.nodes.get a).badRun + 1) < s.stg.image.glob.lostCount) :
    s.badSlot a = (s.missed a).blindTest a := by
  obtain ⟨hbr, hstg⟩ := (s.missed a).blindTest_frame a
  rw [State.badSlot_counts hrun, State.windowEnd_short]
  rw [hbr, hstg, State.nodes_missed]
  exact h

/-! ### The blind stop (07 R155) -/

theorem moves_iff (s : State) (c : Chan) : moves s c ↔ inMotion (s.chan c).ctl.st = true := (inMotion_iff _).symm

/-- Below BLIND_COUNT, or with no channel in motion on the address, nothing stops. -/
theorem State.blindTest_stays
    (h : (s.br.nodes.get a).badRun < s.stg.image.glob.blindCount ∨ ∀ c : Chan, s.channelOf a = some c → ¬moves s c) :
    s.blindTest a = s := by
  unfold State.blindTest; split
  · next c hc =>
    refine if_neg fun ⟨hblind, hmoves⟩ => ?_
    exact h.elim (not_lt.mpr hblind) fun hstill => hstill c hc ((moves_iff s c).mpr hmoves)
  · rfl

theorem State.blindTest_stops (hc : s.channelOf a = some c) (hmoves : moves s c)
    (h : s.stg.image.glob.blindCount ≤ (s.br.nodes.get a).badRun) : s.blindTest a = s.blindStop c := by
  unfold State.blindTest
  rw [hc]
  exact if_pos ⟨h, (moves_iff s c).mp hmoves⟩

/-- A blind stop, by the unit of the channel and the arbiter. -/
theorem State.blindStop_eq (s : State) (c : Chan) :
    s.blindStop c = s.having c (blindStopped (s.chans.get c)) (SlotArbiter.drop s.arb c) := by
  unfold State.blindStop
  rw [← State.having_self s c, State.teachFail_having, State.vacate_having, State.modCtl, State.modChan_having]
  simp only [State.having_self]
  rfl

end

end Sys2Proof.Machine

namespace Sys2Proof.Proofs

open Sys2Proof.Machine Sys2Proof.Claim

/-- Settles O43: the outcomes, the slots that carry nothing on, and the two outcomes of the blind stop test. -/
theorem badSlotsCountAndStopBlindMotion : Obligations.BadSlotsCountAndStopBlindMotion := by
  refine ⟨fun keep => ⟨rfl, fun bits => ⟨slotOutcome_crcBad keep, fun m hm => ⟨fun h => ?_, fun h => ?_⟩⟩⟩,
    fun s a content hrst hplace hreading => ⟨exec_of_unjudged hrst hplace hreading, fun r m hr hst hgood hnone hwin => ?_⟩,
    fun s a r content hrst hplace hreading hr hst hbad => ?_⟩
  · rw [slotOutcome_sample keep hm, if_pos h]
  · have hnew : ¬(m.freshStart = false ∧ keep = some m.keep) := fun ⟨hfresh, hkeep⟩ =>
      h.elim (fun hf => nomatch hfresh.symm.trans hf) (· hkeep)
    rw [slotOutcome_sample keep hm, if_neg hnew]
  · rw [exec_of_good hrst hplace hreading hr hst hgood, State.goodSlot_short hwin, State.applied_unbound hnone]
    rfl
  · intro n hwin hrun n'
    rw [exec_of_bad hrst hplace hreading hr hst hbad, State.badSlot_short hwin hrun]
    have hbadRun : ((s.missed a).br.nodes.get a).badRun = min 63 (n.badRun + 1) := by rw [State.nodes_missed]; rfl
    refine ⟨fun h => ?_, fun c hc hmoves hblind => ?_⟩
    · rw [State.blindTest_stays (s := s.missed a) (by rw [hbadRun]; exact h)]
      rfl
    · rw [State.blindTest_stops (s := s.missed a) hc hmoves (by rw [hbadRun]; exact hblind), State.blindStop_eq]
      rfl

end Sys2Proof.Proofs
end

section
/-! Grades and lost nodes: the window end of a bad and of a GOOD slot, and the loss of a node (07 R156 to R161, 08 R172). -/

namespace Sys2Proof

/-- The node at a window end: its window at 0, its grade set, and its worst grade the lower where the grade changes (07 R158 to
R160). -/
def NodeContext.graded (n : NodeContext) (grade : Nat) : NodeContext :=
  { n with winPos := 0, winBad := 0, grade := grade, worst := if grade = n.grade then n.worst else min n.worst grade }

/-- The context of a lost node: its grades and window are 0 (07 R161, R162). -/
def NodeContext.lost (n : NodeContext) : NodeContext := { n with winPos := 0, winBad := 0, grade := 0, worst := 0 }

/-- The unit of a channel whose node is lost: NODE_LOST among its causes, which inhibits it where it had none, and its reference
gone if it was in motion (01 R5, R6). -/
def ChannelUnit.losing (u : ChannelUnit) : ChannelUnit :=
  let k : Causes := { u.ctl.causes with nodeLost := true }
  let v := if u.ctl.causes = Claim.noCauses then u.inhibitedBy k else u.causing k
  if Machine.inMotion u.ctl.st then v.unreferenced else v

end Sys2Proof

namespace Sys2Proof.Machine

open Sys2Proof.Claim

section
variable {s t u : State} {a : Node} {c : Chan} {r : NodeRecord} {m : Sample} {n : NodeContext}

/-! ### The candidate grade (07 R159) -/

/-- The candidate is the first of the grades 7 to 1 whose threshold the count meets. -/
theorem candidateGrade_cases (g : GlobSettings) (bad : Nat) :
    (candidateGrade g bad = 0 ∧ ∀ k, 1 ≤ k → k ≤ 7 → g.q k < bad) ∨
    (1 ≤ candidateGrade g bad ∧ candidateGrade g bad ≤ 7 ∧ bad ≤ g.q (candidateGrade g bad) ∧
      ∀ k, candidateGrade g bad < k → k ≤ 7 → g.q k < bad) := by
  have hmem (k : Nat) : k ∈ [7, 6, 5, 4, 3, 2, 1] ↔ 1 ≤ k ∧ k ≤ 7 := by
    simp only [List.mem_cons, List.not_mem_nil, or_false]; omega
  unfold candidateGrade
  cases hfind : [7, 6, 5, 4, 3, 2, 1].find? fun k => decide (bad ≤ g.q k) with
  | none =>
    refine .inl ⟨rfl, fun k h1 h7 => ?_⟩
    have hk := List.find?_eq_none.mp hfind k ((hmem k).mpr ⟨h1, h7⟩)
    exact not_le.mp fun hle => hk (decide_eq_true hle)
  | some cand =>
    rw [Option.getD_some]
    obtain ⟨hcand, higher, lower, hlist, hhigher⟩ := List.find?_eq_some_iff_append.mp hfind
    have hrange := (hmem cand).mp (List.mem_of_find?_eq_some hfind)
    refine .inr ⟨hrange.1, hrange.2, of_decide_eq_true hcand, fun k hlt h7 => ?_⟩
    have hsorted : (higher ++ cand :: lower).Pairwise (· > ·) := hlist ▸ by decide
    have hk : k ∈ higher ++ cand :: lower := hlist ▸ (hmem k).mpr ⟨by omega, h7⟩
    have hkhigher : k ∈ higher := by
      rcases List.mem_append.mp hk with h | h
      · exact h
      · rcases List.mem_cons.mp h with rfl | h
        · omega
        · have := (List.pairwise_cons.mp (List.pairwise_append.mp hsorted).2.1).1 k h
          omega
    exact not_le.mp fun hle => by simpa [hle] using hhigher k hkhigher

/-- The grade after a window: down to the candidate, up by one with GRADE_HYST to spare, or as it stands. -/
theorem nextGrade_cases (g : GlobSettings) (grade bad : Nat) :
    (candidateGrade g bad < grade → nextGrade g grade bad = candidateGrade g bad) ∧
    (grade < candidateGrade g bad →
      nextGrade g grade bad = if bad + g.gradeHyst ≤ g.q (grade + 1) then grade + 1 else grade) ∧
    (candidateGrade g bad = grade → nextGrade g grade bad = grade) := by
  unfold nextGrade; dsimp only
  refine ⟨fun h => if_pos h, fun h => ?_, fun h => ?_⟩
  · rw [if_neg (by omega)]
    exact if_congr (and_iff_right h) rfl rfl
  · rw [if_neg (by omega), if_neg (by omega)]

/-! ### The window end (07 R158) -/

/-- A window end that leaves a grade. -/
theorem State.windowEnd_grades (h : 64 * 2 ^ s.stg.image.glob.gradeWindow ≤ (s.br.nodes.get a).winPos)
    (hg : nextGrade s.stg.image.glob (s.br.nodes.get a).grade (s.br.nodes.get a).winBad ≠ 0) :
    s.windowEnd a = s.modNode a
      (·.graded (nextGrade s.stg.image.glob (s.br.nodes.get a).grade (s.br.nodes.get a).winBad)) :=
  (if_neg (not_lt.mpr h)).trans (if_neg hg)

/-- A window end at which the grade is 0 loses the node (07 R161). -/
theorem State.windowEnd_loses (h : 64 * 2 ^ s.stg.image.glob.gradeWindow ≤ (s.br.nodes.get a).winPos)
    (hg : nextGrade s.stg.image.glob (s.br.nodes.get a).grade (s.br.nodes.get a).winBad = 0) :
    s.windowEnd a = (s.modNode a (·.graded 0)).declareLost a := by
  have hends : s.windowEnd a = (s.modNode a
      (·.graded (nextGrade s.stg.image.glob (s.br.nodes.get a).grade (s.br.nodes.get a).winBad))).declareLost a :=
    (if_neg (not_lt.mpr h)).trans (if_pos hg)
  rw [hends, hg]

/-! ### The loss of a node (07 R156, R161, 08 R172) -/

theorem scheduleEmpty_iff (sch : Oct Bool) : scheduleEmpty sch = true ↔ ∀ b : Node, sch.get b = false := by
  unfold scheduleEmpty
  rw [Oct.all_iff]
  exact forall_congr' fun b => by rw [Bool.not_eq_true']

/-- What the enrollment unit keeps of a lost node. -/
theorem EnrollmentUnit.lose_eq {e : EnrollmentUnit} (hr : e.table.get a = some r) : EnrollmentUnit.lose e a = { e with
    table := e.table.set a (some { r with st := .lost, mark := r.mark || decide (r.st = .mismatch) })
    schedule := e.schedule.set a true
    rejoinCount := if scheduleEmpty e.schedule then 0 else e.rejoinCount } := by
  unfold EnrollmentUnit.lose; rw [hr]; rfl

/-- The bound channel of a lost node, by its unit and the arbiter. -/
theorem State.channelLosesNode_eq (s : State) (c : Chan) : s.channelLosesNode c =
    s.having c (s.chans.get c).losing
      (if (s.chans.get c).ctl.causes = noCauses then SlotArbiter.drop s.arb c else s.arb) := by
  generalize hu : s.chans.get c = u
  have hself : s = s.having c u s.arb := by rw [← hu, State.having_self]
  have hk : ({ u.ctl.causes with nodeLost := true } : Causes) ≠ noCauses := fun h => nomatch congrArg Causes.nodeLost h
  have hcauses : s.setCauses c { u.ctl.causes with nodeLost := true } =
      s.having c (if u.ctl.causes = noCauses then u.inhibitedBy { u.ctl.causes with nodeLost := true }
          else u.causing { u.ctl.causes with nodeLost := true })
        (if u.ctl.causes = noCauses then SlotArbiter.drop s.arb c else s.arb) := by
    by_cases hwas : u.ctl.causes = noCauses
    · rw [if_pos hwas, if_pos hwas, ← State.setCauses_having_inhibits hwas hk, ← hself]
    · rw [if_neg hwas, if_neg hwas, ← State.setCauses_having_stays (iff_of_false hwas hk), ← hself]
  unfold State.channelLosesNode ChannelUnit.losing; dsimp only
  rw [show s.chan c = u from hu, hcauses]
  split
  · rw [State.modCtl, State.modChan_having]; rfl
  · rfl

theorem losing_causes (u : ChannelUnit) : u.losing.ctl.causes = { u.ctl.causes with nodeLost := true } := by
  unfold ChannelUnit.losing; dsimp only
  split <;> split <;> rfl

theorem losing_referenced (u : ChannelUnit) :
    u.losing.ctl.referenced = if inMotion u.ctl.st then false else u.ctl.referenced := by
  unfold ChannelUnit.losing; dsimp only
  split
  · rfl
  · split <;> rfl

/-- A channel free of causes is inhibited by the loss. -/
theorem losing_inhibited {u : ChannelUnit} (h : u.ctl.causes = noCauses) : u.losing.ctl.st = .inhibited := by
  unfold ChannelUnit.losing; dsimp only
  rw [if_pos h]
  split <;> rfl

/-- The loss of a node, as the statements say it. -/
theorem losesNode_declareLost (hr : s.enr.table.get a = some r) : losesNode s (s.declareLost a) a r (s.br.nodes.get a) := by
  generalize hbase : ({ s.modNode a NodeContext.lost with enr := EnrollmentUnit.lose s.enr a } : State) = t
  have hchan (c : Chan) (hc : s.channelOf a = some c) : s.declareLost a = t.channelLosesNode c := by
    rw [← hbase]; unfold State.declareLost; rw [hc]; rfl
  have hnone (hc : s.channelOf a = none) : s.declareLost a = t := by
    rw [← hbase]; unfold State.declareLost; rw [hc]; rfl
  have hchans : t.chans = s.chans := by rw [← hbase]; rfl
  obtain ⟨henr, hbr, hstg, htrk, hctx, hothers⟩ : (s.declareLost a).enr = t.enr ∧ (s.declareLost a).br = t.br ∧
      (s.declareLost a).stg = t.stg ∧ (s.declareLost a).trk = t.trk ∧ (s.declareLost a).ctx = t.ctx ∧
      ∀ d : Chan, s.channelOf a ≠ some d → (s.declareLost a).chans.get d = t.chans.get d := by
    cases hc : s.channelOf a with
    | none => rw [hnone hc]; exact ⟨rfl, rfl, rfl, rfl, rfl, fun _ _ => rfl⟩
    | some c =>
      rw [hchan c hc]
      have only := onlyChannel_channelLosesNode t c
      exact ⟨only.enr, only.br, only.stg, only.trk, only.ctx, fun d hd => only.chans d fun h => hd (h ▸ rfl)⟩
  have hlose : (s.declareLost a).enr = { s.enr with
      table := s.enr.table.set a (some { r with st := .lost, mark := r.mark || decide (r.st = .mismatch) })
      schedule := s.enr.schedule.set a true
      rejoinCount := if scheduleEmpty s.enr.schedule then 0 else s.enr.rejoinCount } := by
    rw [henr, ← hbase]; exact EnrollmentUnit.lose_eq hr
  refine ⟨?_, fun hempty => ?_, fun ⟨b, hb⟩ => ?_, ?_, ?_, ?_, ?_, fun d hd => ?_, fun c hc => ?_⟩
  · rw [hlose]
  · rw [hlose]; exact if_pos ((scheduleEmpty_iff _).mpr hempty)
  · rw [hlose]; exact if_neg fun h => nomatch ((scheduleEmpty_iff _).mp h b).symm.trans hb
  · rw [hbr, ← hbase]; rfl
  · rw [hstg, ← hbase]; rfl
  · rw [htrk, ← hbase]; rfl
  · rw [hctx, ← hbase]; rfl
  · rw [hothers d hd, hchans]
  · have hunit : (s.declareLost a).chans.get c = (s.chans.get c).losing := by
      rw [hchan c hc, State.channelLosesNode_eq, State.chans_having, hchans]
    rw [hunit, losing_causes, losing_referenced]
    refine ⟨rfl, fun hcauses => ⟨losing_inhibited hcauses, ?_⟩, fun hm => if_pos ((moves_iff s c).mp hm),
      fun hm => if_neg fun h => hm ((moves_iff s c).mpr h)⟩
    have harb : (s.declareLost a).arb = SlotArbiter.drop t.arb c := by
      rw [hchan c hc, State.channelLosesNode_eq, hchans, if_pos hcauses]; rfl
    exact ⟨by rw [harb]; exact Oct.get_set_self _ _ _, State.entryOf_of_drop harb⟩

/-- Where the node stands, and how far the cycle has come, is no part of the loss. -/
theorem losesNode_withBr {b b' : BranchPort} {n' : NodeContext} (h : losesNode s t a r n)
    (hb : b' = { b with nodes := b.nodes.set a n'.lost }) : losesNode (s.withBr b) (t.withBr b') a r n' := by
  obtain ⟨henr, hempty, hstands, -, hstg, htrk, hctx, hothers, hchan⟩ := h
  exact ⟨henr, hempty, hstands, hb, hstg, htrk, hctx, hothers, hchan⟩

/-- A window end at which the grade is 0 loses the node as it stood before. -/
theorem losesNode_windowEnd (hr : s.enr.table.get a = some r)
    (h : 64 * 2 ^ s.stg.image.glob.gradeWindow ≤ (s.br.nodes.get a).winPos)
    (hg : nextGrade s.stg.image.glob (s.br.nodes.get a).grade (s.br.nodes.get a).winBad = 0) :
    losesNode s (s.windowEnd a) a r (s.br.nodes.get a) := by
  have hlost := losesNode_declareLost (s := s.modNode a (·.graded 0)) (a := a) hr
  rw [State.windowEnd_loses h hg]
  generalize (s.modNode a (·.graded 0)).declareLost a = u at hlost ⊢
  have hu : u.br = { s.br with nodes := s.br.nodes.set a (s.br.nodes.get a).lost } := by
    obtain ⟨-, -, -, hbr, -⟩ := hlost
    rw [hbr, State.br_modNode, Oct.get_set_self, Oct.set_set]
    rfl
  exact losesNode_withBr (s := s.modNode a (·.graded 0)) (t := u) (b := s.br) (b' := u.br) hlost hu

/-! ### A bad slot at a window end or at LOST_COUNT -/

theorem one_lt_window (g : GlobSettings) : 1 < 64 * 2 ^ g.gradeWindow := by
  have := Nat.one_le_two_pow (n := g.gradeWindow)
  omega

/-- The blind stop test reads the run of the node, and nothing else of the branch port. -/
theorem State.blindTest_withBr {b : BranchPort} (h : (b.nodes.get a).badRun = (s.br.nodes.get a).badRun) :
    (s.withBr b).blindTest a = (s.blindTest a).withBr b := by
  have hchan : (s.withBr b).channelOf a = s.channelOf a := rfl
  have stops (c : Chan) : (s.withBr b).blindStop c = (s.blindStop c).withBr b := by
    simp only [State.blindStop, State.teachFail_withBr, State.vacate_withBr, State.modCtl_withBr]
  unfold State.blindTest
  rw [hchan, State.br_withBr, h]
  cases s.channelOf a with
  | none => rfl
  | some c =>
    dsimp only
    rw [stops, State.ite_withBr]
    rfl

/-- The blind stop test finds nothing to stop, or stops the bound channel. -/
theorem State.blindTest_cases (s : State) (a : Node) :
    (s.blindTest a = s ∧
      ∀ c : Chan, s.channelOf a = some c → (moves s c ↔ moves s c ∧ (s.br.nodes.get a).badRun < s.stg.image.glob.blindCount)) ∨
    ∃ c, s.blindTest a = s.having c (blindStopped (s.chans.get c)) (SlotArbiter.drop s.arb c) ∧ s.channelOf a = some c ∧
      s.stg.image.glob.blindCount ≤ (s.br.nodes.get a).badRun := by
  by_cases h : (s.br.nodes.get a).badRun < s.stg.image.glob.blindCount ∨ ∀ c : Chan, s.channelOf a = some c → ¬moves s c
  · exact .inl ⟨State.blindTest_stays h, fun c hc => ⟨fun hm => ⟨hm, h.resolve_right fun hstill => hstill c hc hm⟩, And.left⟩⟩
  · rw [not_or, not_lt] at h
    obtain ⟨hblind, hmoving⟩ := h
    push Not at hmoving
    obtain ⟨c, hc, hm⟩ := hmoving
    exact .inr ⟨c, by rw [State.blindTest_stops hc hm hblind, State.blindStop_eq], hc, hblind⟩

/-- What the blind stop test leaves of the channel bound to the address: its causes and its reference; after it the channel is in
motion where it was and the run is below BLIND_COUNT (07 R155, 01 R26). -/
theorem State.blindTest_chan (hc : s.channelOf a = some c) :
    ((s.blindTest a).chans.get c).ctl.causes = (s.chans.get c).ctl.causes ∧
    ((s.blindTest a).chans.get c).ctl.referenced = (s.chans.get c).ctl.referenced ∧
    (moves (s.blindTest a) c ↔ moves s c ∧ (s.br.nodes.get a).badRun < s.stg.image.glob.blindCount) := by
  rcases s.blindTest_cases a with ⟨hstays, hmoves⟩ | ⟨d, hstops, hd, hblind⟩
  · rw [hstays]; exact ⟨rfl, rfl, hmoves c hc⟩
  · obtain rfl : c = d := Option.some.inj (hc.symm.trans hd)
    have hidle : ((s.blindTest a).chans.get c).ctl.st = .idle := by rw [hstops, State.chans_having]; rfl
    refine ⟨by rw [hstops, State.chans_having]; rfl, by rw [hstops, State.chans_having]; rfl,
      iff_of_false (fun hm => ?_) fun hm => absurd hm.2 (not_lt.mpr hblind)⟩
    unfold moves at hm
    rw [hidle] at hm
    exact hm.elim nofun fun h => h.elim nofun nofun

/-- What it leaves of the rest: the records, the trunk port, the context, the other channels, and which channel is bound. -/
theorem State.blindTest_rest (s : State) (a : Node) : (s.blindTest a).enr = s.enr ∧ (s.blindTest a).trk = s.trk ∧
    (s.blindTest a).ctx = s.ctx ∧ (∀ d : Chan, s.channelOf a ≠ some d → (s.blindTest a).chans.get d = s.chans.get d) ∧
    (s.blindTest a).channelOf a = s.channelOf a := by
  rcases s.blindTest_cases a with ⟨hstays, -⟩ | ⟨c, hstops, hc, -⟩
  · rw [hstays]; exact ⟨rfl, rfl, rfl, fun _ _ => rfl, rfl⟩
  · rw [hstops]
    refine ⟨rfl, rfl, rfl, fun d hd => Oct.get_set_ne _ _ fun h => hd (h ▸ hc), ?_⟩
    have hpresent (d : Chan) : ((s.having c (blindStopped (s.chans.get c)) (SlotArbiter.drop s.arb c)).chans.get d).ctl.st ≠ .absent ↔
        (s.chans.get d).ctl.st ≠ .absent := by
      show ((s.chans.set c (blindStopped (s.chans.get c))).get d).ctl.st ≠ .absent ↔ _
      rw [Oct.get_set]; split
      · next h =>
        rw [h]
        exact iff_of_true nofun ((s.channelOf_eq_some a c).mp hc).1.1
      · rfl
    refine Option.ext fun d => ?_
    simp only [State.channelOf_eq_some, hpresent, State.stg_having]

/-- A bad slot that ends a window with a grade left. -/
theorem State.badSlot_grades (hrun : min 63 ((s.br.nodes.get a).badRun + 1) < s.stg.image.glob.lostCount)
    (hends : 64 * 2 ^ s.stg.image.glob.gradeWindow ≤ (s.br.nodes.get a).winPos + 1)
    (hg : nextGrade s.stg.image.glob (s.br.nodes.get a).grade (min 512 ((s.br.nodes.get a).winBad + 1)) ≠ 0) :
    s.badSlot a = ((s.missed a).blindTest a).withBr { s.br with nodes := s.br.nodes.set a ((s.br.nodes.get a).badCounted.graded
      (nextGrade s.stg.image.glob (s.br.nodes.get a).grade (min 512 ((s.br.nodes.get a).winBad + 1)))) } := by
  obtain ⟨hbr, hstg⟩ := (s.missed a).blindTest_frame a
  have hstg' : ((s.missed a).blindTest a).stg = s.stg := hstg
  have hnode : ((s.missed a).blindTest a).br.nodes.get a = (s.br.nodes.get a).badCounted := by rw [hbr, State.nodes_missed]
  have hgrades := State.windowEnd_grades (s := (s.missed a).blindTest a) (a := a)
  rw [hnode, hstg'] at hgrades
  rw [State.badSlot_counts hrun, hgrades hends hg]
  unfold State.modNode State.withBr
  rw [hnode, hbr]
  unfold State.missed
  rw [State.br_modNode, Oct.set_set]
  rfl

/-- A bad slot whose run reaches LOST_COUNT, or whose window ends with grade 0, loses the node, judged on the channel as the blind
stop test has left it. -/
theorem State.losesNode_badSlot (hr : s.enr.table.get a = some r)
    (h : s.stg.image.glob.lostCount ≤ min 63 ((s.br.nodes.get a).badRun + 1) ∨
      (64 * 2 ^ s.stg.image.glob.gradeWindow ≤ (s.br.nodes.get a).winPos + 1 ∧
        nextGrade s.stg.image.glob (s.br.nodes.get a).grade (min 512 ((s.br.nodes.get a).winBad + 1)) = 0)) :
    losesNode ((s.missed a).blindTest a) (s.badSlot a) a r (s.br.nodes.get a).badCounted := by
  obtain ⟨hbr, hstg⟩ := (s.missed a).blindTest_frame a
  have hstg' : ((s.missed a).blindTest a).stg = s.stg := hstg
  have hnode : ((s.missed a).blindTest a).br.nodes.get a = (s.br.nodes.get a).badCounted := by rw [hbr, State.nodes_missed]
  have hr' : ((s.missed a).blindTest a).enr.table.get a = some r := by rw [((s.missed a).blindTest_rest a).1]; exact hr
  by_cases hrun : s.stg.image.glob.lostCount ≤ min 63 ((s.br.nodes.get a).badRun + 1)
  · rw [State.badSlot_loses hrun, ← hnode]
    exact losesNode_declareLost hr'
  · obtain ⟨hends, hg⟩ := h.resolve_left hrun
    have hloses := losesNode_windowEnd (s := (s.missed a).blindTest a) hr'
    rw [hnode, hstg'] at hloses
    rw [State.badSlot_counts (not_le.mp hrun)]
    exact hloses hends hg

/-! ### A GOOD slot at a window end -/

/-- The sample is applied in the same way whatever the node's window holds. -/
theorem State.applied_withBr {b : BranchPort} (h : (b.nodes.get a).since = (s.br.nodes.get a).since) :
    (s.withBr b).applied a m = (s.applied a m).withBr ((s.withBr b).heard a m).br := by
  have hchan : (s.withBr b).channelOf a = s.channelOf a := rfl
  have hmismatch : (s.withBr b).isMismatch a = s.isMismatch a := rfl
  have hheard : (s.withBr b).heard a m = (s.heard a m).withBr ((s.withBr b).heard a m).br := rfl
  unfold State.applied
  rw [hchan, hmismatch, State.br_withBr, h]
  cases s.channelOf a with
  | none => rfl
  | some c => dsimp only; rw [hheard, State.applySample_withBr]; rfl

/-- The state with a GOOD slot counted, before its window end is judged. -/
def State.scored (s : State) (a : Node) (m : Sample) : State :=
  (s.applied a m).withBr { s.br with nodes := s.br.nodes.set a ((s.br.nodes.get a).goodCounted m) }

theorem State.goodSlot_scored (s : State) (a : Node) (m : Sample) : s.goodSlot a m = (s.scored a m).windowEnd a := by
  rw [State.goodSlot_eq, State.applied_counted]; rfl

/-- What the window end of a GOOD slot reads. -/
theorem State.scored_frame (s : State) (a : Node) (m : Sample) :
    (s.scored a m).br.nodes.get a = (s.br.nodes.get a).goodCounted m ∧
    (s.scored a m).stg.image.glob = s.stg.image.glob ∧ (s.scored a m).enr = s.enr := by
  obtain ⟨-, hglob, henr⟩ := s.applied_frame a m
  exact ⟨Oct.get_set_self _ _ _, hglob, henr⟩

/-- A GOOD slot that ends a window with a grade left. -/
theorem State.goodSlot_grades (hends : 64 * 2 ^ s.stg.image.glob.gradeWindow ≤ (s.br.nodes.get a).winPos + 1)
    (hg : nextGrade s.stg.image.glob (s.br.nodes.get a).grade (s.br.nodes.get a).winBad ≠ 0) :
    s.goodSlot a m = (s.applied a m).withBr { s.br with nodes := s.br.nodes.set a (((s.br.nodes.get a).goodCounted m).graded
      (nextGrade s.stg.image.glob (s.br.nodes.get a).grade (s.br.nodes.get a).winBad)) } := by
  obtain ⟨hnode, hglob, -⟩ := s.scored_frame a m
  have hgrades := State.windowEnd_grades (s := s.scored a m) (a := a)
  rw [hnode, hglob] at hgrades
  rw [State.goodSlot_scored, hgrades hends hg]
  unfold State.modNode
  rw [hnode]
  unfold State.scored
  rw [State.br_withBr, Oct.set_set]
  rfl

/-- A GOOD slot whose window ends with grade 0 loses the node, judged on the channel as the sample has left it. -/
theorem State.losesNode_goodSlot (hr : s.enr.table.get a = some r)
    (hends : 64 * 2 ^ s.stg.image.glob.gradeWindow ≤ (s.br.nodes.get a).winPos + 1)
    (hg : nextGrade s.stg.image.glob (s.br.nodes.get a).grade (s.br.nodes.get a).winBad = 0) :
    losesNode (s.scored a m) (s.goodSlot a m) a r ((s.br.nodes.get a).goodCounted m) := by
  obtain ⟨hnode, hglob, henr⟩ := s.scored_frame a m
  have hloses := losesNode_windowEnd (s := s.scored a m) (a := a) (by rw [henr]; exact hr)
  rw [hnode, hglob] at hloses
  rw [State.goodSlot_scored]
  exact hloses hends hg

/-! ### The same slot with its window at 0 -/

/-- The node put in place once more, after the slot. -/
theorem State.renode (s : State) (b : BranchPort) (a : Node) (n n' : NodeContext) (place : Nat) :
    ((s.withBr { b with nodes := b.nodes.set a n }).toPlace place).modNode a (fun _ => n') =
      (s.withBr { b with nodes := b.nodes.set a n' }).toPlace place := by
  unfold State.modNode
  rw [State.br_toPlace, State.br_withBr, Oct.set_set]
  rfl

/-- The state in which the node's window stands at 0: its slot ends no window. -/
def State.elsewhere (s : State) (a : Node) : State := s.modNode a fun n => { n with winPos := 0 }

theorem State.nodes_elsewhere (s : State) (a : Node) :
    (s.elsewhere a).br.nodes.get a = { s.br.nodes.get a with winPos := 0 } := Oct.get_set_self _ _ _

/-- The row of a bad slot in it, which moves the run and the bad count alike and stops the same channel. -/
theorem State.badSlot_elsewhere (hrun : min 63 ((s.br.nodes.get a).badRun + 1) < s.stg.image.glob.lostCount) :
    (s.elsewhere a).badSlot a = ((s.missed a).blindTest a).withBr
      { s.br with nodes := s.br.nodes.set a { (s.br.nodes.get a).badCounted with winPos := 1 } } := by
  have hmissed : (s.elsewhere a).missed a = (s.missed a).withBr
      { s.br with nodes := s.br.nodes.set a { (s.br.nodes.get a).badCounted with winPos := 1 } } := by
    unfold State.missed State.elsewhere State.modNode State.withBr; dsimp only
    rw [Oct.get_set_self, Oct.set_set]
    rfl
  have hshort := State.badSlot_short (s := s.elsewhere a) (a := a)
  rw [State.nodes_elsewhere] at hshort
  rw [hshort (one_lt_window _) hrun, hmissed, State.blindTest_withBr]
  rw [State.nodes_missed, Oct.get_set_self]

/-- The row of a GOOD slot in it, which applies the sample alike. -/
theorem State.goodSlot_elsewhere (s : State) (a : Node) (m : Sample) : (s.elsewhere a).goodSlot a m = (s.applied a m).withBr
    { s.br with nodes := s.br.nodes.set a { (s.br.nodes.get a).goodCounted m with winPos := 1 } } := by
  have happlied : (s.elsewhere a).applied a m = (s.applied a m).withBr ((s.elsewhere a).heard a m).br :=
    State.applied_withBr (b := (s.elsewhere a).br) (by rw [State.nodes_elsewhere])
  have hshort := State.goodSlot_short (s := s.elsewhere a) (a := a) (m := m)
  rw [State.nodes_elsewhere] at hshort
  rw [hshort (one_lt_window _), happlied, State.withBr_withBr]
  unfold State.elsewhere
  rw [State.br_modNode, Oct.set_set]
  rfl

end

end Sys2Proof.Machine

namespace Sys2Proof.Proofs

open Sys2Proof.Machine Sys2Proof.Claim

/-- Settles O44: the candidate and the next grade, then the bad slot and the GOOD slot that end a window or lose the node. -/
theorem gradesFallAndNodesAreLost : Obligations.GradesFallAndNodesAreLost := by
  refine ⟨candidateGrade_cases, nextGrade_cases, fun s a r content hrst hplace hreading hr hst hbad => ?_,
    fun s a r content m hrst hplace hreading hr hst hgood => ?_⟩
  · intro n g run ends grade elsewhere ended
    have hexec := exec_of_bad hrst hplace hreading hr hst hbad
    refine ⟨fun hrun hblind hends hg => ?_,
      fun hrun hends hg => ⟨_, exec_of_bad (s := s.elsewhere a) hrst hplace hreading hr hst ?_, ?_⟩, fun h => ⟨_, hexec, ?_⟩⟩
    · have hstays := State.blindTest_stays (s := s.missed a) (a := a) (by rw [State.nodes_missed]; exact hblind)
      rw [hexec, State.badSlot_grades hrun hends hg, hstays]
      rfl
    · rw [State.nodes_elsewhere]; exact hbad
    · rw [hexec, State.badSlot_grades hrun hends hg, State.badSlot_elsewhere hrun]
      exact congrArg Host.Outcome.next (State.renode _ s.br a _ ended _).symm
    · have hlost := State.losesNode_badSlot hr h
      generalize s.badSlot a = t at hlost ⊢
      obtain ⟨henr, hempty, hstands, hbr, hstg, htrk, hctx, hothers, hchan⟩ := hlost
      obtain ⟨renr, rtrk, rctx, rothers, rbound⟩ := (s.missed a).blindTest_rest a
      obtain ⟨rbr, rstg⟩ := (s.missed a).blindTest_frame a
      rw [renr] at henr hempty hstands
      rw [rbound] at hothers hchan
      refine ⟨henr, hempty, hstands, ?_, hstg.trans rstg, htrk.trans rtrk, hctx.trans rctx,
        fun d hd => (hothers d hd).trans (rothers d hd), fun c hc => ?_⟩
      · rw [State.br_toPlace, hbr, rbr]
        unfold State.missed
        rw [State.br_modNode, Oct.set_set]
        rfl
      · obtain ⟨hcauses, hinhibits, hmoved, hrested⟩ := hchan c hc
        obtain ⟨rcauses, rreferenced, rmoves⟩ := State.blindTest_chan (s := s.missed a) hc
        rw [State.nodes_missed] at rmoves
        rw [rcauses] at hcauses hinhibits
        rw [rreferenced] at hrested
        refine ⟨hcauses, hinhibits, fun hm hrun => hmoved (rmoves.mpr ⟨hm, hrun⟩), fun hstill => hrested fun hm => ?_⟩
        obtain ⟨hmoves, hrun⟩ := rmoves.mp hm
        exact hstill.elim (· hmoves) fun hblind => absurd hrun (not_lt.mpr hblind)
  · intro n elsewhere grade ended hends
    have hexec := exec_of_good hrst hplace hreading hr hst hgood
    refine ⟨_, exec_of_good (m := m) (s := s.elsewhere a) hrst hplace hreading hr hst ?_, fun hg => ?_,
      fun hg => ⟨_, hexec, ?_⟩⟩
    · rw [State.nodes_elsewhere]; exact hgood
    · rw [hexec, State.goodSlot_grades hends hg, State.goodSlot_elsewhere]
      exact congrArg Host.Outcome.next (State.renode _ s.br a _ ended _).symm
    · have hlost := State.losesNode_goodSlot (m := m) hr hends hg
      rw [State.goodSlot_elsewhere]
      have hplaced : ((s.goodSlot a m).toPlace (a.val + 1)).br =
          { s.br with place := a.val + 1, nodes := (s.br.nodes.set a { n.goodCounted m with winPos := 1 }).set a ended.lost } := by
        obtain ⟨-, -, -, hbr, -⟩ := hlost
        rw [State.br_toPlace, hbr, Oct.set_set]
        unfold State.scored
        rw [State.br_withBr, Oct.set_set]
        rfl
      exact losesNode_withBr (s := s.scored a m) (t := s.goodSlot a m) (n' := ended)
        (b := { s.br with place := a.val + 1, nodes := s.br.nodes.set a { n.goodCounted m with winPos := 1 } }) hlost hplaced

end Sys2Proof.Proofs
end

section
/-! Cold resets: the values they set, the samples that take and end them, and the release (08 R164, R165, R167). -/

namespace Sys2Proof.Machine

open Sys2Proof.Claim

/-! ### What the statements name -/

/-- A cold reset holds every block at its cold reset value. -/
theorem coldBlocks_held {u : SettingsUnit} (hphase : u.phase = .starting) (hwrite : u.write = none) (hpos : u.scanPos = 0)
    (hpass : u.lastPass = none) (htimer : u.checkTimer = none) (r : ResetUnit) (free : Nat) (q : List Instr) :
    coldBlocks (State.held u r free q) := by
  refine ⟨fun c => ?_, rfl, rfl, rfl, fun a => Oct.get_const _ a, fun a => ⟨Oct.get_const _ a, Oct.get_const _ a⟩, rfl, rfl, rfl,
    rfl, rfl, hphase, hwrite, hpos, hpass, htimer, rfl⟩
  have hunit : (State.held u r free q).chans.get c = ChannelUnit.cold (Bins.const 0) := Oct.get_const _ c
  rw [hunit]
  exact ⟨rfl, rfl, rfl, rfl, rfl, rfl, rfl, fun b => Bins.get_const _ b, rfl, rfl, Oct.get_const _ c⟩

theorem storeVerifies_iff (t : Store) :
    storeVerifies t = true ↔ t.written = true ∧ t.torn = false ∧ checkValue t.image = t.check := by
  simp [storeVerifies, and_assoc]

/-- The read of a reset, as the statements say it (10 R186). -/
theorem storeRead_readStore (u : SettingsUnit) : storeRead u.store (readStore u) := by
  have hgood := storeVerifies_iff u.store
  have hblank : storeVerifies u.store = false → (u.store.written && !storeVerifies u.store) = u.store.written := fun h => by
    rw [h]; exact Bool.and_true _
  have hmarked : (storeVerifies u.store && u.store.mark) = true ↔
      (u.store.written = true ∧ u.store.torn = false ∧ checkValue u.store.image = u.store.check) ∧ u.store.mark = true := by
    rw [Bool.and_eq_true, hgood]
  refine ⟨fun h => ?_, fun h => ?_, fun h => ?_, fun h => ?_, rfl, rfl, rfl, rfl, rfl, rfl⟩
  · have hv := hgood.mpr h
    exact ⟨if_pos hv, by unfold readStore; rw [hv]; exact Bool.and_false _⟩
  · have hv : ¬storeVerifies u.store = true := fun hv => h (hgood.mp hv)
    exact ⟨if_neg hv, hblank (Bool.eq_false_of_not_eq_true hv)⟩
  · exact ⟨if_pos (hmarked.mpr h), if_pos (hmarked.mpr h)⟩
  · exact ⟨if_neg fun hm => h (hmarked.mp hm), if_neg fun hm => h (hmarked.mp hm)⟩

/-! ### Sources of a cold reset -/

section
variable {s : State} {v : Nat}

/-- A write in flight leaves the store written and not verifying, and no other leaves it anything but what it was (10 R187, R188). -/
theorem SettingsUnit.store_underReset (u : SettingsUnit) :
    (u.write = none → (SettingsUnit.underReset u).store = u.store) ∧
    (u.write ≠ none → (SettingsUnit.underReset u).store.written = true ∧ (SettingsUnit.underReset u).store.torn = true) := by
  rw [(SettingsUnit.underReset_store u).2]
  refine ⟨fun h => ?_, fun h => ?_⟩
  · rw [h]; simp [Store.interrupted]
  · rw [Option.isSome_iff_ne_none.mpr h]; simp [Store.interrupted]

/-- The fourth successive low sample of a running part (08 R165). -/
theorem State.supplySample_fourthLow (hv : v < 6000) (hhold : s.rst.supplyHold = false) (hlow : s.rst.lowCount = 3) :
    s.supplySample v =
      ((s.modRst fun r => { r with lowCount := 4 }).coldReset .supplyLow).modRst ResetUnit.beginHold := by
  have hcounts : supplyCounts v s.rst = { s.rst with lowCount := 4 } := by
    rw [supplyCounts_free v _ hhold, if_pos hv, hlow]; rfl
  rw [State.supplySample_resets s v (by rw [hcounts]; exact ⟨hhold, rfl⟩)]
  unfold State.modRst
  rw [hcounts]

/-- A sample of VBAT while a cold reset is held touches the counts and the hold of the supply monitor alone (08 R165). -/
theorem State.supplySample_held (h : s.rst.active = true) : ∃ r : ResetUnit, s.supplySample v = { s with rst := r } ∧
    r.cause = s.rst.cause ∧ r.active = true ∧ r.lineLow = s.rst.lineLow := by
  obtain ⟨hactive, hcause, hline⟩ := supplyCounts_frame v s.rst
  by_cases hfourth : (supplyCounts v s.rst).supplyHold = false ∧ (supplyCounts v s.rst).lowCount = 4
  · rw [State.supplySample_resets s v hfourth, State.coldReset_active (s.modRst (supplyCounts v)) .supplyLow (hactive.trans h)]
    exact ⟨ResetUnit.beginHold (supplyCounts v s.rst), rfl, hcause, hactive.trans h, hline⟩
  · rw [State.supplySample_counts s v hfourth]
    exact ⟨_, rfl, hcause, hactive.trans h, hline⟩

end

/-- Every row but those of the reset unit and STORAGE_FAULT is a command of a running part: it does nothing while a cold reset is
held (08 R164, log 7). -/
theorem exec_of_held {s : State} (h : s.rst.active = true) {i : Instr} (hpower : i ≠ .powerOn) (hline : ∀ low, i ≠ .resetLine low)
    (hcold : i ≠ .coldStart) (hsupply : ∀ v, i ≠ .supplySample v) (hfault : ∀ p, i ≠ .storageFault p) : exec i s = .next s := by
  cases i with
  | powerOn => exact absurd rfl hpower
  | resetLine low => exact absurd rfl (hline low)
  | coldStart => exact absurd rfl hcold
  | supplySample v => exact absurd rfl (hsupply v)
  | storageFault p => exact absurd rfl (hfault p)
  | _ => exact congrArg Host.Outcome.next (if_pos h)

end Sys2Proof.Machine

namespace Sys2Proof.Proofs

open Sys2Proof.Machine Sys2Proof.Claim

/-- Settles O4: the reset state block by block, with the read of a blank store. -/
theorem resetStateIsTheReleaseOfAColdReset : Obligations.ResetStateIsTheReleaseOfAColdReset := by
  refine ⟨coldBlocks_held (u := SettingsUnit.cold Store.blank) rfl rfl rfl rfl rfl State.reset.rst 0 [],
    storeRead_readStore (SettingsUnit.cold Store.blank), rfl, rfl, rfl, rfl, rfl, rfl, rfl, rfl, rfl, rfl, rfl, rfl, fun c b => ?_,
    by decide +kernel, by decide +kernel⟩
  have hunit : State.reset.chans.get c = ChannelUnit.cold (Bins.const 0) := Oct.get_const _ c
  rw [hunit]
  exact Bins.get_const _ b

/-- Settles O5: the blocks that a cold reset of a running part holds, whichever source takes it. -/
theorem coldResetSourcesResetEveryBlock : Obligations.ColdResetSourcesResetEveryBlock := by
  intro s hr held
  obtain ⟨hsame, htorn⟩ := SettingsUnit.store_underReset s.stg
  have holds (r : ResetUnit) (cause : ResetCause) (hactive : r.active = true) (hcause : r.cause = cause) :
      held (State.held (SettingsUnit.underReset s.stg) r s.freeCount s.pending) cause :=
    ⟨coldBlocks_held rfl rfl rfl rfl rfl r _ _, hactive, hcause, rfl, rfl, rfl, rfl, rfl, hsame, htorn, rfl, rfl, rfl, rfl, rfl, rfl⟩
  refine ⟨⟨_, rfl, ?_⟩, ⟨_, rfl, ?_⟩, fun v hv hhold hlow => ⟨_, rfl, ?_⟩⟩
  · rw [State.coldReset_running s _ hr]
    exact ⟨holds _ _ rfl rfl, rfl, rfl⟩
  · rw [if_pos rfl, State.coldReset_running s _ hr]
    exact ⟨holds _ _ rfl rfl, rfl⟩
  · rw [State.supplySample_fourthLow hv hhold hlow, State.coldReset_running (s.modRst fun r => { r with lowCount := 4 }) _ hr]
    exact ⟨holds _ _ rfl rfl, rfl, rfl⟩

/-- Settles O6: the sources and the other rows under a held cold reset, then the counts of the supply monitor. -/
theorem heldResetIsLengthenedAndSamplesAreCounted : Obligations.HeldResetIsLengthenedAndSamplesAreCounted := by
  refine ⟨fun s h => ⟨?_, ?_, rfl, fun v => ?_, fun i => exec_of_held h⟩, fun s v => ?_⟩
  · show execPowerOn s = _
    rw [execPowerOn, State.coldReset_active s _ h]; rfl
  · show execResetLine true s = _
    rw [execResetLine, if_pos rfl, State.coldReset_active s _ h]; rfl
  · obtain ⟨r, hsample, hframe⟩ := State.supplySample_held (v := v) h
    exact ⟨r, congrArg Host.Outcome.next hsample, hframe⟩
  · have counted (r : ResetUnit) (hr : supplyCounts v s.rst = r) (h : ¬(r.supplyHold = false ∧ r.lowCount = 4)) :
        exec (.supplySample v) s = .next { s with rst := r } := by
      subst hr
      exact congrArg Host.Outcome.next (State.supplySample_counts s v h)
    refine ⟨fun hhold hv => counted _ ?_ nofun, fun hhold hv hlow => counted _ ?_ ?_, fun hhold hv => counted _ ?_ ?_,
      fun hhold hv hhigh => counted _ ?_ ?_, fun hhold hv hhigh => counted _ ?_ nofun⟩
    · rw [supplyCounts_free v _ hhold, if_neg (by omega)]
    · rw [supplyCounts_free v _ hhold, if_pos hv, Nat.min_eq_right (by omega)]
    · exact fun ⟨_, hfour⟩ => by dsimp only at hfour; omega
    · exact supplyCounts_holding_low v _ hhold hv
    · exact fun ⟨hfree, _⟩ => nomatch hfree.symm.trans hhold
    · exact supplyCounts_holding_high v _ hhold hv hhigh
    · exact fun ⟨hfree, _⟩ => nomatch hfree.symm.trans hhold
    · exact supplyCounts_holding_fourth v _ hhold hv hhigh

/-- Settles O7: the release with the store just read. -/
theorem coldStartBringsThePartUp : Obligations.ColdStartBringsThePartUp := by
  intro s hactive hfree
  have hrow : exec .coldStart s = .next s.coldStart := congrArg Host.Outcome.next (if_pos ⟨hactive, hfree⟩)
  refine ⟨s.coldStart, hrow, rfl, rfl, rfl, storeRead_readStore s.stg, rfl, rfl, rfl, rfl, rfl, rfl, fun c => ?_, rfl, rfl, rfl, rfl,
    rfl, rfl, rfl⟩
  have hunit : s.coldStart.chans.get c = { s.chans.get c with prof := { (s.chans.get c).prof with
      working := s.coldStart.stg.image.baseline.get c } } := Oct.get_ofFn _ c
  exact ⟨by rw [hunit], hunit⟩

end Sys2Proof.Proofs
end

section
/-! Binding judged again: what it makes of one channel, and where it changes nothing (01 R4). -/

namespace Sys2Proof

open Sys2Proof.Claim

/-- A unit once binding is judged again: `record` is that of the address it is bound to, if it is; `keeps` says whether a bound
channel stays bound by the NODE_ADDR it was bound by (01 R4, log 16). -/
def ChannelUnit.judged (u : ChannelUnit) (record : Option NodeRecord) (keeps : Bool) : ChannelUnit :=
  match record with
  | none => if u.ctl.st = .absent then u else unboundUnit u
  | some r => if u.ctl.st = .absent then boundUnit u r else if keeps then u else boundUnit (unboundUnit u) r

end Sys2Proof

namespace Sys2Proof.Machine

open Sys2Proof.Claim

section
variable {s t : State} {c : Chan} {u : ChannelUnit} {r : NodeRecord}

/-! ### Which channels are bound -/

theorem State.isBound_iff (s : State) (c : Chan) : s.isBound c = true ↔ bound s c := by
  have hlower : (octIndexes.all fun d => !(decide (d < c) && decide ((s.cset d).nodeAddr = (s.cset c).nodeAddr))) = true ↔
      ∀ d : Chan, d < c → (s.stg.image.chan.get d).nodeAddr ≠ (s.stg.image.chan.get c).nodeAddr := by
    rw [octIndexes_all]
    refine forall_congr' fun d => ?_
    rw [Bool.not_eq_true', Bool.and_eq_false_imp, decide_eq_true_iff, decide_eq_false_iff_not]
    rfl
  unfold State.isBound bound
  rw [show s.cset c = s.stg.image.chan.get c from rfl] at hlower ⊢
  cases ha : nodeOf (s.stg.image.chan.get c).nodeAddr with
  | none =>
    refine iff_of_false nofun fun ⟨⟨a, haddr, _⟩, _⟩ => ?_
    rw [haddr, nodeOf_of_val] at ha
    exact nomatch ha
  | some a =>
    have haddr := nodeOf_eq_some.mp ha
    have hrecord : (∃ b : Node, (s.stg.image.chan.get c).nodeAddr = b.val + 1 ∧ (s.enr.table.get b).isSome = true) ↔
        (s.enr.table.get a).isSome = true := by
      refine ⟨fun ⟨b, hb, hsome⟩ => ?_, fun hsome => ⟨a, haddr, hsome⟩⟩
      rwa [show a = b from Fin.ext (by omega)]
    simp only [Bool.and_eq_true, hlower, hrecord, Bool.not_eq_true', State.runInProgress_eq_false]
    tauto

/-- Who is bound rests on the NODE_ADDR settings, which addresses have a record, and the enrollment state. -/
theorem bound_congr (haddr : ∀ d : Chan, (t.stg.image.chan.get d).nodeAddr = (s.stg.image.chan.get d).nodeAddr)
    (htable : ∀ a : Node, (t.enr.table.get a).isSome = (s.enr.table.get a).isSome) (hst : t.enr.st = s.enr.st) (c : Chan) :
    bound t c ↔ bound s c := by
  unfold bound; simp only [haddr, htable, hst]

/-- The record of the address that a channel is bound to, if it is bound. -/
def State.bindingRecord (s : State) (c : Chan) : Option NodeRecord :=
  if s.isBound c then (nodeOf (s.cset c).nodeAddr).bind fun a => s.enr.table.get a else none

theorem State.bindingRecord_eq_none_iff (s : State) (c : Chan) : s.bindingRecord c = none ↔ ¬bound s c := by
  unfold State.bindingRecord
  rw [← State.isBound_iff]
  split
  · next h =>
    obtain ⟨r, hr⟩ := State.record_of_isBound h
    rw [hr]; exact iff_of_false nofun (not_not.mpr h)
  · next h => exact iff_of_true rfl h

theorem State.bindingRecord_of_bound (h : bound s c) {a : Node} (ha : (s.stg.image.chan.get c).nodeAddr = a.val + 1) :
    s.bindingRecord c = s.enr.table.get a := by
  unfold State.bindingRecord
  rw [if_pos ((s.isBound_iff c).mpr h), show nodeOf (s.cset c).nodeAddr = some a from nodeOf_eq_some.mpr ha]; rfl

theorem State.bindingRecord_congr (himage : t.stg.image = s.stg.image) (htable : t.enr.table = s.enr.table) (hst : t.enr.st = s.enr.st)
    (c : Chan) : t.bindingRecord c = s.bindingRecord c := by
  unfold State.bindingRecord State.isBound State.runInProgress State.cset
  rw [himage, htable, hst]

/-! ### The judgement of one channel -/

theorem State.becomeUnbound_eq (s : State) (c : Chan) :
    s.becomeUnbound c = s.having c (unboundUnit (s.chans.get c)) (SlotArbiter.drop s.arb c) := by
  generalize hu : s.chans.get c = u
  generalize hb : s.arb = b
  have hself : s = s.having c u b := by rw [← hu, ← hb, State.having_self]
  unfold State.becomeUnbound
  rw [hself, State.teachFail_having, State.vacate_having, State.modChan_having, ← hself]
  rfl

theorem State.becomeBound_eq (s : State) (c : Chan) (r : NodeRecord) :
    s.becomeBound c r = s.having c (boundUnit (s.chans.get c) r) s.arb := by
  have hst : (if anyCause (causesOfRecord r) then ChanState.inhibited else .idle) =
      if r.st = .enrolled then .idle else .inhibited := by
    unfold causesOfRecord anyCause
    cases r.st <;> rfl
  unfold State.becomeBound State.modChan; dsimp only
  rw [hst]; rfl

/-- Binding judged again of a channel that is bound as it was, or ABSENT as it was. -/
theorem State.judgeBinding_stays {old : Oct Nat} (h : (s.chans.get c).ctl.st = .absent ↔ ¬bound s c)
    (hold : (s.cset c).nodeAddr = old.get c) : s.judgeBinding old c = s := by
  unfold State.judgeBinding; dsimp only
  rw [decide_eq_true hold, Bool.and_true, show s.chan c = s.chans.get c from rfl]
  rw [← s.isBound_iff, Bool.not_eq_true] at h
  cases hb : s.isBound c with
  | true =>
    have hst : decide ((s.chans.get c).ctl.st ≠ .absent) = true := decide_eq_true fun ha => nomatch hb.symm.trans (h.mp ha)
    rw [hst]; rfl
  | false =>
    have hst : decide ((s.chans.get c).ctl.st ≠ .absent) = false := decide_eq_false (not_not.mpr (h.mpr hb))
    rw [hst]; rfl

/-- The unit of the channel whose binding is judged. -/
theorem State.chans_judgeBinding (old : Oct Nat) (s : State) (c : Chan) : (s.judgeBinding old c).chans.get c =
    (s.chans.get c).judged (s.bindingRecord c) (decide ((s.cset c).nodeAddr = old.get c)) := by
  have hunbound : (s.becomeUnbound c).chans.get c = unboundUnit (s.chans.get c) := by
    rw [State.becomeUnbound_eq, State.chans_having]
  unfold State.judgeBinding State.bindingRecord ChannelUnit.judged; dsimp only
  rw [show s.chan c = s.chans.get c from rfl]
  cases hb : s.isBound c with
  | false =>
    by_cases ha : (s.chans.get c).ctl.st = .absent
    · simp [ha]
    · simp [ha, hunbound]
  | true =>
    obtain ⟨r, hr⟩ := State.record_of_isBound hb
    have hbound (t : State) : (t.becomeBound c r).chans.get c = boundUnit (t.chans.get c) r := by
      rw [State.becomeBound_eq, State.chans_having]
    rw [hr]
    by_cases ha : (s.chans.get c).ctl.st = .absent
    · simp [ha, hbound]
    · by_cases hk : (s.cset c).nodeAddr = old.get c
      · simp [ha, hk]
      · simp [ha, hk, hbound, hunbound]

/-- A unit is ABSENT after the judgement exactly where it is not bound. -/
theorem judged_absent_iff (u : ChannelUnit) (record : Option NodeRecord) (keeps : Bool) :
    (u.judged record keeps).ctl.st = .absent ↔ record = none := by
  have hbound (u : ChannelUnit) (r : NodeRecord) : (boundUnit u r).ctl.st ≠ .absent := by
    unfold boundUnit; dsimp only; split <;> nofun
  unfold ChannelUnit.judged
  cases record with
  | none =>
    dsimp only; split
    · next h => exact iff_of_true h rfl
    · exact iff_of_true rfl rfl
  | some r =>
    dsimp only; split
    · exact iff_of_false (hbound _ r) nofun
    · split
      · next h _ => exact iff_of_false h nofun
      · exact iff_of_false (hbound _ r) nofun

/-- The judgement leaves a unit that is bound as it was, or ABSENT as it was. -/
theorem judged_of_stands {record : Option NodeRecord} (h : u.ctl.st = .absent ↔ record = none) : u.judged record true = u := by
  unfold ChannelUnit.judged
  cases record with
  | none => exact if_pos (h.mpr rfl)
  | some r =>
    dsimp only
    rw [if_neg fun ha => nomatch h.mp ha]; rfl

/-! ### The judgement of every channel -/

/-- An operation on each channel in turn leaves what it leaves on each. -/
theorem foldl_octIndexes_invariant {op : State → Chan → State} {P : State → Prop} (keep : ∀ (s : State) (c : Chan), P s → P (op s c))
    (h : P s) : P (octIndexes.foldl op s) :=
  List.foldlRecOn octIndexes op h fun t ht c _ => keep t c ht

/-- An operation on each channel in turn makes of one channel what it makes of it in a state that agrees on what it reads there:
the operations on the others neither change what it reads nor what it has made. -/
theorem foldl_octIndexes_own {op : State → Chan → State} {P Q : State → Prop} (c : Chan)
    (before : ∀ (s : State) (d : Chan), d ≠ c → P s → P (op s d)) (own : ∀ s : State, P s → Q (op s c))
    (after : ∀ (s : State) (d : Chan), d ≠ c → Q s → Q (op s d)) (h : P s) : Q (octIndexes.foldl op s) := by
  have key : ∀ (l : List Chan) (s : State), l.Nodup → c ∈ l → P s → Q (l.foldl op s) := by
    intro l
    induction l with
    | nil => exact fun _ _ hc => nomatch hc
    | cons d l ih =>
      intro s hn hc hs
      obtain ⟨hd, hn⟩ := List.nodup_cons.mp hn
      by_cases hdc : d = c
      · subst hdc
        exact foldl_keeps op (fun x t => x = d → Q t) (fun t e x hx ht hxd => after t e (fun hed => hx (hxd.trans hed.symm)) (ht hxd))
          d l _ hd (fun _ => own s hs) rfl
      · exact ih _ hn ((List.mem_cons.mp hc).resolve_left (Ne.symm hdc)) (before s d hdc hs)
  exact key octIndexes s (by decide) (mem_octIndexes c) h

/-- Binding judged again for every channel makes of each what its own judgement does. -/
theorem State.chans_rebind (s : State) (old : Oct Nat) (c : Chan) : (s.rebind old).chans.get c =
    (s.chans.get c).judged (s.bindingRecord c) (decide ((s.cset c).nodeAddr = old.get c)) := by
  generalize hv : (s.chans.get c).judged (s.bindingRecord c) (decide ((s.cset c).nodeAddr = old.get c)) = v
  refine foldl_octIndexes_own (op := State.judgeBinding old) (P := fun t => t.chans.get c = s.chans.get c ∧ t.enr = s.enr ∧ t.stg = s.stg)
    (Q := fun t => t.chans.get c = v) c (fun t d hd ⟨hunit, henr, hstg⟩ => ?_) (fun t ⟨hunit, henr, hstg⟩ => ?_)
    (fun t d hd ht => ?_) ⟨rfl, rfl, rfl⟩
  · have only := onlyChannel_judgeBinding old t d
    exact ⟨(only.chans c hd.symm).trans hunit, only.enr.trans henr, only.stg.trans hstg⟩
  · rw [State.chans_judgeBinding, hunit, State.bindingRecord_congr (s := s) (by rw [hstg]) (by rw [henr]) (by rw [henr])]
    rw [← hv]
    unfold State.cset
    rw [hstg]
  · exact ((onlyChannel_judgeBinding old t d).chans c hd.symm).trans ht

/-- Binding judged again reaches the channels and the arbiter alone. -/
theorem State.rebind_frame (s : State) (old : Oct Nat) : (s.rebind old).ctx = s.ctx ∧ (s.rebind old).br = s.br ∧
    (s.rebind old).now = s.now := by
  have hctx : (s.rebind old).ctx = s.ctx := foldl_octIndexes_field _ State.ctx (fun s c => (onlyChannel_judgeBinding old s c).ctx) s
  have hbr : (s.rebind old).br = s.br := foldl_octIndexes_field _ State.br (fun s c => (onlyChannel_judgeBinding old s c).br) s
  have hnow : (s.rebind old).now = s.now := foldl_octIndexes_field _ State.now (fun s c => (onlyChannel_judgeBinding old s c).now) s
  exact ⟨hctx, hbr, hnow⟩

/-- After it the ABSENT channels are those not bound. -/
theorem bindingStands_rebind (s : State) (old : Oct Nat) : bindingStands (s.rebind old) := fun c => by
  rw [State.chans_rebind, judged_absent_iff, State.bindingRecord_eq_none_iff,
    bound_congr (s := s) (t := s.rebind old) (fun d => by rw [State.stg_rebind]) (fun a => by rw [State.enr_rebind])
      (by rw [State.enr_rebind])]

/-- Where they already are, and no NODE_ADDR has changed, it changes nothing. -/
theorem State.rebind_of_stands (h : bindingStands s) : s.rebind s.nodeAddrs = s :=
  List.foldl_fixed' (fun c => State.judgeBinding_stays (h c) (Oct.get_map _ _ c).symm) octIndexes

/-- It leaves an arbiter with no slot held and no entry as it is. -/
theorem State.arb_rebind_cold (old : Oct Nat) (h : s.arb = SlotArbiter.cold) : (s.rebind old).arb = SlotArbiter.cold := by
  have hdrop (c : Chan) : SlotArbiter.drop SlotArbiter.cold c = SlotArbiter.cold := by
    have hslots : (Oct.const false).set c false = Oct.const false := Oct.ext_get fun d => by
      rw [Oct.get_set, Oct.get_const]; exact ite_self _
    unfold SlotArbiter.drop SlotArbiter.cold; dsimp only
    rw [hslots]; rfl
  refine foldl_octIndexes_invariant (P := fun t => t.arb = SlotArbiter.cold) (fun t c ht => ?_) h
  have hfirst (unbinds : Bool) : (if unbinds = true then t.becomeUnbound c else t).arb = SlotArbiter.cold := by
    cases unbinds with
    | false => exact ht
    | true =>
      rw [if_pos rfl, State.becomeUnbound_eq]
      show SlotArbiter.drop t.arb c = _
      rw [ht, hdrop]
  unfold State.judgeBinding; dsimp only
  split
  · split
    · exact hfirst _
    · exact hfirst _
  · exact hfirst _

end

end Sys2Proof.Machine
end

section
/-! The warm reset: what each block keeps of it, and RESET PART, which brings it (08 R166, log 22, log 37). -/

namespace Sys2Proof.Machine

open Sys2Proof.Claim

section
variable {s : State} {u : ChannelUnit}

/-! ### A phase entered and a unit at its warm reset values -/

/-- A phase entered changes the settings unit alone, and of it nothing that a store read gives but the start of the check
(10 R186, R189). -/
theorem State.enterPhase_eq (s : State) (p : Phase) : ∃ u : SettingsUnit, s.enterPhase p = { s with stg := u } ∧ u.phase = p ∧
    u.chosen = s.stg.chosen ∧ u.image = s.stg.image ∧ u.store = s.stg.store ∧
    ∀ store : Store, storeRead store s.stg → storeRead store u := by
  have kept {u : SettingsUnit} (himage : u.image = s.stg.image) (hinvalid : u.storeInvalid = s.stg.storeInvalid)
      (hchosen : u.chosen = s.stg.chosen) (hlocked : u.locked = s.stg.locked) (hfail : u.storeFail = s.stg.storeFail)
      (hfault : u.configFault = s.stg.configFault) (hwrite : u.write = s.stg.write) (hstore : u.store = s.stg.store)
      (hpass : u.lastPass = none) (hpos : s.stg.scanPos = 0 → u.scanPos = 0) (store : Store) (h : storeRead store s.stg) :
      storeRead store u := by
    unfold storeRead at h ⊢
    rw [himage, hinvalid, hchosen, hlocked, hfail, hfault, hwrite, hstore]
    obtain ⟨hgood, hbad, hmarked, hplain, hf, hc, hw, -, hp, hs⟩ := h
    exact ⟨hgood, hbad, hmarked, hplain, hf, hc, hw, hpass, hpos hp, hs⟩
  unfold State.enterPhase
  by_cases hp : p = .run
  · rw [if_pos hp]
    exact ⟨_, rfl, hp.symm, rfl, rfl, rfl, kept rfl rfl rfl rfl rfl rfl rfl rfl rfl fun _ => rfl⟩
  · rw [if_neg hp]
    exact ⟨_, rfl, rfl, rfl, rfl, rfl, kept rfl rfl rfl rfl rfl rfl rfl rfl rfl id⟩

/-- Binding judged again of a unit at its warm reset values reaches its state, reference, position, counter base and causes, and
its UNDERVOLT. -/
theorem judged_warm (hst : atRest u.ctl.st = true) (baseline : Bins Nat) (record : Option NodeRecord) (keeps : Bool) :
    ∃ (st : ChanState) (referenced : Bool) (pos : Int) (base : Option (BitVec 12)) (causes : Causes) (undervolt : Bool),
      (ChannelUnit.warm u baseline).judged record keeps = { ChannelUnit.warm u baseline with
        ctl := { (ChannelUnit.warm u baseline).ctl with
          st := st, referenced := referenced, pos := pos, base := base, causes := causes }
        sup := { SupplyContext.cold with undervolt := undervolt } } := by
  have hclosing : (ChannelUnit.warm u baseline).ctl.st ≠ .closing := fun h => by
    rw [show u.ctl.st = .closing from h] at hst; exact nomatch hst
  have hunbound : unboundUnit (ChannelUnit.warm u baseline) = { ChannelUnit.warm u baseline with
      ctl := { (ChannelUnit.warm u baseline).ctl with st := .absent, referenced := false, base := none, causes := noCauses }
      sup := SupplyContext.cold } := by
    unfold unboundUnit stopped
    rw [if_neg hclosing]
    rfl
  unfold ChannelUnit.judged
  cases record with
  | none =>
    dsimp only; split
    · exact ⟨_, _, _, _, _, _, rfl⟩
    · rw [hunbound]; exact ⟨_, _, _, _, _, _, rfl⟩
  | some r =>
    dsimp only; split
    · exact ⟨_, _, _, _, _, _, rfl⟩
    · split
      · exact ⟨_, _, _, _, _, _, rfl⟩
      · rw [hunbound]; exact ⟨_, _, _, _, _, _, rfl⟩

/-! ### The warm reset block by block -/

/-- What the warm reset makes of each block, binding judged again on the channels. -/
theorem State.warmReset_blocks (s : State) : ∃ t, s.warmReset = t ∧ storeRead s.stg.store t.stg ∧ t.stg.phase = t.stg.chosen ∧
    t.rst = { s.rst with cause := .resetPart } ∧ t.now = s.now ∧ t.br = s.br ∧ t.enr = EnrollmentUnit.warm s.enr ∧
    t.trk = TrunkPort.warm s.trk (s.now + 4 * t.stg.image.glob.trunkLoss) ∧ t.ctx = ContextUnit.stale ∧
    t.arb = SlotArbiter.cold ∧ t.stg.image = (readStore s.stg).image ∧
    ∀ c : Chan, t.chans.get c = (ChannelUnit.warm (s.chans.get c) (t.stg.image.baseline.get c)).judged (s.warmed.bindingRecord c)
      (decide ((t.stg.image.chan.get c).nodeAddr = (s.stg.image.chan.get c).nodeAddr)) := by
  obtain ⟨hctx, hbr, hnow⟩ := s.warmed.rebind_frame s.nodeAddrs
  have henr := s.warmed.enr_rebind s.nodeAddrs
  have hrst := s.warmed.rst_rebind s.nodeAddrs
  have htrk := s.warmed.trk_rebind s.nodeAddrs
  have hstg := s.warmed.stg_rebind s.nodeAddrs
  have harb := State.arb_rebind_cold (s := s.warmed) s.nodeAddrs rfl
  have hchans := s.warmed.chans_rebind s.nodeAddrs
  have hloss : s.inMs (2 * (readStore s.stg).image.glob.trunkLoss) = s.now + 4 * (readStore s.stg).image.glob.trunkLoss := by
    show s.now + 2 * (2 * (readStore s.stg).image.glob.trunkLoss) = _
    omega
  rw [State.warmReset_eq]
  generalize s.warmed.rebind s.nodeAddrs = w at hctx hbr hnow henr hrst htrk hstg harb hchans ⊢
  obtain ⟨u, hphase, hu, hchosen, himage, -, hread⟩ := w.enterPhase_eq (readStore s.stg).chosen
  rw [hstg] at hchosen himage hread
  rw [hphase]
  refine ⟨_, rfl, hread _ (storeRead_readStore s.stg), hu.trans hchosen.symm, hrst, hnow, hbr, henr, ?_, hctx, harb, himage, fun c => ?_⟩
  · show w.trk = TrunkPort.warm s.trk (s.now + 4 * u.image.glob.trunkLoss)
    rw [htrk, himage, show s.warmed.stg = readStore s.stg from rfl, ← hloss]; rfl
  · have hunit : s.warmed.chans.get c = ChannelUnit.warm (s.chans.get c) (s.warmed.stg.image.baseline.get c) := Oct.get_ofFn _ c
    have haddr : s.nodeAddrs.get c = (s.stg.image.chan.get c).nodeAddr := Oct.get_map _ _ c
    show w.chans.get c = _
    rw [hchans, himage, hunit, haddr]; rfl

/-- A warm reset is taken where no case bars it (08 R166). -/
theorem State.tryWarmReset_of_free (hrest : ∀ c : Chan, atRest (s.chans.get c).ctl.st = true) (hidle : s.enr.st = .idle)
    (hwrite : s.stg.write = none) : s.tryWarmReset = s.warmReset := by
  unfold State.tryWarmReset
  rw [s.resetBusy_eq_false.mpr ⟨hrest, hidle, hwrite⟩]; rfl

/-- A channel is at rest where it neither waits nor moves. -/
theorem atRest_eq_false_iff (st : ChanState) : atRest st = false ↔ st = .waiting ∨ st = .opening ∨ st = .closing ∨ st = .reversing := by
  cases st <;> simp [atRest]

/-! ### RESET PART (08 R166) -/

section
variable {path : Path}

/-- RESET PART changes no state before its answer is delivered. -/
theorem State.judge_resetPart (hd : dispatched path s) (hph : s.stg.phase ≠ .starting) :
    (s.arrived path).judge path Command.resetPart.code.byte (some .resetPart) =
      { state := s.arrived path, status := if s.resetBusy then .busy else .ok, data := 0 } := by
  obtain ⟨-, hw, hp⟩ := hd
  have hperform : (s.arrived path).perform .resetPart =
      { state := s.arrived path, status := if s.resetBusy then .busy else .ok, data := 0 } := by
    show (if s.resetBusy then _ else _) = _
    split <;> rfl
  rw [← hperform]
  exact State.judge_performs (s.arrived path) path .resetPart nofun hw hp (fun h => absurd h hph) (takenIn_of_ne_starting (.inr rfl) hph)

/-- The row RESET_PART: its answer carries the reset where it is OK. -/
theorem execResetPart_eq (hd : dispatched path s) (hph : s.stg.phase ≠ .starting) : execResetPart path s =
    .next ((s.arrived path).deliver path { code := 3, status := if s.resetBusy then .busy else .ok, data := 0 } (!s.resetBusy)) := by
  have hjudge := State.judge_resetPart hd hph
  rw [execResetPart, execManaged, whileRunning_running s _ hd.1, State.manage]
  rw [show ({ s with trk := TrunkPort.arrived s.trk path } : State) = s.arrived path from rfl, hjudge]
  cases s.resetBusy <;> rfl

end

end

end Sys2Proof.Machine

namespace Sys2Proof.Proofs

open Sys2Proof.Machine Sys2Proof.Claim

/-- Settles O8: the warm reset block by block; a unit whose binding stands is not reached by the judgement of it. -/
theorem warmResetTakesItsValues : Obligations.WarmResetTakesItsValues := by
  intro s a rest hr hanswers hresets hbody hrest hidle hwrite
  let sent : State := { s with trk := { s.trk with answers := rest } }
  have hatRest (c : Chan) : atRest (s.chans.get c).ctl.st = true := (atRest_iff _).mpr (hrest c)
  have hsendable : Answer.sendable a = true := by
    unfold Answer.sendable
    split
    · rfl
    · rfl
    · next side h => exact absurd h (hbody side)
  have hrow : exec .answerSent s = .next sent.warmReset := by
    show execAnswerSent s = _
    rw [execAnswerSent, whileRunning_running s _ hr, State.answerSent, hanswers]
    dsimp only
    rw [if_pos hsendable, if_pos hresets, State.tryWarmReset_of_free (s := sent) hatRest hidle hwrite]
  obtain ⟨t, ht, hread, hphase, hrst, hnow, hbr, henr, htrk, hctx, harb, himage, hchans⟩ := sent.warmReset_blocks
  refine ⟨t, hrow.trans (congrArg _ ht), hread, hphase, hrst, hnow, hbr, ?_⟩
  rw [henr, htrk, hctx, harb]
  refine ⟨rfl, rfl, rfl, rfl, rfl, rfl, rfl, rfl, rfl, rfl, rfl, rfl, rfl, rfl, rfl, rfl, rfl, fun c => ?_⟩
  have hunit := hchans c
  have hkept (hstands : bindingStands s)
      (haddr : ∀ d : Chan, (t.stg.image.chan.get d).nodeAddr = (s.stg.image.chan.get d).nodeAddr) :
      t.chans.get c = ChannelUnit.warm (s.chans.get c) (t.stg.image.baseline.get c) := by
    rw [hunit, decide_eq_true (haddr c)]
    refine judged_of_stands ((hstands c).trans ?_)
    rw [State.bindingRecord_eq_none_iff, bound_congr (s := s) (t := sent.warmed) (fun d => himage ▸ haddr d) (fun _ => rfl)
      hidle.symm]
  obtain ⟨st, referenced, pos, base, causes, undervolt, hwarm⟩ := judged_warm (hatRest c) (t.stg.image.baseline.get c)
    (sent.warmed.bindingRecord c) (decide ((t.stg.image.chan.get c).nodeAddr = (s.stg.image.chan.get c).nodeAddr))
  rw [hunit] at hkept ⊢
  rw [show sent.chans = s.chans from rfl, show sent.stg = s.stg from rfl, hwarm] at hkept ⊢
  refine ⟨Oct.get_const _ c, rfl, rfl, rfl, rfl, rfl, rfl, rfl, rfl, rfl, rfl, rfl, rfl, rfl, rfl, rfl, fun b => Bins.get_const _ b, rfl,
    rfl, rfl, rfl, rfl, fun hstands haddr => ?_⟩
  rw [hkept hstands haddr]
  exact ⟨rfl, rfl⟩

/-- Settles O25: the cases that bar the reset, and the answer on each path. -/
theorem resetPartArmsTheWarmReset : Obligations.ResetPartArmsTheWarmReset := by
  intro s path hd hph busy
  have hrow : exec (.resetPart path) s = _ := execResetPart_eq hd hph
  have hbusy : s.resetBusy = true ↔ busy := by
    rw [State.resetBusy_iff]
    simp only [atRest_eq_false_iff, hd.2.1, ne_eq, not_true_eq_false, or_false]
    exact or_comm
  have hfree (h : ¬busy) : s.resetBusy = false := Bool.eq_false_of_not_eq_true fun hb => h (hbusy.mp hb)
  refine ⟨fun h => ?_, fun h hpath hroom => ?_, fun h hpath hfull => ?_, fun h hpath => ?_⟩
  · rw [hrow, hbusy.mpr h]
    exact congrArg Host.Outcome.next (State.deliver_arrived _)
  · subst hpath
    rw [hrow, hfree h]
    exact congrArg Host.Outcome.next (if_pos hroom)
  · subst hpath
    have hresets : (s.arrived .command).deliver .command (ok 3 0) true = (s.arrived .command).warmReset := by
      show (if s.trk.answers.length < 4 then _ else _) = _
      rw [if_neg (not_lt.mpr hfull)]
      show (if s.resetBusy then _ else _) = _
      rw [hfree h]; rfl
    obtain ⟨t, ht, hread, hphase, hrst, -, -, -, htrk, -⟩ := (s.arrived .command).warmReset_blocks
    refine ⟨t, ?_, hrst, by rw [htrk]; rfl, by rw [htrk]; rfl, hphase, hread⟩
    rw [hrow, hfree h, ← ht, ← hresets]; rfl
  · subst hpath
    rw [hrow, hfree h]
    exact congrArg Host.Outcome.next (by unfold State.deliver; rw [Bool.not_false, Bool.or_true]; rfl)

end Sys2Proof.Proofs
end

section
/-! ENROLL and the times of the enrollment unit: the run it starts, the cycle starts and the rejoin attempt (08 R169, R171, R172). -/

namespace Sys2Proof.Machine

open Sys2Proof.Claim

section
variable {s : State} {a : Node}

/-! ### ENROLL (08 R171) -/

/-- The run that ENROLL starts: every channel unbound, no entry and no slot held. -/
theorem State.startEnroll_units (s : State) : s.startEnroll = { s.enrolling with
    chans := s.chans.map unboundUnit
    arb := { slots := Oct.const false, queue := [], stagger := s.arb.stagger } } := by
  have kept {α : Type} (field : State → α) (h : ∀ (t : State) (c : Chan), field (t.becomeUnbound c) = field t) :
      field (octIndexes.foldl State.becomeUnbound s.enrolling) = field s.enrolling := foldl_octIndexes_field _ field h s.enrolling
  have hunit (c : Chan) : (octIndexes.foldl State.becomeUnbound s.enrolling).chans.get c = unboundUnit (s.chans.get c) := by
    refine foldl_octIndexes_own (op := State.becomeUnbound) (P := fun t => t.chans.get c = s.chans.get c)
      (Q := fun t => t.chans.get c = unboundUnit (s.chans.get c)) c (fun t d hd ht => ?_) (fun t ht => ?_) (fun t d hd ht => ?_) rfl
    · exact ((onlyChannel_becomeUnbound t d).chans c hd.symm).trans ht
    · rw [State.becomeUnbound_eq, State.chans_having, ht]
    · exact ((onlyChannel_becomeUnbound t d).chans c hd.symm).trans ht
  have hstagger := kept (fun t => t.arb.stagger) fun t c => (onlyChannel_becomeUnbound t c).stagger
  have hctx := kept State.ctx fun t c => (onlyChannel_becomeUnbound t c).ctx
  have hbr := kept State.br fun t c => (onlyChannel_becomeUnbound t c).br
  have henr := kept State.enr fun t c => (onlyChannel_becomeUnbound t c).enr
  have htrk := kept State.trk fun t c => (onlyChannel_becomeUnbound t c).trk
  have hstg := kept State.stg fun t c => (onlyChannel_becomeUnbound t c).stg
  have hrst := kept State.rst fun t c => (onlyChannel_becomeUnbound t c).rst
  have hnow := kept State.now fun t c => (onlyChannel_becomeUnbound t c).now
  have hfree := kept State.freeCount fun t c => (onlyChannel_becomeUnbound t c).freeCount
  have hpending := kept State.pending fun t c => (onlyChannel_becomeUnbound t c).pending
  rw [State.startEnroll_eq]
  generalize octIndexes.foldl State.becomeUnbound s.enrolling = t at *
  refine State.ext_fields (Oct.ext_get fun c => ?_) hctx ?_ hbr henr htrk hstg hrst hnow hfree hpending
  · rw [Oct.get_map]; exact hunit c
  · unfold SlotArbiter.flushed
    rw [hstagger]; rfl

/-! ### Cycle starts (08 R169, R172) -/

/-- The enrollment unit's part of a cycle start is all that happens to it. -/
theorem State.enr_cycleStart (s : State) : s.cycleStart.enr = EnrollmentUnit.cycle s.enr s.now := by
  have henr : s.arbitrate.enr = s.enr ∧ s.arbitrate.now = s.now := by
    unfold State.arbitrate; dsimp only; split
    · split
      · next e _ =>
        have only := onlyChannel_grant { s with arb := { s.arb with stagger := min 16 (s.arb.stagger + 1) } } e
        exact ⟨only.enr, only.now⟩
      · exact ⟨rfl, rfl⟩
    · exact ⟨rfl, rfl⟩
  unfold State.cycleStart; dsimp only
  rw [henr.1, henr.2]

/-- The row BRANCH_CYCLE_START whose timer has been reached with every slot over. -/
theorem exec_branchCycleStart (hr : s.rst.active = false) (ht : reached s.br.timer s.now) (hp : s.br.place = 9) :
    exec .branchCycleStart s = .next s.cycleStart ∧ s.cycleStart.enr = EnrollmentUnit.cycle s.enr s.now :=
  ⟨execBranchCycleStart_next hr ((isDue_iff_reached _ _).mpr ht) (by rw [hp]; decide), s.enr_cycleStart⟩

theorem settled_iff (e : EnrollmentUnit) (now : Nat) : settled e now = true ↔ e.settle = none ∨ reached e.settle now := by
  unfold settled reached
  cases e.settle <;> simp

theorem EnrollmentUnit.cycle_busOff {e : EnrollmentUnit} (h : e.st = .busOff) (now : Nat) :
    EnrollmentUnit.cycle e now = { e with slot0 := .unused, reading := e.followUp, followUp := none } := by
  unfold EnrollmentUnit.cycle; rw [h]

theorem EnrollmentUnit.cycle_settled {e : EnrollmentUnit} (h : e.st = .settle) {now : Nat} (hs : settled e now = true) :
    EnrollmentUnit.cycle e now =
      { e with reading := e.followUp, followUp := none, st := .offering, settle := none, slot0 := .offer } := by
  unfold EnrollmentUnit.cycle; rw [h]; exact if_pos hs

theorem EnrollmentUnit.cycle_settling {e : EnrollmentUnit} (h : e.st = .settle) {now : Nat} (hs : ¬settled e now = true) :
    EnrollmentUnit.cycle e now = { e with slot0 := .unused, reading := e.followUp, followUp := none } := by
  unfold EnrollmentUnit.cycle
  rw [h]; dsimp only
  rw [if_neg hs]

theorem EnrollmentUnit.cycle_offering {e : EnrollmentUnit} (h : e.st = .offering) (now : Nat) : EnrollmentUnit.cycle e now =
    { e with slot0 := .offer, reading := if 0 < e.miss then some e.offer else e.followUp, followUp := none } := by
  unfold EnrollmentUnit.cycle; rw [h]

theorem EnrollmentUnit.cycle_unscheduled {e : EnrollmentUnit} (h : e.st = .idle) (hs : ∀ b : Node, e.schedule.get b = false) (now : Nat) :
    EnrollmentUnit.cycle e now = { e with slot0 := .unused, reading := e.followUp, followUp := none } := by
  unfold EnrollmentUnit.cycle
  rw [h]; dsimp only
  rw [if_pos ((scheduleEmpty_iff _).mpr hs)]

/-- The attempt is for the lowest address of the schedule. -/
theorem EnrollmentUnit.attemptRejoin_lowest {e : EnrollmentUnit} (hs : e.schedule.get a = true)
    (hlowest : ∀ b : Node, b < a → e.schedule.get b = false) :
    EnrollmentUnit.attemptRejoin e = { e with rejoinCount := 0, slot0 := .rejoin a } := by
  have hfind : lowestScheduled e.schedule = some a :=
    (find?_eq_some_of_sorted (fun b : Node => b.val) _ (by decide) a).mpr ⟨mem_octIndexes a, hs, fun b _ hb => hlowest b hb⟩
  unfold EnrollmentUnit.attemptRejoin
  rw [hfind]

/-- With a schedule the count rises, or the attempt for its lowest address is made. -/
theorem EnrollmentUnit.cycle_scheduled {e : EnrollmentUnit} (h : e.st = .idle) (hs : e.schedule.get a = true)
    (hlowest : ∀ b : Node, b < a → e.schedule.get b = false) (now : Nat) : EnrollmentUnit.cycle e now =
      if 64 ≤ e.rejoinCount + 1 then { e with rejoinCount := 0, slot0 := .rejoin a, reading := e.followUp, followUp := none }
      else { e with rejoinCount := e.rejoinCount + 1, slot0 := .unused, reading := e.followUp, followUp := none } := by
  have hattempt := EnrollmentUnit.attemptRejoin_lowest
    (e := { e with slot0 := .unused, reading := e.followUp, followUp := none }) hs hlowest
  unfold EnrollmentUnit.cycle
  rw [h] at hattempt ⊢; dsimp only
  rw [if_neg fun hempty => nomatch ((scheduleEmpty_iff _).mp hempty a).symm.trans hs]
  exact if_congr Iff.rfl hattempt rfl

/-- Outside a run the reply slot to read is the one that was to follow. -/
theorem EnrollmentUnit.cycle_idle_reading {e : EnrollmentUnit} (h : e.st = .idle) (now : Nat) :
    (EnrollmentUnit.cycle e now).reading = e.followUp ∧ (EnrollmentUnit.cycle e now).followUp = none := by
  have hattempt (e : EnrollmentUnit) : (EnrollmentUnit.attemptRejoin e).reading = e.reading ∧
      (EnrollmentUnit.attemptRejoin e).followUp = e.followUp := by
    unfold EnrollmentUnit.attemptRejoin; split <;> exact ⟨rfl, rfl⟩
  unfold EnrollmentUnit.cycle
  rw [h]; dsimp only
  split
  · exact ⟨rfl, rfl⟩
  · split
    · exact hattempt _
    · exact ⟨rfl, rfl⟩

/-! ### The rejoin attempt (08 R172) -/

/-- A word of 24 bits before its CRC-8, taken apart. -/
theorem reassigned_toNat (w : BitVec 32) {n : Nat} (hn : n < 256) : (reassigned w n).toNat =
    ((w.extractLsb' 16 16).toNat * 256 + n) * 256 + (crc8 (bitsOfNat 24 ((w.extractLsb' 16 16).toNat * 256 + n))).toNat := by
  have hhigh := (w.extractLsb' 16 16).isLt
  have hcrc := (crc8 (bitsOfNat 24 ((w.extractLsb' 16 16).toNat * 256 + n))).isLt
  unfold reassigned; dsimp only
  rw [BitVec.toNat_ofNat, Nat.mod_eq_of_lt (by omega)]

/-- The first bits of a field are the bits of the number above the rest. -/
theorem take_bitsOfNat (v w n : Nat) : (bitsOfNat (v + w) n).take v = bitsOfNat v (n / 2 ^ w) := by
  refine List.ext_getElem? fun i => ?_
  by_cases hi : i < v
  · rw [List.getElem?_take_of_lt hi, getElem?_bitsOfNat n (by omega), getElem?_bitsOfNat _ hi, Nat.testBit_div_two_pow]
    congr 2; omega
  · rw [List.getElem?_eq_none (by simp; omega), List.getElem?_eq_none (by simp; omega)]

/-- Another assign field in a drive word, with the CRC-8 that follows (07 R145, 11 R192). -/
theorem assigns_reassigned (w : BitVec 32) {n : Nat} (hn : n < 256) : assigns w (reassigned w n) n := by
  have hword := reassigned_toNat w hn
  have hhigh := (w.extractLsb' 16 16).isLt
  have hcrc := (crc8 (bitsOfNat 24 ((w.extractLsb' 16 16).toNat * 256 + n))).isLt
  have hbody : (reassigned w n).toNat / 2 ^ 8 = (w.extractLsb' 16 16).toNat * 256 + n := by omega
  refine ⟨BitVec.eq_of_toNat_eq ?_, BitVec.eq_of_toNat_eq ?_, BitVec.eq_of_toNat_eq ?_⟩
  · rw [BitVec.extractLsb'_toNat, Nat.shiftRight_eq_div_pow]; omega
  · rw [BitVec.extractLsb'_toNat, Nat.shiftRight_eq_div_pow, BitVec.toNat_ofNat]; omega
  · rw [driveLineBits, take_bitsOfNat 24 8, hbody, BitVec.extractLsb'_toNat, Nat.shiftRight_eq_div_pow]; omega

/-- Without a schedule or during a run there is no attempt. -/
theorem State.rejoinAttempted_of_none (h : s.enr.st ≠ .idle ∨ ∀ b : Node, s.enr.schedule.get b = false) : s.rejoinAttempted = s := by
  unfold State.rejoinAttempted
  rw [if_pos]
  rw [Bool.or_eq_true, State.runInProgress_iff, scheduleEmpty_iff]
  exact h

/-- An attempt puts the lowest address into slot 0 and into the assign field of the running cycle's drive word. -/
theorem State.rejoinAttempted_lowest (hidle : s.enr.st = .idle) (hs : s.enr.schedule.get a = true)
    (hlowest : ∀ b : Node, b < a → s.enr.schedule.get b = false) : s.rejoinAttempted = { s with
      enr := { s.enr with rejoinCount := 0, slot0 := .rejoin a }
      br := { s.br with driveWord := s.br.driveWord.map fun w => reassigned w (a.val + 1) } } := by
  have hbarred : ¬(s.runInProgress || scheduleEmpty s.enr.schedule) = true := by
    rw [Bool.or_eq_true, State.runInProgress_iff, scheduleEmpty_iff]
    rintro (h | h)
    · exact h hidle
    · exact nomatch (h a).symm.trans hs
  unfold State.rejoinAttempted
  rw [if_neg hbarred, EnrollmentUnit.attemptRejoin_lowest hs hlowest]
  rfl

end

end Sys2Proof.Machine

namespace Sys2Proof.Proofs

open Sys2Proof.Machine Sys2Proof.Claim

/-- Settles O32: ENROLL in SETUP, during a run and outside one. -/
theorem enrollStartsARun : Obligations.EnrollStartsARun := by
  intro s path hd hsetup
  have performs {u : State} {status : Status} {data : BitVec 48}
      (h : (s.arrived path).enroll = { state := u.arrived path, status := status, data := data }) :
      exec (.enroll path) s = .next (delivered path { code := 11, status := status, data := data } u) :=
    execManaged_setup (cmd := .enroll) hd hsetup nofun rfl nofun h
  refine ⟨fun hrun => performs (if_pos ((State.runInProgress_iff _).mpr hrun)), fun hidle => ⟨s.startEnroll, performs ?_, ?_⟩⟩
  · have hfree : ¬(s.arrived path).runInProgress = true := fun h => (State.runInProgress_iff _).mp h hidle
    unfold State.enroll
    rw [if_neg hfree, State.startEnroll_units, State.startEnroll_units]
    rfl
  · rw [State.startEnroll_units]
    exact ⟨fun a => ⟨Oct.get_const _ a, Oct.get_const _ a⟩, rfl, rfl, rfl, rfl, rfl, rfl, rfl, rfl, rfl, rfl, rfl, rfl, rfl,
      fun c => ⟨Oct.get_const _ c, Oct.get_map _ _ c⟩, rfl, rfl, rfl, rfl, rfl⟩

/-- Settles O42: the rows of the two times, then the cycle starts by enrollment state, then the rejoin attempt. -/
theorem enrollmentTimesMoveTheUnit : Obligations.EnrollmentTimesMoveTheUnit := by
  intro s hr
  have starts := exec_branchCycleStart hr
  refine ⟨fun hst ht => ?_, fun h => ?_, fun hst ht => ?_, fun h => ?_, fun hst hs ht hp => ?_, fun n hst hn hlt ht hp => ?_,
    fun a hst ha hlow => ⟨⟨s.br.driveWord.map fun w => reassigned w (a.val + 1), ?_, fun h => ?_, fun w h => ?_⟩, fun ht hp => ?_⟩, fun hst ht hp => ?_, fun hst ht hp => ?_,
    fun h ht hp => ?_, fun h => ?_⟩
  · show execBusOffExpiry s = _
    rw [execBusOffExpiry, whileRunning_running s _ hr, if_pos ⟨hst, (isDue_iff_reached _ _).mpr ht⟩]; rfl
  · show execBusOffExpiry s = _
    rw [execBusOffExpiry, whileRunning_running s _ hr, if_neg]
    rw [isDue_iff_reached, not_and_or]; exact h
  · show execNodeSettleExpiry s = _
    rw [execNodeSettleExpiry, whileRunning_running s _ hr, if_pos ⟨hst, (isDue_iff_reached _ _).mpr ht⟩]
  · show execNodeSettleExpiry s = _
    rw [execNodeSettleExpiry, whileRunning_running s _ hr, if_neg]
    rw [isDue_iff_reached, not_and_or]; exact h
  · obtain ⟨hrow, henr⟩ := starts ht hp
    rw [EnrollmentUnit.cycle_settled hst ((settled_iff _ _).mpr hs)] at henr
    exact ⟨_, hrow, by rw [henr], by rw [henr], by rw [henr]⟩
  · obtain ⟨hrow, henr⟩ := starts ht hp
    have hearly : ¬settled s.enr s.now = true := by
      rw [settled_iff, hn]
      rintro (h | ⟨m, hm, hle⟩)
      · exact nomatch h
      · obtain rfl := Option.some.inj hm; omega
    rw [EnrollmentUnit.cycle_settling hst hearly] at henr
    exact ⟨_, hrow, by rw [henr]; exact hst, by rw [henr]⟩
  · show execRejoinAttempt s = _
    rw [execRejoinAttempt, whileRunning_running s _ hr, State.rejoinAttempted_lowest hst ha hlow]
  · rw [h]; rfl
  · exact ⟨_, by rw [h]; rfl, assigns_reassigned w (by omega)⟩
  · obtain ⟨hrow, henr⟩ := starts ht hp
    rw [EnrollmentUnit.cycle_scheduled hst ha hlow] at henr
    refine ⟨_, hrow, fun hcount => ?_, fun hcount => ?_⟩
    · rw [if_neg (by omega)] at henr
      exact ⟨by rw [henr], by rw [henr]⟩
    · rw [if_pos (by omega)] at henr
      exact ⟨by rw [henr], by rw [henr]⟩
  · obtain ⟨hrow, henr⟩ := starts ht hp
    rw [EnrollmentUnit.cycle_offering hst] at henr
    exact ⟨_, hrow, by rw [henr]; exact hst, by rw [henr], by rw [henr], by rw [henr], fun hmiss => by rw [henr]; exact if_pos hmiss⟩
  · obtain ⟨hrow, henr⟩ := starts ht hp
    exact ⟨_, hrow, henr ▸ EnrollmentUnit.cycle_idle_reading hst _⟩
  · obtain ⟨hrow, henr⟩ := starts ht hp
    refine ⟨_, hrow, henr.trans ?_⟩
    rcases h with hst | ⟨hst, hs⟩
    · exact EnrollmentUnit.cycle_busOff hst _
    · exact EnrollmentUnit.cycle_unscheduled hst hs _
  · show execRejoinAttempt s = _
    rw [execRejoinAttempt, whileRunning_running s _ hr, State.rejoinAttempted_of_none h]

end Sys2Proof.Proofs
end

section
/-! Enrollment runs and rejoins: the end of slot 0 and of the reply slot the unit reads, and the end of a run (08 R169, R170,
R172). -/

namespace Sys2Proof.Machine

open Sys2Proof.Claim

section
variable {s t : State} {a : Node} {c : Chan} {r : NodeRecord} {content : SlotContent}

/-! ### A record made (08 R169) -/

/-- The state with a record made at the offer address, before the run goes on or ends. -/
def State.recorded (s : State) (r : NodeRecord) : State :=
  { s.modNode s.enr.offer NodeContext.enrolled with
    enr := { s.enr with table := s.enr.table.set s.enr.offer (some r), miss := 0 } }

theorem State.makeRecord_last (h : s.enr.offer = 7) : s.makeRecord r = (s.recorded r).endRun := by
  unfold State.makeRecord; exact if_pos h

theorem State.makeRecord_next (h : s.enr.offer < 7) : s.makeRecord r = { s.recorded r with
    enr := { (s.recorded r).enr with offer := s.enr.offer + 1, st := .settle, settle := some (s.now + 40) } } := by
  unfold State.makeRecord; exact if_neg (ne_of_lt h)

theorem State.missOffer_goesOn (h : s.enr.miss < 2) : s.missOffer = { s with enr := { s.enr with miss := s.enr.miss + 1 } } := by
  unfold State.missOffer; dsimp only
  rw [Nat.min_eq_right (by omega), if_neg (by omega)]

theorem State.missOffer_third (h : s.enr.miss = 2) :
    s.missOffer = State.endRun { s with enr := { s.enr with miss := 3 } } := by
  unfold State.missOffer; dsimp only
  rw [h, show min 3 (2 + 1) = 3 from rfl, if_pos (le_refl 3)]

/-! ### The end of slot 0 -/

/-- The state once slot 0 is over and nothing is being read (log 23). -/
def State.slotOver (s : State) : State := { s with enr := { s.enr with slot0 := .unused, reading := none } }

theorem State.slot0Ends_enrolls {id : Identity} (hslot : s.enr.slot0 = .offer) (hst : s.enr.st = .offering)
    (hid : slotIdentity content = some id) : s.slot0Ends content = s.slotOver.makeRecord (recordOf id) := by
  unfold State.slot0Ends; dsimp only
  rw [hslot, hid]; exact if_pos hst

theorem State.slot0Ends_misses (hslot : s.enr.slot0 = .offer) (hst : s.enr.st = .offering) (hid : slotIdentity content = none) :
    s.slot0Ends content = s.slotOver.missOffer := by
  unfold State.slot0Ends; dsimp only
  rw [hslot, hid]; exact if_pos hst

theorem State.slot0Ends_rejoins {id : Identity} (hslot : s.enr.slot0 = .rejoin a) (hr : s.enr.table.get a = some r)
    (hid : slotIdentity content = some id) : s.slot0Ends content = s.slotOver.rejoinNode a (decide (r.tag ≠ id.tag)) := by
  unfold State.slot0Ends; dsimp only
  rw [hslot, hid]; dsimp only
  rw [hr]; rfl

/-! ### The end of the reply slot the unit reads -/

/-- The row of the reply slot whose turn it is, where the unit reads it. -/
theorem exec_replySlotEnd_read (hrst : s.rst.active = false) (hp : s.br.place = a.val) (hreading : s.enr.reading = some a) :
    exec (.replySlotEnd a content) s = .next ((s.readSlotEnds a content).toPlace (a.val + 1)) := by
  have hread : s.replySlotEnds a content = s.readSlotEnds a content := if_pos hreading
  rw [← hread]
  exact execReplySlotEnd_next content hrst hp

theorem State.readSlotEnds_unchecked (h : slotSample content = none) :
    s.readSlotEnds a content = { s with enr := { s.enr with reading := none } } := by
  unfold State.readSlotEnds; dsimp only
  rw [h]

theorem State.readSlotEnds_run {m : Sample} (h : slotSample content = some m) (hst : s.enr.st ≠ .idle) :
    s.readSlotEnds a content = s.slotOver.makeRecord namelessRecord := by
  unfold State.readSlotEnds; dsimp only
  rw [h]
  exact if_pos (s.runInProgress_iff.mpr hst)

theorem State.readSlotEnds_rejoins {m : Sample} (h : slotSample content = some m) (hst : s.enr.st = .idle) :
    s.readSlotEnds a content = State.rejoinNode { s with enr := { s.enr with reading := none } } a m.freshStart := by
  unfold State.readSlotEnds; dsimp only
  rw [h]
  exact if_neg fun hrun => s.runInProgress_iff.mp hrun hst

/-! ### A LOST record comes back (08 R172) -/

/-- The set of causes of a channel becomes `k`: its reference stands, and a channel that is not ABSENT stays so (01 R5, R6). -/
theorem State.setCauses_unit (s : State) (c : Chan) (k : Causes) :
    ((s.setCauses c k).chans.get c).ctl.causes = k ∧
    ((s.setCauses c k).chans.get c).ctl.referenced = (s.chans.get c).ctl.referenced ∧
    ((s.chans.get c).ctl.st ≠ .absent → ((s.setCauses c k).chans.get c).ctl.st ≠ .absent) := by
  generalize hu : s.chans.get c = u
  generalize hb : s.arb = b
  have hself : s = s.having c u b := by rw [← hu, ← hb, State.having_self]
  rw [hself]
  by_cases hwas : u.ctl.causes = noCauses
  · by_cases hk : k = noCauses
    · rw [State.setCauses_having_stays (iff_of_true hwas hk), State.chans_having]
      exact ⟨rfl, rfl, id⟩
    · rw [State.setCauses_having_inhibits hwas hk, State.chans_having]
      exact ⟨rfl, rfl, fun _ => nofun⟩
  · by_cases hk : k = noCauses
    · rw [State.setCauses_having_frees hwas hk, State.chans_having]
      refine ⟨rfl, rfl, fun hst => ?_⟩
      dsimp only
      split
      · nofun
      · exact hst
    · rw [State.setCauses_having_stays (iff_of_false hwas hk), State.chans_having]
      exact ⟨rfl, rfl, id⟩

/-- A change of one channel that leaves ABSENT and bound channels as they are leaves binding as it stands. -/
theorem OnlyChannel.bindingStands (only : OnlyChannel c s t) (h : bindingStands s)
    (hst : (t.chans.get c).ctl.st = .absent ↔ (s.chans.get c).ctl.st = .absent) : bindingStands t := fun d => by
  rw [bound_congr (s := s) (fun d => by rw [only.stg]) (fun a => by rw [only.enr]) (by rw [only.enr])]
  by_cases hd : d = c
  · rw [hd, hst, ← h c]
  · rw [only.chans d hd, h d]

theorem bindingStands_regainRecord {r' : NodeRecord} (hr : s.enr.table.get a = some r) (h : bindingStands s) :
    bindingStands (s.regainRecord a r') := fun d => by
  have htable (b : Node) : ((s.regainRecord a r').enr.table.get b).isSome = (s.enr.table.get b).isSome := by
    show ((s.enr.table.set a (some r')).get b).isSome = _
    rw [Oct.get_set]
    split
    · next hb => rw [hb, hr]; rfl
    · rfl
  rw [bound_congr (s := s) (t := s.regainRecord a r') (fun _ => rfl) htable rfl]
  exact h d

/-- A LOST record of an address to which no channel is bound comes back. -/
theorem State.rejoinNode_alone {mismatch : Bool} (hr : s.enr.table.get a = some r) (hlost : r.st = .lost) (hstands : bindingStands s)
    (hc : s.channelOf a = none) : s.rejoinNode a mismatch = s.regainRecord a (rejoinedRecord r mismatch) := by
  have h := State.rebind_of_stands (bindingStands_regainRecord (r' := rejoinedRecord r mismatch) hr hstands)
  unfold State.rejoinNode
  rw [hr]; dsimp only
  rw [if_neg (not_not.mpr hlost), hc]
  exact h

/-- A LOST record comes back, and with it the channel bound to its address. -/
theorem State.rejoinNode_bound {mismatch : Bool} (hr : s.enr.table.get a = some r) (hlost : r.st = .lost) (hstands : bindingStands s)
    (hc : s.channelOf a = some c) : s.rejoinNode a mismatch = (s.regainRecord a (rejoinedRecord r mismatch)).channelRegainsNode c
      (decide ((rejoinedRecord r mismatch).st = .mismatch)) := by
  obtain ⟨⟨hst, -⟩, -⟩ := (s.channelOf_eq_some a c).mp hc
  have hregained := bindingStands_regainRecord (r' := rejoinedRecord r mismatch) hr hstands
  unfold State.rejoinNode
  rw [hr]; dsimp only
  rw [if_neg (not_not.mpr hlost), hc]
  generalize hu : s.regainRecord a (rejoinedRecord r mismatch) = u at hregained
  have hunit : (u.chans.get c).ctl.st ≠ .absent := by rw [← hu]; exact hst
  generalize decide ((rejoinedRecord r mismatch).st = .mismatch) = fault
  refine State.rebind_of_stands ((onlyChannel_setCauses u c _).bindingStands hregained (iff_of_false ?_ hunit))
  exact (u.setCauses_unit c _).2.2 hunit

/-- A LOST record brought back where binding stands: the record, its node context, and the channel bound to it (08 R172). -/
theorem rejoined_rejoinNode {mismatch : Bool} {whole : Prop} (hr : s.enr.table.get a = some r) (hlost : r.st = .lost)
    (hstands : bindingStands s) (hwhole : whole ↔ mismatch = false ∧ r.mark = false) (place : Nat) :
    rejoined s ((s.rejoinNode a mismatch).toPlace place) a r whole place ∧
    (s.rejoinNode a mismatch).enr.reading = s.enr.reading := by
  have hst : (rejoinedRecord r mismatch).st = if mismatch || r.mark then .mismatch else .enrolled := rfl
  have hfault : decide ((rejoinedRecord r mismatch).st = .mismatch) = true ↔ ¬whole := by
    rw [decide_eq_true_iff, hst, hwhole]
    cases mismatch <;> cases r.mark <;> simp
  have hrecord : ∃ r' : NodeRecord, s.enr.table.set a (some (rejoinedRecord r mismatch)) = s.enr.table.set a (some r') ∧
      r' = { r with st := r'.st, mark := false } ∧ (whole → r'.st = .enrolled) ∧ (¬whole → r'.st = .mismatch) := by
    refine ⟨_, rfl, rfl, fun h => ?_, fun h => of_decide_eq_true (hfault.mpr h)⟩
    obtain ⟨hm, hmark⟩ := hwhole.mp h
    rw [hst, hm, hmark]; rfl
  cases hc : s.channelOf a with
  | none =>
    rw [State.rejoinNode_alone hr hlost hstands hc]
    exact ⟨⟨hrecord, rfl, rfl, fun _ _ => rfl, fun c h => (nomatch hc.symm.trans h), rfl, rfl⟩, rfl⟩
  | some c =>
    rw [State.rejoinNode_bound hr hlost hstands hc]
    generalize decide ((rejoinedRecord r mismatch).st = .mismatch) = fault at hfault
    have only : OnlyChannel c _ ((s.regainRecord a (rejoinedRecord r mismatch)).channelRegainsNode c fault) :=
      onlyChannel_setCauses _ c _
    obtain ⟨hcauses, href, -⟩ := State.setCauses_unit (s.regainRecord a (rejoinedRecord r mismatch)) c
      { (s.chans.get c).ctl.causes with nodeLost := false, nodeFault := (s.chans.get c).ctl.causes.nodeFault || fault }
    change (((s.regainRecord a (rejoinedRecord r mismatch)).channelRegainsNode c fault).chans.get c).ctl.causes = _ at hcauses
    change (((s.regainRecord a (rejoinedRecord r mismatch)).channelRegainsNode c fault).chans.get c).ctl.referenced = _ at href
    generalize (s.regainRecord a (rejoinedRecord r mismatch)).channelRegainsNode c fault = t at only hcauses href
    refine ⟨⟨?_, ?_, ?_, fun d hd => only.chans d fun hdc => hd (hdc ▸ hc), fun d hd => ?_, only.stg, only.trk⟩, ?_⟩
    · show ∃ r' : NodeRecord, t.enr.table = _ ∧ _
      rw [only.enr]; exact hrecord
    · show t.enr.schedule = _
      rw [only.enr]; rfl
    · show { t.br with place := place } = _
      rw [only.br]; rfl
    · obtain rfl : c = d := Option.some.inj (hc.symm.trans hd)
      show (t.chans.get c).ctl.causes.nodeLost = _ ∧ (t.chans.get c).ctl.causes.undervolt = _ ∧
        ((t.chans.get c).ctl.causes.nodeFault = true ↔ _) ∧ (t.chans.get c).ctl.referenced = _
      rw [hcauses, href, ← hfault]
      exact ⟨rfl, rfl, Bool.or_eq_true_iff, rfl⟩
    · rw [only.enr]; rfl

/-! ### The end of a run (08 R170) -/

/-- What the end of a run leaves: binding judged again, so that an ABSENT channel now bound is at its values (01 R4), and after a
cold start the chosen phase. -/
structure RunEnded (s t : State) : Prop where
  enr : t.enr = { s.enr with
    st := .idle, settle := none, mismatch := decide (s.enr.table.toList.countP Option.isSome ≠ s.stg.image.glob.expectedNodes) }
  stands : bindingStands t
  afterCold : s.enr.fromCold = true → t.stg.phase = s.stg.chosen ∧ t.stg.image = s.stg.image ∧ t.stg.store = s.stg.store
  inRun : s.enr.fromCold = false → t.stg = s.stg
  br : t.br = s.br
  ctx : t.ctx = s.ctx
  trk : t.trk = s.trk
  rst : t.rst = s.rst
  now : t.now = s.now
  binds : ∀ (c : Chan) (a : Node) (r : NodeRecord), (s.chans.get c).ctl.st = .absent → bound t c →
    (s.stg.image.chan.get c).nodeAddr = a.val + 1 → t.enr.table.get a = some r → t.chans.get c = boundUnit (s.chans.get c) r

theorem State.runEnded_endRun (s : State) : RunEnded s s.endRun := by
  generalize hkeeps : s.runOver.nodeAddrs = old
  obtain ⟨hctx, hbr, hnow⟩ := s.runOver.rebind_frame old
  have henr := s.runOver.enr_rebind old
  have hrst := s.runOver.rst_rebind old
  have htrk := s.runOver.trk_rebind old
  have hstg := s.runOver.stg_rebind old
  have hstands := bindingStands_rebind s.runOver old
  have hchans := s.runOver.chans_rebind old
  rw [State.endRun_eq, hkeeps]
  generalize s.runOver.rebind old = t at hctx hbr hnow henr hrst htrk hstg hstands hchans
  have ends {u : SettingsUnit} (himage : u.image = s.stg.image)
      (hcold : s.enr.fromCold = true → u.phase = s.stg.chosen ∧ u.image = s.stg.image ∧ u.store = s.stg.store)
      (hrun : s.enr.fromCold = false → u = s.stg) :
      RunEnded s { t with enr := { t.enr with mismatch := decide (t.nodeCount ≠ t.glob.expectedNodes) }, stg := u } := by
    generalize hv : ({ t with
      enr := { t.enr with mismatch := decide (t.nodeCount ≠ t.glob.expectedNodes) }, stg := u } : State) = v
    have hvchans : v.chans = t.chans := by rw [← hv]
    have hvbound (c : Chan) : bound v c ↔ bound s.runOver c := by
      refine bound_congr (fun d => ?_) (fun a => ?_) ?_ c
      · rw [← hv]; dsimp only; rw [himage]; rfl
      · rw [← hv]; dsimp only; rw [henr]
      · rw [← hv]; dsimp only; rw [henr]
    have htbound (c : Chan) : bound t c ↔ bound s.runOver c :=
      bound_congr (fun d => by rw [hstg]) (fun a => by rw [henr]) (by rw [henr]) c
    refine ⟨?_, fun c => ?_, ?_, ?_, ?_, ?_, ?_, ?_, ?_, fun c a r habsent hbound haddr hr => ?_⟩
    · rw [← hv]; dsimp only; unfold State.nodeCount State.glob; rw [henr, hstg]; rfl
    · rw [hvchans, hstands c, hvbound c, htbound c]
    · rw [← hv]; exact hcold
    · rw [← hv]; exact hrun
    · rw [← hv]; exact hbr
    · rw [← hv]; exact hctx
    · rw [← hv]; exact htrk
    · rw [← hv]; exact hrst
    · rw [← hv]; exact hnow
    · have hrecord : s.runOver.bindingRecord c = some r := by
        rw [State.bindingRecord_of_bound ((hvbound c).mp hbound) haddr, ← hr, ← hv, ← henr]
      rw [hvchans, hchans c, hrecord]
      exact if_pos habsent
  dsimp only
  cases hcold : s.enr.fromCold with
  | false =>
    rw [if_neg nofun]
    exact ends (u := t.stg) (by rw [hstg]; rfl) (fun h => nomatch hcold.symm.trans h) fun _ => hstg
  | true =>
    obtain ⟨u, hu, hphase, -, himage, hstore, -⟩ := State.enterPhase_eq
      { t with enr := { t.enr with mismatch := decide (t.nodeCount ≠ t.glob.expectedNodes) } } s.stg.chosen
    rw [if_pos rfl, hu]
    dsimp only at himage hstore
    rw [hstg] at himage hstore
    exact ends himage (fun _ => ⟨hphase, himage, hstore⟩) fun h => nomatch hcold.symm.trans h

/-- The state as the run's last offer leaves it, once it has been judged. -/
def State.lastJudged (s : State) (table : Oct (Option NodeRecord)) (miss : Nat) (nodes : Oct NodeContext) : State :=
  { s with
    enr := { s.enr with table := table, miss := miss, slot0 := .unused, reading := none }
    br := { s.br with nodes := nodes } }

theorem State.recorded_slotOver (s : State) (r : NodeRecord) :
    ∃ nodes, s.slotOver.recorded r = s.lastJudged (s.enr.table.set s.enr.offer (some r)) 0 nodes := ⟨_, rfl⟩

theorem State.slotOver_missed (s : State) (miss : Nat) :
    ({ s.slotOver with enr := { s.slotOver.enr with miss := miss } } : State) = s.lastJudged s.enr.table miss s.br.nodes := rfl

end

end Sys2Proof.Machine

namespace Sys2Proof.Proofs

open Sys2Proof.Machine Sys2Proof.Claim

/-- Settles O48: slot 0, used or not, answered or not, and the reply slot the unit reads. -/
theorem slotZeroMakesRecords : Obligations.SlotZeroMakesRecords := by
  refine ⟨fun s content hrst hp => ?_, fun s a content hrst hp hreading => ?_⟩
  · have hrow : exec (.slot0End content) s = .next ((s.slot0Ends content).toPlace 9) := execSlot0End_next content hrst hp
    rw [hrow]
    refine ⟨fun hslot => ?_, fun id hid hslot hst hoffer => ?_, fun hid hslot hst hmiss => ?_, fun a hid hslot => ?_,
      fun a id r hid hslot hr hlost hstands => ?_⟩
    · rw [State.slot0Ends_unused content hslot]; rfl
    · rw [State.slot0Ends_enrolls hslot hst hid, State.makeRecord_next (s := s.slotOver) hoffer]; rfl
    · rw [State.slot0Ends_misses hslot hst hid, State.missOffer_goesOn (s := s.slotOver) hmiss]; rfl
    · rw [State.slot0Ends_rejoin_missed hslot hid]; rfl
    · rw [State.slot0Ends_rejoins hslot hr hid]
      refine ⟨_, rfl, (rejoined_rejoinNode (s := s.slotOver) hr hlost hstands ?_ 9).1⟩
      rw [decide_eq_false_iff_not, not_not]
  · have hrow : exec (.replySlotEnd a content) s = _ := exec_replySlotEnd_read hrst hp hreading
    rw [hrow]
    refine ⟨fun hm => ?_, fun m hm hst hoffer hlast => ?_, fun m r hm hst hr hlost hstands => ?_⟩
    · rw [State.readSlotEnds_unchecked hm]; rfl
    · subst hoffer
      rw [State.readSlotEnds_run hm (by rw [hst]; nofun), State.makeRecord_next (s := s.slotOver) hlast]; rfl
    · rw [State.readSlotEnds_rejoins hm hst]
      obtain ⟨hback, hread⟩ := rejoined_rejoinNode (s := { s with enr := { s.enr with reading := none } }) hr hlost hstands
        (mismatch := m.freshStart) Iff.rfl (a.val + 1)
      exact ⟨_, rfl, hread, hback⟩

/-- Settles O49: each way in which the run ends comes to the end of a run with its last offer judged. -/
theorem enrollmentRunEnds : Obligations.EnrollmentRunEnds := by
  intro s content hrst hslot hst ended
  have hended (table : Oct (Option NodeRecord)) (miss : Nat) (nodes : Oct NodeContext) (place : Nat) :
      ended ((s.lastJudged table miss nodes).endRun.toPlace place) place ∧
      ((s.lastJudged table miss nodes).endRun.toPlace place).enr.miss = miss ∧
      ((s.lastJudged table miss nodes).endRun.toPlace place).enr.table = table := by
    obtain ⟨henr, hstands, hcold, hrun, hbr, hctx, htrk, hkept, hnow, hbinds⟩ := (s.lastJudged table miss nodes).runEnded_endRun
    generalize (s.lastJudged table miss nodes).endRun = t at henr hstands hcold hrun hbr hctx htrk hkept hnow hbinds
    have htimer : t.br.timer = s.br.timer := by rw [hbr]; rfl
    refine ⟨⟨?_, ?_, ?_, ?_, ?_, ?_, hstands, hcold, hrun, rfl, htimer, hctx, htrk, hkept, hnow, hbinds⟩, ?_, ?_⟩
    · exact congrArg EnrollmentUnit.st henr
    · exact congrArg EnrollmentUnit.settle henr
    · exact congrArg EnrollmentUnit.slot0 henr
    · exact congrArg EnrollmentUnit.reading henr
    · exact henr ▸ rfl
    · exact (congrArg EnrollmentUnit.schedule henr :)
    · exact congrArg EnrollmentUnit.miss henr
    · exact congrArg EnrollmentUnit.table henr
  have hslot0 (hp : s.br.place = 8) : exec (.slot0End content) s = .next ((s.slot0Ends content).toPlace 9) :=
    execSlot0End_next content hrst hp
  refine ⟨fun id hid hp hoffer => ?_, fun m hm hp hoffer hreading => ?_, fun hid hp hmiss => ?_⟩
  · obtain ⟨nodes, hlast⟩ := s.recorded_slotOver (recordOf id)
    rw [hoffer] at hlast
    rw [hslot0 hp, State.slot0Ends_enrolls hslot hst hid, State.makeRecord_last (s := s.slotOver) hoffer, hlast]
    exact ⟨_, rfl, hended _ 0 nodes 9⟩
  · obtain ⟨nodes, hlast⟩ := s.recorded_slotOver namelessRecord
    rw [hoffer] at hlast
    have hrow : exec (.replySlotEnd 7 content) s = _ := exec_replySlotEnd_read hrst hp hreading
    rw [hrow, State.readSlotEnds_run hm (by rw [hst]; nofun), State.makeRecord_last (s := s.slotOver) hoffer, hlast]
    exact ⟨_, rfl, hended _ 0 nodes 8⟩
  · rw [hslot0 hp, State.slot0Ends_misses hslot hst hid, State.missOffer_third (s := s.slotOver) hmiss, State.slotOver_missed]
    exact ⟨_, rfl, hended _ 3 _ 9⟩

end Sys2Proof.Proofs
end

section
/-! A side command completed by a good CYCLE frame: its row, the order fields of the frame beside it, and the frame's REPORT
(08 R166, 09 R175, R180, R181). -/

namespace Sys2Proof.Machine

open Sys2Proof.Claim

/-! ### The order gates reach one channel each -/

section
variable (s : State) (c : Chan) (o : Order)

theorem onlyChannel_heldEnd : OnlyChannel c s (s.heldEnd c o) := by
  unfold State.heldEnd; split
  · split
    · exact onlyChannel_vacate s c .idle
    · exact .refl c s
  · exact .refl c s

theorem onlyChannel_endCarried : OnlyChannel c s (s.endCarried c) := by
  unfold State.endCarried; split
  · exact .refl c s
  · exact onlyChannel_vacate s c .idle

theorem onlyChannel_sameDirection (m : Motion) : OnlyChannel c s (s.sameDirection c o m) := by
  have hcarried (f : Motion → Motion) : OnlyChannel c s (s.modCarried c f) := by
    unfold State.modCarried; split
    · exact onlyChannel_modEntry s c f
    · exact onlyChannel_modCtl s c _
  unfold State.sameDirection; split
  · split
    · exact onlyChannel_modCtl s c _
    · exact .refl c s
  · exact (hcarried _).trans (onlyChannel_modCtl _ c _)

theorem onlyChannel_actInMotion : OnlyChannel c s (s.actInMotion c o) := by
  have hjoins (m : Motion) : OnlyChannel c s ((s.endCarried c).joinQueue c m) :=
    (onlyChannel_endCarried s c).trans (onlyChannel_joinQueue _ c m)
  unfold State.actInMotion; split
  · exact onlyChannel_endCarried s c
  · split
    · exact .refl c s
    · split
      · exact hjoins _
      · split
        · exact onlyChannel_sameDirection s c o _
        · exact hjoins _

theorem onlyChannel_takeOrder : OnlyChannel c s (s.takeOrder c o) := by
  have hfail := onlyChannel_teachFail s c .order
  unfold State.takeOrder; dsimp only; split
  · exact hfail.trans (onlyChannel_refuse _ c _)
  · split
    · exact hfail.trans (onlyChannel_endCarried _ c)
    · exact hfail.trans (onlyChannel_actInMotion _ c o)

theorem onlyChannel_orderGate : OnlyChannel c s (s.orderGate c o) := by
  have hheld := (onlyChannel_modCtl s c fun r => { r with lastOrder := o }).trans (onlyChannel_heldEnd _ c o)
  unfold State.orderGate; dsimp only; split
  · exact hheld.trans (onlyChannel_takeOrder _ c o)
  · exact hheld

end

theorem State.rst_orderGates (s : State) (orders : Oct Byte) : (s.orderGates orders).rst = s.rst :=
  foldl_octIndexes_field _ State.rst (fun s c => (onlyChannel_orderGate s c _).rst) s

theorem State.stg_orderGates (s : State) (orders : Oct Byte) : (s.orderGates orders).stg = s.stg :=
  foldl_octIndexes_field _ State.stg (fun s c => (onlyChannel_orderGate s c _).stg) s

theorem State.trk_orderGates (s : State) (orders : Oct Byte) : (s.orderGates orders).trk = s.trk :=
  foldl_octIndexes_field _ State.trk (fun s c => (onlyChannel_orderGate s c _).trk) s

/-! ### The argument bits of a side command (11 R191) -/

theorem argumentBits_position (b : Oct Byte) : (argumentBits b).extractLsb' 32 16 = b.a2 ++ b.a3 := by
  unfold argumentBits
  refine BitVec.eq_of_getLsbD_eq fun i hi => ?_
  simp only [BitVec.getLsbD_extractLsb', BitVec.getLsbD_append]
  grind

theorem argumentBits_value (b : Oct Byte) : (argumentBits b).extractLsb' 24 16 = b.a3 ++ b.a4 := by
  unfold argumentBits
  refine BitVec.eq_of_getLsbD_eq fun i hi => ?_
  simp only [BitVec.getLsbD_extractLsb', BitVec.getLsbD_append]
  grind

/-- A field in the low 40 argument bits lies in bytes 3 to 7. -/
theorem argumentBits_low (b : Oct Byte) {start len : Nat} (h : start + len ≤ 40) : (argumentBits b).extractLsb' start len =
    (b.a3 ++ b.a4 ++ b.a5 ++ b.a6 ++ b.a7 : BitVec 40).extractLsb' start len := by
  unfold argumentBits
  refine BitVec.eq_of_getLsbD_eq fun i hi => ?_
  simp only [BitVec.getLsbD_extractLsb', BitVec.getLsbD_append]
  grind

/-! ### The row of a side command -/

section
variable {s : State} {b : Oct Byte} {i : Instr}

theorem byte_of_commandCodeOf {b : Byte} {k : CommandCode} (h : commandCodeOf b = some k) : b = k.byte := by
  unfold commandCodeOf at h
  split at h
  case h_12 => exact nomatch h
  all_goals
    next hb =>
      obtain rfl := Option.some.inj h
      exact BitVec.eq_of_toNat_eq hb

theorem commandCodeOf_of_toNat {b : Byte} (k : CommandCode) (h : b.toNat = k.byte.toNat) : commandCodeOf b = some k := by
  rw [BitVec.eq_of_toNat_eq h, commandCodeOf_byte]

theorem commandOfBytes_eq_resetPart (b : Oct Byte) : commandOfBytes b = some .resetPart ↔ b.a0 = 3 := by
  refine ⟨fun h => byte_of_commandCodeOf (commandOfBytes_code h), fun h => ?_⟩
  unfold commandOfBytes; dsimp only
  rw [commandCodeOf_of_toNat .resetPart (congrArg BitVec.toNat h)]

/-- The eight bytes of a command name its code. -/
theorem manage_commandOfBytes {cmd : Command} (hr : s.rst.active = false) (hcmd : commandOfBytes b = some cmd) :
    execManaged .side cmd s = .next (s.manage .side b.a0 (commandOfBytes b)) := by
  rw [execManaged, whileRunning_running s _ hr, hcmd, byte_of_commandCodeOf (commandOfBytes_code hcmd)]

/-- READs that read alike are managed alike. -/
theorem State.manage_read_congr {path : Path} {code item first second item' first' second' : Byte}
    (h : ∀ t : State, t.read item first second = t.read item' first' second') :
    s.manage path code (some (.read item first second)) = s.manage path code (some (.read item' first' second')) := by
  have hperform (t : State) : t.perform (.read item first second) = t.perform (.read item' first' second') := h t
  have hjudge (t : State) : t.judge path code (some (.read item first second)) =
      t.judge path code (some (.read item' first' second')) := by
    unfold State.judge State.dispatch; dsimp only; rw [hperform]
  unfold State.manage; dsimp only
  rw [hjudge]; rfl

/-- A READ of the side channel, the arguments that its item does not use being ignored. -/
theorem manage_readOfBytes {item first second : Byte} (hr : s.rst.active = false) (hcode : b.a0.toNat = 1)
    (h : ∀ t : State, t.read item first second = t.read b.a1 b.a2 b.a3) :
    execManaged .side (.read item first second) s = .next (s.manage .side b.a0 (commandOfBytes b)) := by
  have hcmd : commandOfBytes b = some (.read b.a1 b.a2 b.a3) := by
    unfold commandOfBytes; dsimp only
    rw [commandCodeOf_of_toNat .read hcode]
  rw [← manage_commandOfBytes hr hcmd, execManaged, execManaged, whileRunning_running s _ hr, whileRunning_running s _ hr]
  exact congrArg _ (State.manage_read_congr h)

/-- The row that eight bytes spell is the command they hold. -/
theorem exec_sideRow (hr : s.rst.active = false) (h : sideRow b = some i) :
    exec i s = .next (s.manage .side b.a0 (commandOfBytes b)) := by
  have spelled {cmd : Command} {k : CommandCode} (hcode : b.a0.toNat = k.byte.toNat)
      (hcmd : commandCodeOf b.a0 = some k → commandOfBytes b = some cmd) :
      execManaged .side cmd s = .next (s.manage .side b.a0 (commandOfBytes b)) :=
    manage_commandOfBytes hr (hcmd (commandCodeOf_of_toNat k hcode))
  unfold sideRow at h
  dsimp only at h
  split at h
  case h_24 => exact nomatch h
  all_goals obtain rfl := Option.some.inj h
  case h_15 hcode => exact spelled (k := .restorePosition) hcode fun hk => by simp only [commandOfBytes, hk, argumentBits_position]
  case h_16 hcode => exact spelled (k := .resetPart) hcode fun hk => by simp only [commandOfBytes, hk]
  case h_17 hcode => exact spelled (k := .reopen) hcode fun hk => by simp only [commandOfBytes, hk]
  case h_18 hcode => exact spelled (k := .writeSetting) hcode fun hk => by simp only [commandOfBytes, hk, argumentBits_value]
  case h_19 hcode =>
    refine spelled (k := .setZone) hcode fun hk => ?_
    simp only [commandOfBytes, hk]
    rw [argumentBits_low b (by decide), argumentBits_low b (by decide), argumentBits_low b (by decide),
      argumentBits_low b (by decide)]
  case h_20 hcode => exact spelled (k := .clearZones) hcode fun hk => by simp only [commandOfBytes, hk]
  case h_21 hcode => exact spelled (k := .teach) hcode fun hk => by simp only [commandOfBytes, hk]
  case h_22 hcode => exact spelled (k := .lockIn) hcode fun hk => by simp only [commandOfBytes, hk]
  case h_23 hcode => exact spelled (k := .enroll) hcode fun hk => by simp only [commandOfBytes, hk]
  all_goals
    next hcode hitem => exact manage_readOfBytes hr hcode fun t => by unfold State.read; rw [hitem]; rfl

/-! ### Eight bytes that spell no row -/

theorem codeOnPath_of_sideRow_none (h : sideRow b = none) (hread : b.a0 ≠ 1) : codeOnPath .side b.a0 = none := by
  unfold codeOnPath
  cases hk : commandCodeOf b.a0 with
  | none => rfl
  | some k =>
    have hbyte := byte_of_commandCodeOf hk
    cases k with
    | read => exact absurd hbyte hread
    | loadBaseline => rfl
    | _ => unfold sideRow at h; rw [hbyte] at h; exact nomatch h

theorem read_of_sideRow_none (h : sideRow b = none) (hcode : b.a0 = 1) (t : State) (first second : Byte) :
    t.read b.a1 first second = t.deny .badArgument := by
  unfold State.read
  split
  case h_15 => rfl
  all_goals
    next hitem => unfold sideRow at h; rw [hcode, hitem] at h; exact nomatch h

/-- A side command that is denied does nothing but answer. -/
theorem State.manage_denied {code : Byte} {cmd : Option Command} {status : Status}
    (hjudge : (s.arrived .side).judge .side code cmd = (s.arrived .side).deny status) (hstatus : status ≠ .ok) :
    s.manage .side code cmd = delivered .side (denied code status) s := by
  have hno : decide (((s.arrived .side).deny status).status = .ok) = false := decide_eq_false hstatus
  unfold State.manage; dsimp only
  rw [show ({ s with trk := TrunkPort.arrived s.trk .side } : State) = s.arrived .side from rfl, hjudge, hno, Bool.and_false]
  exact State.deliver_arrived _

theorem State.manage_unknown (hrow : sideRow b = none) (hread : b.a0 ≠ 1) :
    s.manage .side b.a0 (commandOfBytes b) = delivered .side (denied b.a0 .unknownCommand) s := by
  refine State.manage_denied ?_ nofun
  unfold State.judge State.dispatch
  rw [if_neg fun h => (nomatch h.1), codeOnPath_of_sideRow_none hrow hread]

theorem State.manage_readNothing (hrow : sideRow b = none) (hread : b.a0 = 1) : s.manage .side b.a0 (commandOfBytes b) =
    delivered .side (denied b.a0 (if s.stg.write = none then .badArgument else .busy)) s := by
  refine State.manage_denied ?_ (by split <;> nofun)
  have hcode := commandCodeOf_of_toNat .read (congrArg BitVec.toNat hread)
  have hcmd : commandOfBytes b = some (.read b.a1 b.a2 b.a3) := by
    unfold commandOfBytes; dsimp only; rw [hcode]
  have hpath : codeOnPath .side b.a0 = some .read := by unfold codeOnPath; rw [hcode]
  unfold State.judge State.dispatch
  rw [if_neg fun h => (nomatch h.1), hpath, hcmd]; dsimp only
  by_cases hwrite : s.stg.write = none
  · rw [if_neg (by unfold State.storeBusy; rw [show (s.arrived .side).stg = s.stg from rfl, hwrite]; nofun),
      if_neg fun h => h.2 rfl, if_neg (by rw [takenIn_read]; nofun), if_pos hwrite]
    exact read_of_sideRow_none hrow hread _ _ _
  · rw [if_pos (show (s.arrived .side).storeBusy = true from Option.isSome_iff_ne_none.mpr hwrite), if_neg hwrite]

/-! ### What a side command leaves of the trunk port (09 R180, 08 R166) -/

theorem State.state_judge_resetPart (s : State) (path : Path) (code : Byte) :
    (s.judge path code (some .resetPart)).state = s := by
  have hperform : (s.perform .resetPart).state = s := by
    unfold State.perform State.resetPart; dsimp only; split <;> rfl
  unfold State.judge; split
  · rfl
  · unfold State.dispatch; split
    · rfl
    · split
      · rfl
      · split
        · rfl
        · split
          · rfl
          · exact hperform

/-- A side command leaves its answer pending, and its OK to RESET PART, which changes nothing else, arms the warm reset. -/
theorem State.manage_side (s : State) (b : Oct Byte) : ∃ r : Reply, r.code = b.a0 ∧
    (s.manage .side b.a0 (commandOfBytes b)).trk = { s.trk with
      collector := .idle, response := some { reply := r, next := 1 }
      resetArmed := s.trk.resetArmed || (decide (r.code = 3) && decide (r.status = .ok)) } ∧
    (r.code = 3 → (s.manage .side b.a0 (commandOfBytes b)).rst = s.rst) := by
  have htrk := (s.arrived .side).trk_judge .side b.a0 (commandOfBytes b)
  have hreset : b.a0 = 3 → ((s.arrived .side).judge .side b.a0 (commandOfBytes b)).state = s.arrived .side := fun h => by
    rw [(commandOfBytes_eq_resetPart b).mpr h]; exact State.state_judge_resetPart _ _ _
  have hcmd : decide (commandOfBytes b = some .resetPart) = decide (b.a0 = 3) :=
    decide_eq_decide.mpr (commandOfBytes_eq_resetPart b)
  unfold State.manage; dsimp only
  rw [show ({ s with trk := TrunkPort.arrived s.trk .side } : State) = s.arrived .side from rfl, hcmd]
  generalize (s.arrived .side).judge .side b.a0 (commandOfBytes b) = a at htrk hreset
  refine ⟨{ code := b.a0, status := a.status, data := a.data }, rfl, ?_, fun h => ?_⟩
  · unfold State.deliver; dsimp only
    rw [htrk]; rfl
  · show a.state.rst = _
    rw [hreset h]; rfl

end

/-! ### The frame that completes a side command (09 R175) -/

section
variable {s w u : State} {p : CyclePayload} {f1 f2 f3 : BitVec 16} {b : Oct Byte} {orders : Oct Byte}

/-- The state once a frame's context is taken, the trunk loss timer restarted and the collection complete. -/
def State.cycleTaken (s : State) (p : CyclePayload) : State := { s with
  freeCount := s.freeCount + 1
  ctx := contextOf p
  trk := { s.trk with rx := .hunt, collector := .idle, lossTimer := some (s.now + 4 * s.stg.image.glob.trunkLoss) } }

/-- `u` follows `w` by the side command of eight bytes and the order fields of its frame, in the one order or the other (log 4). -/
def ordersAndCommand (w : State) (orders : Oct Byte) (b : Oct Byte) (u : State) : Prop :=
  u = (w.orderGates orders).manage .side b.a0 (commandOfBytes b) ∨ u = (w.manage .side b.a0 (commandOfBytes b)).orderGates orders

theorem State.takeCycle_completes (hcollector : s.trk.collector = .collecting [f1, f2, f3]) (hresponse : s.trk.response = none)
    (hmarker : p.marker = 4) : ∃ u, s.takeCycle p = u.joinReport 4 ∧
      ordersAndCommand (s.cycleTaken p) p.orders (bytesOfFragments f1 f2 f3 p.fragment) u := by
  have hcollect : TrunkPort.collect { s.trk with rx := .hunt, lossTimer := some (s.inMs (2 * s.glob.trunkLoss)) } 4 p.fragment =
      ({ s.trk with rx := .hunt, lossTimer := some (s.inMs (2 * s.glob.trunkLoss)), collector := .idle },
        some (bytesOfFragments f1 f2 f3 p.fragment)) := by
    unfold TrunkPort.collect
    rw [if_neg (by decide), if_neg (by decide), if_pos (by decide)]
    unfold TrunkPort.nextFragment; dsimp only
    rw [hcollector, hresponse]; rfl
  have hloss : s.inMs (2 * s.glob.trunkLoss) = s.now + 4 * s.stg.image.glob.trunkLoss := by
    show s.now + 2 * (2 * s.stg.image.glob.trunkLoss) = _
    omega
  have htaken : State.bump { s with
      ctx := contextOf p
      trk := { s.trk with rx := .hunt, lossTimer := some (s.inMs (2 * s.glob.trunkLoss)), collector := .idle } } =
      s.cycleTaken p := by
    unfold State.cycleTaken; rw [← hloss]; rfl
  have hframe : s.takeCycle p = (State.ordersAndSide { s with
      ctx := contextOf p
      trk := { s.trk with rx := .hunt, lossTimer := some (s.inMs (2 * s.glob.trunkLoss)), collector := .idle } } p.orders
      (some (bytesOfFragments f1 f2 f3 p.fragment))).joinReport 4 := by
    unfold State.takeCycle; dsimp only
    rw [hmarker]
    unfold State.restartLoss; dsimp only
    rw [show State.inMs { s with ctx := contextOf p, trk := { s.trk with rx := .hunt } } = s.inMs from rfl]
    rw [show State.glob { s with ctx := contextOf p, trk := { s.trk with rx := .hunt } } = s.glob from rfl, hcollect]
  unfold State.ordersAndSide at hframe; dsimp only at hframe
  rw [htaken] at hframe
  refine ⟨_, hframe, ?_⟩
  split
  · exact .inl rfl
  · exact .inr rfl

theorem ordersAndCommand_row {i : Instr} (h : ordersAndCommand w orders b u) (hr : w.rst.active = false) (hi : sideRow b = some i) :
    exec i (w.orderGates orders) = .next u ∨ ∃ v, exec i w = .next v ∧ u = v.orderGates orders := by
  refine h.imp (fun hu => ?_) fun hu => ⟨_, exec_sideRow hr hi, hu⟩
  rw [hu]
  exact exec_sideRow ((congrArg ResetUnit.active (w.rst_orderGates orders)).trans hr) hi

/-- An answer that stands pending beside the order fields does not reach them. -/
theorem State.orderGates_delivered (s : State) (r : Reply) (orders : Oct Byte) :
    (delivered .side r s).orderGates orders = delivered .side r (s.orderGates orders) := by
  refine (s.orderGates_withTrk _ orders).trans ?_
  unfold State.withTrk delivered; dsimp only
  rw [State.trk_orderGates]

theorem ordersAndCommand_denied {r : Reply} (h : ordersAndCommand w orders b u)
    (hdenied : ∀ t : State, t.stg = w.stg → t.manage .side b.a0 (commandOfBytes b) = delivered .side r t) :
    u = delivered .side r (w.orderGates orders) := by
  obtain hu | hu := h
  · rw [hu, hdenied _ (w.stg_orderGates orders)]
  · rw [hu, hdenied w rfl, State.orderGates_delivered]

theorem ordersAndCommand_answers (h : ordersAndCommand w orders b u) : ∃ r : Reply, r.code = b.a0 ∧
    u.trk = { w.trk with
      collector := .idle, response := some { reply := r, next := 1 }
      resetArmed := w.trk.resetArmed || (decide (r.code = 3) && decide (r.status = .ok)) } ∧
    (r.code = 3 → u.rst = w.rst) := by
  obtain hu | hu := h
  · obtain ⟨r, hcode, htrk, hrst⟩ := (w.orderGates orders).manage_side b
    rw [State.trk_orderGates] at htrk
    rw [State.rst_orderGates] at hrst
    exact ⟨r, hcode, hu ▸ htrk, hu ▸ hrst⟩
  · obtain ⟨r, hcode, htrk, hrst⟩ := w.manage_side b
    refine ⟨r, hcode, ?_, ?_⟩
    · rw [hu, State.trk_orderGates, htrk]
    · rw [hu, State.rst_orderGates]; exact hrst

theorem delivered_side_of_idle (r : Reply) (h : s.trk.collector = .idle) :
    delivered .side r s = { s with trk := { s.trk with response := some { reply := r, next := 1 } } } := by
  unfold delivered; dsimp only
  rw [← h]

/-- The REPORT of a frame with marker 4, with a response pending (09 R181). -/
theorem State.joinReport_pending {x : PendingResponse} (h : u.trk.response = some x) : u.joinReport 4 =
    State.joinAnswers { u with trk := { u.trk with resetArmed := false } }
      { body := .report { marker := 0, fragment := 0 } none, resets := u.trk.resetArmed } := by
  have hchosen : TrunkPort.chooseSide u.trk 4 = ({ marker := 0, fragment := 0 }, u.trk) := by
    unfold TrunkPort.chooseSide; rw [h]; exact if_neg (by decide)
  unfold State.joinReport; dsimp only
  rw [hchosen]

/-- A warm reset empties the answer list, whatever stands in it. -/
theorem State.warmReset_answers (s : State) (answers : List Answer) :
    State.warmReset { s with trk := { s.trk with answers := answers } } = s.warmReset := rfl

/-- So the reset that a sent RESPONSE brings is the one that brings it where the list loses it. -/
theorem exec_answerSent_resets {r : Reply} (hr : s.rst.active = false) (hfree : s.resetBusy = false) :
    exec .answerSent { s with trk := { s.trk with answers := [{ body := .response r, resets := true }] } } =
      .next s.tryWarmReset := by
  obtain ⟨hrest, hidle, hwrite⟩ := s.resetBusy_eq_false.mp hfree
  have hempty : State.tryWarmReset { s with trk := { s.trk with answers := [] } } = s.tryWarmReset := by
    rw [State.tryWarmReset_of_free hrest hidle hwrite, ← s.warmReset_answers []]
    exact State.tryWarmReset_of_free hrest hidle hwrite
  refine (whileRunning_running _ State.answerSent ?_).trans (congrArg Host.Outcome.next hempty)
  exact hr

theorem State.tryWarmReset_barred (h : s.resetBusy = true) : s.tryWarmReset = s := if_pos h

/-- An answer that finds 4 answers standing is lost, and a reset that its sending would bring comes at once (09 R174). -/
theorem State.joinAnswers_full {a : Answer} (h : 4 ≤ s.trk.answers.length) :
    s.joinAnswers a = if a.resets then s.tryWarmReset else s := if_neg (not_lt.mpr h)

/-- The context record of a frame, as the statements say it (05 R108). -/
theorem contextOf_rough (p : CyclePayload) : (p.rough.extractLsb' 0 4).toNat = (p.rough &&& 0x0F).toNat := by
  rw [BitVec.toNat_and, BitVec.extractLsb'_toNat]
  exact (Nat.and_two_pow_sub_one_eq_mod _ 4).symm

end

end Sys2Proof.Machine

namespace Sys2Proof.Proofs

open Sys2Proof.Machine Sys2Proof.Claim

/-- Settles O12: the frame is taken with the command beside the orders, and then its REPORT joins the list or is lost. -/
theorem completedSideCommandDoesItsRow : Obligations.CompletedSideCommandDoesItsRow := by
  intro s p f1 f2 f3 hr harmed hcollector hresponse hmarker bytes taken answered
  have htaken : s.cycleTaken p = taken := by
    unfold State.cycleTaken contextOf
    rw [contextOf_rough]; rfl
  obtain ⟨u, hframe, hbeside⟩ := State.takeCycle_completes hcollector hresponse hmarker
  rw [htaken] at hbeside
  have hrow : exec (.goodCycleFrame p) s = .next (s.takeCycle p) := by
    show whileRunning s (fun s => s.takeCycle p) = _
    rw [whileRunning_running s _ hr]
  have hdenied {status : Status} (h : ∀ t : State, t.stg = taken.stg →
      t.manage .side bytes.a0 (commandOfBytes bytes) = delivered .side (denied bytes.a0 status) t) :
      u = answered (taken.orderGates p.orders) status := by
    rw [ordersAndCommand_denied hbeside h]
    exact delivered_side_of_idle _ (by rw [State.trk_orderGates])
  obtain ⟨r, hcode, htrk, hrst⟩ := ordersAndCommand_answers hbeside
  have hpending : u.trk.response = some { reply := r, next := 1 } := by rw [htrk]
  have hanswers : u.trk.answers = s.trk.answers := by rw [htrk]
  have harms : u.trk.resetArmed = true ↔ r.code = 3 ∧ r.status = .ok := by
    rw [htrk]; dsimp only
    rw [show taken.trk.resetArmed = false from harmed, Bool.false_or, Bool.and_eq_true, decide_eq_true_iff, decide_eq_true_iff]
  refine ⟨u.joinReport 4, u, r, hrow.trans (congrArg _ hframe), fun i hi => ordersAndCommand_row hbeside hr hi,
    fun hnone hread => hdenied fun t _ => State.manage_unknown hnone hread,
    fun hnone hread => hdenied fun t ht => ?_, by rw [htrk], hpending, hcode, harms, by rw [htrk], hanswers, ?_⟩
  · rw [State.manage_readNothing hnone hread, ht]
  · rw [State.joinReport_pending hpending]
    intro left barred
    have hbusy : left.resetBusy = true ↔ barred := by
      rw [State.resetBusy_iff]
      simp only [atRest_eq_false_iff]
      exact or_comm.trans or_assoc
    have hjoined : left.trk.answers = s.trk.answers := hanswers
    refine ⟨fun hroom => ?_, fun hfull hnot => ?_, fun hfull hsent hfree => ?_⟩
    · unfold State.joinAnswers
      rw [hjoined]; exact if_pos hroom
    · rw [State.joinAnswers_full (hjoined ▸ hfull)]
      obtain hno | hbar := hnot
      · rw [hno]; exact if_neg nofun
      · rw [State.tryWarmReset_barred (hbusy.mpr hbar), ite_self]
    · have hrunning : left.rst.active = false := (congrArg ResetUnit.active (hrst (harms.mp hsent).1)).trans hr
      rw [State.joinAnswers_full (hjoined ▸ hfull)]; dsimp only
      rw [if_pos hsent]
      exact exec_answerSent_resets hrunning (Bool.eq_false_of_not_eq_true fun h => hfree (hbusy.mp h))

end Sys2Proof.Proofs
end

section
/-! READ of the items over channels, nodes, settings and the part: their data bits, and what each changes (09 R182, R183, 02 R61,
07 R160). -/

namespace Sys2Proof.Machine

open Sys2Proof.Claim

/-! ### Data bits of the items (11 R191) -/

theorem answerData_channelStatus (st : Nat) (referenced : Bool) (pos : Int) (k : Causes) (l : Latched) (level mask : Nat) :
    answerData ([(3, (st : Int)), bitOf referenced, (13, pos)] ++ setFields (causesList k) ++ setFields (latchedList l) ++
      [(2, (level : Int)), (10, (mask : Int))]) =
    BitVec.ofNat 3 st ++ BitVec.ofBool referenced ++ BitVec.ofInt 13 pos ++ BitVec.ofBool k.nodeLost ++
      BitVec.ofBool k.nodeFault ++ BitVec.ofBool k.undervolt ++ BitVec.ofBool l.blindStop ++ BitVec.ofBool l.drift ++
      BitVec.ofBool l.profileRepaired ++ BitVec.ofBool l.orderRefused ++ BitVec.ofBool l.startTimeout ++
      BitVec.ofNat 2 level ++ BitVec.ofNat 10 mask ++ 0#11 := by
  refine answerData_eq (by simp [bitOf, setFields, causesList, latchedList]) ?_
  simp only [toNat_append_add, toNat_ofNat_field, toNat_ofInt_field, toNat_ofBool]
  simp [packFields, bitOf, setFields, causesList, latchedList]

theorem answerData_refusal (n : Nat) : answerData [(4, (n : Int))] = BitVec.ofNat 4 n ++ 0#44 := by
  refine answerData_eq (by simp) ?_
  simp only [toNat_append_add, toNat_ofNat_field]
  simp [packFields]

/-- The teach state, the reason of a failed teach or none, and the visited count (03 R86). -/
theorem answerData_teach (t : TeachState) (visited : Nat) :
    answerData ([(2, (teachStateCode t : Int))] ++ presentOr 3 ((teachReasonOf t).map fun r => (TeachReason.code r : Int)) ++
      [(7, (visited : Int))]) =
    BitVec.ofNat 2 (teachStateCode t) ++
      (match t with
        | .failed why => 1#1 ++ BitVec.ofNat 3 (TeachReason.code why)
        | _ => 0#4) ++ BitVec.ofNat 7 visited ++ 0#35 := by
  have laid (n : Nat) (reason : BitVec 4) (present code : Int)
      (h : reason.toNat = (present % 2 ^ 1).toNat * 2 ^ 3 + (code % 2 ^ 3).toNat) :
      answerData [(2, (n : Int)), (1, present), (3, code), (7, (visited : Int))] =
        BitVec.ofNat 2 n ++ reason ++ BitVec.ofNat 7 visited ++ 0#35 := by
    refine answerData_eq (by simp) ?_
    simp only [toNat_append_add, toNat_ofNat_field, h]
    simp [packFields]
    ring
  cases t with
  | failed why => exact laid 3 _ 1 _ ((toNat_append_add (1#1) _).trans (congrArg (_ + ·) (toNat_ofNat_field 3 _)))
  | none => exact laid 0 0#4 0 0 rfl
  | running => exact laid 1 0#4 0 0 rfl
  | done => exact laid 2 0#4 0 0 rfl

theorem answerData_partStatus (phase : Nat) (busy fault invalid fail mismatch lost abort : Bool) (nodes cause : Nat) :
    answerData ([(2, (phase : Int))] ++ setFields [busy, fault, invalid, fail, mismatch, lost, abort] ++
      [(4, (nodes : Int)), (2, (cause : Int))]) =
    BitVec.ofNat 2 phase ++ BitVec.ofBool busy ++ BitVec.ofBool fault ++ BitVec.ofBool invalid ++ BitVec.ofBool fail ++
      BitVec.ofBool mismatch ++ BitVec.ofBool lost ++ BitVec.ofBool abort ++ BitVec.ofNat 4 nodes ++ BitVec.ofNat 2 cause ++
      0#33 := by
  refine answerData_eq (by simp [bitOf, setFields]) ?_
  simp only [toNat_append_add, toNat_ofNat_field, toNat_ofBool]
  simp [packFields, bitOf, setFields]

/-- Two values that may be absent, and the scan position (10 R189, log 12). -/
theorem answerData_check (locked last : Option (BitVec 16)) (scan : Nat) :
    answerData (presentOr 16 (locked.map fun v => (v.toNat : Int)) ++ presentOr 16 (last.map fun v => (v.toNat : Int)) ++
      [(6, (scan : Int))]) =
    BitVec.ofBool locked.isSome ++ locked.getD 0 ++ BitVec.ofBool last.isSome ++ last.getD 0 ++ BitVec.ofNat 6 scan ++ 0#8 := by
  have present (v : Option (BitVec 16)) : presentOr 16 (v.map fun v => (v.toNat : Int)) =
      [bitOf v.isSome, (16, ((v.getD 0).toNat : Int))] := by
    cases v <;> rfl
  rw [present, present]
  refine answerData_eq (by simp [bitOf]) ?_
  have hlocked := (locked.getD 0).isLt
  have hlast := (last.getD 0).isLt
  simp only [toNat_append_add, toNat_ofNat_field, toNat_ofBool]
  simp [packFields, bitOf]
  omega

theorem answerData_tripPart1 (cause : Nat) (pos : Int) (bin level speed stamp : Nat) :
    answerData [(2, (cause : Int)), (13, pos), (6, (bin : Int)), (2, (level : Int)), (8, (speed : Int)), (16, (stamp : Int))] =
    BitVec.ofNat 2 cause ++ BitVec.ofInt 13 pos ++ BitVec.ofNat 6 bin ++ BitVec.ofNat 2 level ++ BitVec.ofNat 8 speed ++
      BitVec.ofNat 16 stamp ++ 0#1 := by
  refine answerData_eq (by simp) ?_
  simp only [toNat_append_add, toNat_ofNat_field, toNat_ofInt_field]
  simp [packFields]

theorem answerData_tripPart2 (f r t a : Nat) : answerData [(12, (f : Int)), (12, (r : Int)), (10, (t : Int)), (12, (a : Int))] =
    BitVec.ofNat 12 f ++ BitVec.ofNat 12 r ++ BitVec.ofNat 10 t ++ BitVec.ofNat 12 a ++ 0#2 := by
  refine answerData_eq (by simp) ?_
  simp only [toNat_append_add, toNat_ofNat_field]
  simp [packFields]

theorem answerData_peak (n : Nat) : answerData [(8, (n : Int))] = BitVec.ofNat 8 n ++ 0#40 := by
  refine answerData_eq (by simp) ?_
  simp only [toNat_append_add, toNat_ofNat_field]
  simp [packFields]

theorem answerData_grades (n k : Nat) :
    answerData [(3, (n : Int)), (3, (k : Int))] = BitVec.ofNat 3 n ++ BitVec.ofNat 3 k ++ 0#42 := answerData_place n k

theorem answerData_identity (st : Nat) (r : NodeRecord) :
    answerData (presentOr 2 (some (st : Int)) ++ [(8, (r.cls.toNat : Int)), (24, (r.tag.toNat : Int)), (12, (r.rated.toNat : Int))]) =
    1#1 ++ BitVec.ofNat 2 st ++ r.cls ++ r.tag ++ r.rated ++ 0#1 := by
  refine answerData_eq (by simp [presentOr]) ?_
  have hcls := r.cls.isLt
  have htag := r.tag.isLt
  have hrated := r.rated.isLt
  simp only [toNat_append_add, toNat_ofNat_field]
  simp [packFields, presentOr]
  omega

/-- One field at the top of the 48 bits, whatever its width. -/
theorem answerData_one (w : Nat) (v : Int) : answerData [(w, v)] = BitVec.ofInt 48 (v % 2 ^ w * 2 ^ (48 - w)) := by
  have hfield : (((v % 2 ^ w).toNat : Nat) : Int) = v % 2 ^ w := Int.toNat_of_nonneg (Int.emod_nonneg v (by positivity))
  have hcast : v % 2 ^ w * 2 ^ (48 - w) = (((v % 2 ^ w).toNat * 2 ^ (48 - w) : Nat) : Int) := by push_cast; rw [hfield]
  rw [hcast, BitVec.ofInt_natCast]
  simp [answerData, packFields]

/-! ### READ of a setting value (10 R184, R185) -/

section
variable {s : State} {path : Path} {ch x : Byte} {c : Chan}

theorem chanSetting_ofId_lt {n : Nat} (h : n < 24) : ∃ k, ChanSetting.ofId n = some k :=
  ⟨_, List.getElem?_eq_getElem (show n < ChanSetting.all.length from h)⟩

theorem State.readSetting_chan {k : ChanSetting} (hk : ChanSetting.ofId x.toNat = some k) : s.readSetting ch x =
    s.onChannel ch fun c => s.okWith [(rangeWidth k.range, (s.cset c).read k)] := by
  unfold State.readSetting; rw [hk]

theorem State.readSetting_glob {k : GlobSetting} (hchan : ChanSetting.ofId x.toNat = none) (hk : GlobSetting.ofId x.toNat = some k) :
    s.readSetting ch x = s.okWith [(rangeWidth k.range, s.glob.read k)] := by
  unfold State.readSetting; rw [hchan, hk]

theorem State.readSetting_denied (hchan : ChanSetting.ofId x.toNat = none) (hglob : GlobSetting.ofId x.toNat = none) :
    s.readSetting ch x = s.deny .badArgument := by
  unfold State.readSetting; rw [hchan, hglob]

/-- A WRITE SETTING of a per-channel id judges its channel first (10 R185). -/
theorem State.writeSetting_badChannel {v : BitVec 16} (hch : 7 < ch.toNat) (hx : x.toNat < 24) :
    s.writeSetting ch x v = s.deny .badArgument := by
  obtain ⟨k, hk⟩ := chanSetting_ofId_lt hx
  unfold State.writeSetting; rw [hk]
  exact State.onChannel_none hch _

/-! ### READ of a link grade and of a node identity (07 R160, 08 R168) -/

theorem State.readGrade_absent (h : (s.chans.get c).ctl.st = .absent) : s.readGrade c = s.okWith [(3, 0), (3, 0)] := by
  unfold State.readGrade; split
  · exact if_pos h
  · rfl

theorem State.readGrade_bound {a : Node} (h : (s.chans.get c).ctl.st ≠ .absent)
    (ha : (s.stg.image.chan.get c).nodeAddr = a.val + 1) : s.readGrade c =
    (s.modNode a fun n => { n with worst := n.grade }).okWith
      [(3, ((s.br.nodes.get a).grade : Int)), (3, ((s.br.nodes.get a).worst : Int))] := by
  unfold State.readGrade
  rw [show nodeOf (s.cset c).nodeAddr = some a from nodeOf_eq_some.mpr ha]
  exact if_neg h

theorem State.readIdentity_denied (h : x.toNat = 0 ∨ 8 < x.toNat) : s.readIdentity x = s.deny .badArgument := by
  unfold State.readIdentity; rw [nodeOf_none h]

theorem State.readIdentity_absent {a : Node} (ha : x.toNat = a.val + 1) (hnone : s.enr.table.get a = none) :
    s.readIdentity x = s.okWith (presentOr 2 none ++ [(8, 0), (24, 0), (12, 0)]) := by
  unfold State.readIdentity; rw [nodeOf_eq_some.mpr ha]; dsimp only; rw [hnone]

theorem State.readIdentity_present {a : Node} {r : NodeRecord} (ha : x.toNat = a.val + 1) (hr : s.enr.table.get a = some r) :
    s.readIdentity x = s.okWith (presentOr 2 (some (RecordState.code r.st : Int)) ++
      [(8, (r.cls.toNat : Int)), (24, (r.tag.toNat : Int)), (12, (r.rated.toNat : Int))]) := by
  unfold State.readIdentity; rw [nodeOf_eq_some.mpr ha]; dsimp only; rw [hr]

/-! ### The rows of READ -/

/-- The part conditions do not turn on the command's arrival. -/
theorem State.partConditions_arrived (s : State) (path : Path) : (s.arrived path).partConditions = s.partConditions := by
  cases path <;> rfl

/-- A READ whose item answers OK: the data bits of its fields, and the state with what the item changes. -/
theorem execManaged_read_ok {u : State} {item second : Byte} {fields : List (Nat × Int)} {data : BitVec 48} (hd : dispatched path s)
    (hread : (s.arrived path).read item ch second = (u.arrived path).okWith fields) (hdata : answerData fields = data) :
    execManaged path (.read item ch second) s = .next (delivered path (ok 1 data) u) := by
  subst hdata; exact execManaged_read hd hread

/-- A READ of a channel's item. -/
theorem execManaged_read_chan {u : State} {item second : Byte} {fields : List (Nat × Int)} {data : BitVec 48} (f : Chan → Answered)
    (hch : ch.toNat = c.val) (hd : dispatched path s) (hitem : (s.arrived path).read item ch second = (s.arrived path).onChannel ch f)
    (hf : f c = (u.arrived path).okWith fields) (hdata : answerData fields = data) :
    execManaged path (.read item ch second) s = .next (delivered path (ok 1 data) u) :=
  execManaged_read_ok hd (hitem.trans ((State.onChannel_of_val hch f).trans hf)) hdata

end

end Sys2Proof.Machine

namespace Sys2Proof.Proofs

open Sys2Proof.Machine Sys2Proof.Claim

/-- Settles O19: each command hands its channel argument to `State.onChannel`, READ and WRITE SETTING once the id names a setting. -/
theorem badChannelIsBadArgument : Obligations.BadChannelIsBadArgument := by
  intro s path ch hch hd read
  let t := s.arrived path
  have none (f : Chan → Answered) : t.onChannel ch f = t.deny .badArgument := State.onChannel_none hch f
  have reads {item second : Byte} (f : Chan → Answered) (hitem : t.read item ch second = t.onChannel ch f) :
      execManaged path (.read item ch second) s = read :=
    execManaged_read hd (hitem.trans (none f))
  have denies {cmd : Command} (hsetup : s.stg.phase = .setup) (hl : path = .side → cmd.code ≠ .loadBaseline)
      (ht : cmd.code.takenIn .setup = true) (hn : cmd ≠ .resetPart) (h : t.perform cmd = t.deny .badArgument) :
      execManaged path cmd s = .next (delivered path (denied cmd.code.byte .badArgument) s) :=
    execManaged_setup hd hsetup hl ht hn h
  refine ⟨reads _ rfl, reads _ rfl, reads _ rfl, reads _ rfl, reads _ rfl, fun _ => reads _ rfl, fun _ => reads _ rfl,
    fun _ => reads _ rfl, reads _ rfl, reads _ rfl, fun x hx => ?_, fun hphase v => ?_,
    fun hsetup => ⟨fun x v hx => ?_, fun first v => ?_, fun i x y k a => ?_, ?_, ?_⟩⟩
  · obtain ⟨k, hk⟩ := chanSetting_ofId_lt hx
    exact reads _ (State.readSetting_chan hk)
  · exact execManaged_delivered (cmd := .restorePosition ch v) hd nofun (fun h => absurd h hphase)
      (takenIn_of_ne_starting (.inl rfl) hphase) nofun (none _)
  · exact denies (cmd := .writeSetting ch x v) hsetup nofun rfl nofun (State.writeSetting_badChannel hch hx)
  · have hdc : dispatched .command s := ⟨hd.1, hd.2.1, fun _ h => by rw [hsetup] at h; exact nomatch h⟩
    exact execManaged_setup (cmd := .loadBaseline ch first v) hdc hsetup nofun rfl nofun (State.onChannel_none hch _)
  · exact denies (cmd := .setZone ch i x y k a) hsetup nofun rfl nofun (none _)
  · exact denies (cmd := .clearZones ch) hsetup nofun rfl nofun (none _)
  · exact denies (cmd := .teach ch) hsetup nofun rfl nofun (none _)

/-- Settles O20: the fields of each item, laid out one after another. -/
theorem readStatusItemsReturnTheirFields : Obligations.ReadStatusItemsReturnTheirFields := by
  intro s path ch c hch hd u
  refine ⟨execManaged_read_chan _ hch hd rfl rfl (answerData_channelStatus ..),
    execManaged_read_chan _ hch hd rfl rfl (answerData_refusal _),
    execManaged_read_chan _ hch hd rfl rfl (answerData_teach ..), execManaged_read_ok hd ?_ (answerData_partStatus ..),
    execManaged_read_ok hd rfl (answerData_check ..)⟩
  show (s.arrived path).readPartStatus = _
  unfold State.readPartStatus
  rw [State.partConditions_arrived]; rfl

/-- Settles O21: part 1 copies the record, the peak ratio is cleared, and the worst grade of the bound node restarts. -/
theorem readsThatChangeWhatTheyRead : Obligations.ReadsThatChangeWhatTheyRead := by
  intro s path ch c hch hd r k
  let t := s.arrived path
  have grade {u : State} {fields : List (Nat × Int)} {data : BitVec 48} (h : t.readGrade c = (u.arrived path).okWith fields)
      (hdata : answerData fields = data) : exec (.readLinkGrade path ch) s = .next (delivered path (ok 1 data) u) :=
    execManaged_read_chan _ hch hd rfl h hdata
  refine ⟨execManaged_read_chan _ hch hd rfl rfl (answerData_tripPart1 ..),
    execManaged_read_chan _ hch hd rfl rfl (answerData_tripPart2 ..), execManaged_read_chan _ hch hd rfl rfl (answerData_peak _),
    fun habsent => grade (State.readGrade_absent (s := t) habsent) rfl, fun a hst ha => ?_⟩
  exact grade (State.readGrade_bound (s := t) hst ha) (answerData_grades ..)

/-- Settles O22: the table's record of an address, and the working image's value of an id. -/
theorem readIdentityAndSettingReturnWhatIsHeld : Obligations.ReadIdentityAndSettingReturnWhatIsHeld := by
  intro s path hd
  let t := s.arrived path
  have identity {x : Byte} {fields : List (Nat × Int)} {data : BitVec 48} (h : t.readIdentity x = t.okWith fields)
      (hdata : answerData fields = data) : exec (.readNodeIdentity path x) s = .next (delivered path (ok 1 data) s) :=
    execManaged_read_ok hd h hdata
  have value {ch x : Byte} {fields : List (Nat × Int)} {data : BitVec 48} (h : t.readSetting ch x = t.okWith fields)
      (hdata : answerData fields = data) : exec (.readSettingValue path ch x) s = .next (delivered path (ok 1 data) s) :=
    execManaged_read_ok hd h hdata
  refine ⟨fun x => ⟨fun hx => execManaged_read hd (State.readIdentity_denied (s := t) hx),
      fun a ha hnone => identity (State.readIdentity_absent (s := t) ha hnone) rfl,
      fun a r ha hr => identity (State.readIdentity_present (s := t) ha hr) (answerData_identity ..)⟩,
    fun ch x => ⟨fun c k hch hk => ?_, fun k hx hk => ?_, fun hx => ?_⟩⟩
  · exact value ((State.readSetting_chan (s := t) hk).trans (State.onChannel_of_val hch _)) (answerData_one ..)
  · exact value (State.readSetting_glob (s := t) (chanSetting_ofId_ge hx) ((globSetting_ofId_ge hx).trans hk)) (answerData_one ..)
  · obtain ⟨hchan, hglob⟩ := settings_ofId_none hx
    exact execManaged_read hd (State.readSetting_denied (s := t) hchan hglob)

end Sys2Proof.Proofs
end

section
/-! COMMAND frames, and the frames that the receiver discards: the checks of dispatch in their order, and the row that a frame is
laid out for (09 R173, R179, 11 R191). -/

namespace Sys2Proof.Machine

open Sys2Proof.Claim

section
variable {s : State} {path : Path} {code : Byte} {cmd : Option Command} {k : CommandCode}

/-! ### The checks of dispatch (09 R179) -/

theorem commandCodeOf_eq_none (h : ¬(1 ≤ code.toNat ∧ code.toNat ≤ 11)) : commandCodeOf code = none := by
  cases hk : commandCodeOf code with
  | none => rfl
  | some k => rw [byte_of_commandCodeOf hk] at h; cases k <;> exact absurd (by decide) h

theorem exists_commandCodeOf (h : 1 ≤ code.toNat ∧ code.toNat ≤ 11) : ∃ k, commandCodeOf code = some k := by
  obtain ⟨hlo, hhi⟩ := h
  unfold commandCodeOf
  generalize code.toNat = n at hlo hhi
  interval_cases n <;> exact ⟨_, rfl⟩

theorem State.dispatch_unknown (h : codeOnPath path code = none) : s.dispatch path code cmd = s.deny .unknownCommand := by
  unfold State.dispatch; rw [h]

theorem State.dispatch_storeBusy (hk : codeOnPath path code = some k) (hw : s.stg.write ≠ none) :
    s.dispatch path code cmd = s.deny .busy := by
  unfold State.dispatch; rw [hk]
  exact if_pos (Option.isSome_iff_ne_none.mpr hw)

/-- Past the check of STORE_BUSY. -/
theorem State.dispatch_storeFree (hk : codeOnPath path code = some k) (hw : s.stg.write = none) : s.dispatch path code cmd =
    if s.stg.phase = .starting ∧ k ≠ .read then s.deny .busy
    else if k.takenIn s.stg.phase = false then s.deny .wrongPhase
    else match cmd with
      | none => s.deny .badArgument
      | some c => s.perform c := by
  unfold State.dispatch; rw [hk]
  refine (if_neg ?_).trans rfl
  unfold State.storeBusy; rw [hw]; nofun

theorem State.dispatch_starting (hk : codeOnPath path code = some k) (hw : s.stg.write = none) (hs : s.stg.phase = .starting)
    (hread : k ≠ .read) : s.dispatch path code cmd = s.deny .busy := by
  rw [State.dispatch_storeFree hk hw, if_pos ⟨hs, hread⟩]

theorem State.dispatch_wrongPhase (hk : codeOnPath path code = some k) (hw : s.stg.write = none) (hs : s.stg.phase ≠ .starting)
    (ht : k.takenIn s.stg.phase = false) : s.dispatch path code cmd = s.deny .wrongPhase := by
  rw [State.dispatch_storeFree hk hw, if_neg fun h => hs h.1, if_pos ht]

/-- A length that does not match the command. -/
theorem State.dispatch_badLength (hk : codeOnPath path code = some k) (hw : s.stg.write = none)
    (hs : s.stg.phase = .starting → k = .read) (ht : k.takenIn s.stg.phase = true) :
    s.dispatch path code none = s.deny .badArgument := by
  rw [State.dispatch_storeFree hk hw, if_neg fun h => h.2 (hs h.1), if_neg (by rw [ht]; nofun)]

theorem takenIn_setup (h : k ≠ .reopen) : k.takenIn .setup = true := by
  cases k with
  | reopen => exact absurd rfl h
  | _ => rfl

/-- From WRITE SETTING on the commands are of SETUP alone. -/
theorem takenIn_run (h : 5 ≤ k.byte.toNat) : k.takenIn .run = false := by
  cases k with
  | read | restorePosition | resetPart | reopen => exact absurd h (by decide)
  | _ => rfl

/-- Every command but a COMMAND frame in RUN comes to dispatch. -/
theorem State.judge_dispatches (h : path = .command → s.stg.phase ≠ .run) : s.judge path code cmd = s.dispatch path code cmd :=
  if_neg fun hc => h hc.1 hc.2

/-- A command that is denied does nothing but answer, on either path. -/
theorem State.manage_answers {status : Status} (hjudge : (s.arrived path).judge path code cmd = (s.arrived path).deny status)
    (hstatus : status ≠ .ok) : s.manage path code cmd = delivered path (denied code status) s := by
  have hno : decide (((s.arrived path).deny status).status = .ok) = false := decide_eq_false hstatus
  unfold State.manage; dsimp only
  rw [show ({ s with trk := TrunkPort.arrived s.trk path } : State) = s.arrived path from rfl, hjudge, hno, Bool.and_false]
  exact State.deliver_arrived _

/-- The row of a side command, its command and its code. -/
theorem exec_of_sideCode {i : Instr} (h : sideCode i = some code) :
    ∃ c : Command, (∀ s, exec i s = execManaged .side c s) ∧ code = c.code.byte ∧ c.code ≠ .loadBaseline := by
  cases i with
  | readChannelStatus path _ | readTripRecordPart1 path _ | readTripRecordPart2 path _ | readPeakRatio path _ | readLinkGrade path _
  | readNodeIdentity path _ | readSettingValue path _ _ | readBaselineBin path _ _ | readWorkingBin path _ _ | readZoneRecord path _ _
  | readRefusalReason path _ | readTeachResult path _ | readPartStatus path | readCheckValue path | restorePosition path _ _
  | resetPart path | reopen path | writeSetting path _ _ _ | setZone path _ _ _ _ _ _ | clearZones path _ | teach path _
  | lockIn path | enroll path =>
    cases path with
    | command => exact nomatch h
    | side =>
      obtain rfl := Option.some.inj h
      exact ⟨_, fun _ => rfl, rfl, nofun⟩
  | _ => exact nomatch h

/-! ### The row that a frame is laid out for (11 R191) -/

theorem exec_goodCommandFrame {p : CommandPayload} {c : Command} (hcode : payloadCode p = c.code.byte)
    (hc : payloadCommand p = some c) (s : State) : exec (.goodCommandFrame p) s = execManaged .command c s := by
  show whileRunning s (fun s => s.manage .command (payloadCode p) (payloadCommand p)) = _
  rw [hcode, hc]; rfl

theorem argumentBits_shortFrame (x : BitVec 56) (code : Byte) : argumentBits
    ⟨code, x.extractLsb' 48 8, x.extractLsb' 40 8, x.extractLsb' 32 8, x.extractLsb' 24 8, x.extractLsb' 16 8, x.extractLsb' 8 8,
      x.extractLsb' 0 8⟩ = x := by
  unfold argumentBits
  refine BitVec.eq_of_getLsbD_eq fun i hi => ?_
  simp only [BitVec.getLsbD_extractLsb', BitVec.getLsbD_append]
  grind

end

/-! Each field stands in the argument bits where 11 R191 lays it: bit by bit, the field cut out is the field laid in. -/

section
variable (ch x y : Byte)

theorem payloadCommand_read : payloadCommand (shortFrame 1 (x ++ 0#48)) = some (.read x 0 0) := by
  refine congrArg some (Command.read.injEq .. |>.mpr ⟨?_, ?_, ?_⟩)
  all_goals
    refine BitVec.eq_of_getLsbD_eq fun i hi => ?_
    simp only [BitVec.getLsbD_extractLsb', BitVec.getLsbD_append]
    grind

theorem payloadCommand_readOne : payloadCommand (shortFrame 1 (x ++ ch ++ 0#40)) = some (.read x ch 0) := by
  refine congrArg some (Command.read.injEq .. |>.mpr ⟨?_, ?_, ?_⟩)
  all_goals
    refine BitVec.eq_of_getLsbD_eq fun i hi => ?_
    simp only [BitVec.getLsbD_extractLsb', BitVec.getLsbD_append]
    grind

theorem payloadCommand_readTwo : payloadCommand (shortFrame 1 (x ++ ch ++ y ++ 0#32)) = some (.read x ch y) := by
  refine congrArg some (Command.read.injEq .. |>.mpr ⟨?_, ?_, ?_⟩)
  all_goals
    refine BitVec.eq_of_getLsbD_eq fun i hi => ?_
    simp only [BitVec.getLsbD_extractLsb', BitVec.getLsbD_append]
    grind

theorem payloadCommand_restorePosition (v : BitVec 16) :
    payloadCommand (shortFrame 2 (ch ++ v ++ 0#32)) = some (.restorePosition ch v) := by
  show some (Command.restorePosition (BitVec.extractLsb' 48 8 _) ((argumentBits _).extractLsb' 32 16)) = _
  rw [argumentBits_shortFrame]
  refine congrArg some (Command.restorePosition.injEq .. |>.mpr ⟨?_, ?_⟩)
  all_goals
    refine BitVec.eq_of_getLsbD_eq fun i hi => ?_
    simp only [BitVec.getLsbD_extractLsb', BitVec.getLsbD_append]
    grind

theorem payloadCommand_setZone (start stop : BitVec 13) (kind : BitVec 4) (adjust : BitVec 8) :
    payloadCommand (shortFrame 7 (ch ++ x ++ start ++ stop ++ kind ++ adjust ++ 0#2)) =
      some (.setZone ch x start stop kind adjust) := by
  show some (Command.setZone (BitVec.extractLsb' 48 8 _) (BitVec.extractLsb' 40 8 _) ((argumentBits _).extractLsb' 27 13)
    ((argumentBits _).extractLsb' 14 13) ((argumentBits _).extractLsb' 10 4) ((argumentBits _).extractLsb' 2 8)) = _
  rw [argumentBits_shortFrame]
  refine congrArg some (Command.setZone.injEq .. |>.mpr ⟨?_, ?_, ?_, ?_, ?_, ?_⟩)
  all_goals
    refine BitVec.eq_of_getLsbD_eq fun i hi => ?_
    simp only [BitVec.getLsbD_extractLsb', BitVec.getLsbD_append]
    grind

theorem payloadCommand_writeSetting (v : BitVec 16) :
    payloadCommand (shortFrame 5 (ch ++ x ++ v ++ 0#24)) = some (.writeSetting ch x v) := by
  show some (Command.writeSetting (BitVec.extractLsb' 48 8 _) (BitVec.extractLsb' 40 8 _) ((argumentBits _).extractLsb' 24 16)) = _
  rw [argumentBits_shortFrame]
  refine congrArg some (Command.writeSetting.injEq .. |>.mpr ⟨?_, ?_, ?_⟩)
  all_goals
    refine BitVec.eq_of_getLsbD_eq fun i hi => ?_
    simp only [BitVec.getLsbD_extractLsb', BitVec.getLsbD_append]
    grind

/-- The channel of a command whose one argument it is. -/
theorem channelArgument : (ch ++ 0#48 : BitVec 56).extractLsb' 48 8 = ch := by
  rw [BitVec.extractLsb'_append_eq_of_le (by decide), BitVec.extractLsb'_eq_self]

theorem payloadCommand_clearZones : payloadCommand (shortFrame 8 (ch ++ 0#48)) = some (.clearZones ch) :=
  congrArg (fun b => some (Command.clearZones b)) (channelArgument ch)

theorem payloadCommand_teach : payloadCommand (shortFrame 9 (ch ++ 0#48)) = some (.teach ch) :=
  congrArg (fun b => some (Command.teach b)) (channelArgument ch)

end

/-- The frame laid out for a row comes to the row's command (log 10). -/
theorem exec_of_commandFrame {i : Instr} {p : CommandPayload} (h : commandFrame i = some p) (s : State) :
    exec (.goodCommandFrame p) s = exec i s := by
  cases i with
  | readChannelStatus path _ | readTripRecordPart1 path _ | readTripRecordPart2 path _ | readPeakRatio path _ | readLinkGrade path _
  | readNodeIdentity path _ | readRefusalReason path _ | readTeachResult path _ =>
    cases path with
    | side => exact nomatch h
    | command => obtain rfl := Option.some.inj h; exact exec_goodCommandFrame rfl (payloadCommand_readOne ..) s
  | readSettingValue path _ _ | readBaselineBin path _ _ | readWorkingBin path _ _ | readZoneRecord path _ _ =>
    cases path with
    | side => exact nomatch h
    | command => obtain rfl := Option.some.inj h; exact exec_goodCommandFrame rfl (payloadCommand_readTwo ..) s
  | readPartStatus path | readCheckValue path =>
    cases path with
    | side => exact nomatch h
    | command => obtain rfl := Option.some.inj h; exact exec_goodCommandFrame rfl (payloadCommand_read _) s
  | restorePosition path _ _ =>
    cases path with
    | side => exact nomatch h
    | command => obtain rfl := Option.some.inj h; exact exec_goodCommandFrame rfl (payloadCommand_restorePosition ..) s
  | writeSetting path _ _ _ =>
    cases path with
    | side => exact nomatch h
    | command => obtain rfl := Option.some.inj h; exact exec_goodCommandFrame rfl (payloadCommand_writeSetting ..) s
  | setZone path _ _ _ _ _ _ =>
    cases path with
    | side => exact nomatch h
    | command => obtain rfl := Option.some.inj h; exact exec_goodCommandFrame rfl (payloadCommand_setZone ..) s
  | clearZones path _ =>
    cases path with
    | side => exact nomatch h
    | command => obtain rfl := Option.some.inj h; exact exec_goodCommandFrame rfl (payloadCommand_clearZones _) s
  | teach path _ =>
    cases path with
    | side => exact nomatch h
    | command => obtain rfl := Option.some.inj h; exact exec_goodCommandFrame rfl (payloadCommand_teach _) s
  | resetPart path | reopen path | loadBaseline path _ _ _ | lockIn path | enroll path =>
    cases path with
    | side => exact nomatch h
    | command => obtain rfl := Option.some.inj h; exact exec_goodCommandFrame rfl rfl s
  | _ => exact nomatch h

/-- The phase stands in the first two bits of the part status. -/
theorem phase_partStatus (phase : Nat) (busy fault invalid fail mismatch lost abort : Bool) (nodes cause : Nat) :
    (answerData ([(2, (phase : Int))] ++ setFields [busy, fault, invalid, fail, mismatch, lost, abort] ++
      [(4, (nodes : Int)), (2, (cause : Int))])).extractLsb' 46 2 = BitVec.ofNat 2 phase := by
  rw [answerData_partStatus]
  iterate 10 rw [BitVec.extractLsb'_append_eq_of_le (by decide)]
  exact BitVec.extractLsb'_eq_self

end Sys2Proof.Machine

namespace Sys2Proof.Proofs

open Sys2Proof.Machine Sys2Proof.Claim

/-- Settles O13: the receiver alone, which hunts; the byte that ends a gap is the first it takes. -/
theorem discardedFrameReachesNoOtherBlock : Obligations.DiscardedFrameReachesNoOtherBlock := by
  intro s hr
  refine ⟨fun why => whileRunning_running s (fun s => s.setReceiver .hunt) hr, fun b => ?_⟩
  have hbyte : (receiverByte .hunt b).1 = if b = 0xA5 then .kind else .hunt := by
    unfold receiverByte; dsimp only; split <;> rfl
  calc exec (.interByteGap b) s
      = .next (s.setReceiver (receiverByte .hunt b).1) := whileRunning_running s (fun s => s.setReceiver _) hr
    _ = _ := by rw [hbyte]; rfl

/-- Settles O14: the checks in their order, for a COMMAND frame and for the command of a side row. -/
theorem commandFramesAreCheckedInOrder : Obligations.CommandFramesAreCheckedInOrder := by
  constructor
  · intro s p hr code known answers
    let t := s.arrived .command
    have answered {status : Status} (hstatus : status ≠ .ok)
        (h : t.judge .command code (payloadCommand p) = t.deny status) : answers status :=
      (whileRunning_running s (fun s => s.manage .command code (payloadCommand p)) hr).trans
        (congrArg _ (State.manage_answers h hstatus))
    refine ⟨fun hrun => answered nofun (if_pos ⟨rfl, hrun⟩), fun hrun => ?_⟩
    have denied {status : Status} (hstatus : status ≠ .ok)
        (h : t.dispatch .command code (payloadCommand p) = t.deny status) : answers status :=
      answered hstatus ((State.judge_dispatches (s := t) fun _ => hrun).trans h)
    have named (k : CommandCode) (hk : code = k.byte) : codeOnPath .command code = some k := by
      rw [hk]; exact codeOnPath_byte .command k nofun
    refine ⟨fun hunknown => denied nofun (State.dispatch_unknown (commandCodeOf_eq_none hunknown)),
      fun hknown hwrite => ?_, fun hknown hwrite hstarting hcode => ?_, fun hwrite hsetup hcode => ?_,
      fun hknown hwrite hsetup hcode hnone => ?_, fun hwrite hcode hnone => ?_⟩
    · obtain ⟨k, hk⟩ := exists_commandCodeOf hknown
      exact denied nofun (State.dispatch_storeBusy hk hwrite)
    · obtain ⟨k, hk⟩ := exists_commandCodeOf hknown
      have hread : k ≠ .read := fun h => hcode (by rw [byte_of_commandCodeOf hk, h]; rfl)
      exact denied nofun (State.dispatch_starting hk hwrite hstarting hread)
    · have hphase : t.stg.phase = .setup := hsetup
      exact denied nofun (State.dispatch_wrongPhase (named .reopen hcode) hwrite (by rw [hphase]; nofun) (by rw [hphase]; rfl))
    · obtain ⟨k, hk⟩ := exists_commandCodeOf hknown
      have hphase : t.stg.phase = .setup := hsetup
      have hreopen : k ≠ .reopen := fun h => hcode (by rw [byte_of_commandCodeOf hk, h]; rfl)
      refine denied nofun ?_
      rw [hnone]
      exact State.dispatch_badLength hk hwrite (by rw [hphase]; nofun) (by rw [hphase]; exact takenIn_setup hreopen)
    · refine denied nofun ?_
      rw [hnone]
      exact State.dispatch_badLength (named .read hcode) hwrite (fun _ => rfl) (takenIn_read _)
  · intro s i code hr hside answers
    obtain ⟨c, hrow, rfl, hload⟩ := exec_of_sideCode hside
    let t := s.arrived .side
    have hk : codeOnPath .side c.code.byte = some c.code := codeOnPath_byte .side c.code fun _ => hload
    have denied {status : Status} (hstatus : status ≠ .ok)
        (h : t.dispatch .side c.code.byte (some c) = t.deny status) : answers status := by
      have hjudge : t.judge .side c.code.byte (some c) = t.deny status := (State.judge_dispatches (s := t) (path := .side) nofun).trans h
      exact (hrow s).trans ((whileRunning_running s _ hr).trans (congrArg _ (State.manage_answers hjudge hstatus)))
    refine ⟨fun hwrite => denied nofun (State.dispatch_storeBusy hk hwrite), fun hwrite hstarting hcode => ?_,
      fun hwrite hrun hcode => ?_, fun hwrite hsetup hcode => ?_⟩
    · exact denied nofun (State.dispatch_starting hk hwrite hstarting fun h => hcode (by rw [h]; rfl))
    · have hphase : t.stg.phase = .run := hrun
      exact denied nofun (State.dispatch_wrongPhase hk hwrite (by rw [hphase]; nofun) (by rw [hphase]; exact takenIn_run hcode))
    · have hphase : t.stg.phase = .setup := hsetup
      have hreopen : c.code = .reopen := by
        have := commandCodeOf_byte c.code
        rw [hcode] at this; exact (Option.some.inj this).symm
      exact denied nofun (State.dispatch_wrongPhase hk hwrite (by rw [hphase]; nofun) (by rw [hphase, hreopen]; rfl))

/-- Settles O15: the fields of a frame are those its row was laid out with; CLEAR ZONES and READ of part status follow as rows. -/
theorem commandFramesRunTheirRows : Obligations.CommandFramesRunTheirRows := by
  refine ⟨fun s i p h => exec_of_commandFrame h s, fun s ch c hch hd hsetup hteach => ?_, fun s hd => ?_⟩
  · rw [exec_of_commandFrame (i := .clearZones .command ch) rfl s]
    exact execManaged_setup (cmd := .clearZones ch) hd hsetup nofun rfl nofun
      ((State.onChannel_of_val hch _).trans (State.clearZones_ok (s := s.arrived .command) hteach))
  · rw [exec_of_commandFrame (i := .readPartStatus .command) rfl s]
    exact ⟨_, execManaged_read_ok hd rfl rfl, phase_partStatus ..⟩

end Sys2Proof.Proofs
end

section
/-! The REPORT as it is assembled, and the answer that is sent (09 R174, R176, R177, 01 R29). -/

namespace Sys2Proof.Machine

open Sys2Proof.Claim

/-! ### The code carried for a set of conditions (01 R29, 09 R177) -/

/-- The first condition present in a list sorted by code carries the lowest code present. -/
theorem carriedCode_firstPresent {l : List (Nat × Bool)} {present : Nat → Prop} (hsorted : (l.map Prod.fst).Pairwise (· < ·))
    (hpresent : ∀ n, present n ↔ (n, true) ∈ l) : carriedCode present (firstPresent l) := by
  unfold firstPresent
  cases hfind : l.find? fun x => x.2 with
  | none =>
    refine .inr ⟨rfl, fun k hk => ?_⟩
    exact List.find?_eq_none.mp hfind _ ((hpresent k).mp hk) rfl
  | some x =>
    obtain ⟨hx, hx2, hfirst⟩ := (find?_eq_some_of_sorted Prod.fst _ (List.pairwise_map.mp hsorted) x).mp hfind
    refine .inl ⟨(hpresent x.1).mpr (hx2 ▸ hx), fun k hk hkp => ?_⟩
    exact nomatch hfirst _ ((hpresent k).mp hkp) hk

section
variable (s : State) (c : Chan)

theorem partPresent_iff (n : Nat) : partPresent s n ↔ (n, true) ∈ s.partConditions := by
  unfold State.partConditions
  obtain hn | hn := lt_or_ge n 8
  · interval_cases n <;> simp [partPresent, State.storeBusy, Option.isSome_iff_ne_none]
  · obtain ⟨k, rfl⟩ := Nat.exists_eq_add_of_le' hn
    simp [partPresent]

theorem conditionPresent_iff (n : Nat) : conditionPresent s c n ↔ (n, true) ∈ s.channelConditions c := by
  unfold State.channelConditions; dsimp only
  rw [show s.chan c = s.chans.get c from rfl, show s.phase = s.stg.phase from rfl]
  obtain hn | hn := lt_or_ge n 17
  · interval_cases n <;> simp [conditionPresent, State.degraded, State.linkGrade_eq, State.glob]
  · obtain ⟨k, rfl⟩ := Nat.exists_eq_add_of_le' hn
    simp [conditionPresent]

theorem carriedCode_partCondition : carriedCode (partPresent s) s.partCondition :=
  carriedCode_firstPresent (show List.Pairwise (· < ·) [1, 2, 3, 4, 5, 6, 7] by decide) (partPresent_iff s)

theorem carriedCode_channelCondition : carriedCode (conditionPresent s c) (s.channelCondition c) :=
  carriedCode_firstPresent (show List.Pairwise (· < ·) [1, 2, 3, 4, 5, 6, 7, 8, 9, 10, 11, 12, 13, 14, 15, 16] by decide)
    (conditionPresent_iff s c)

/-! ### The REPORT laid out (11 R190) -/

/-- Bits are the number of their fields. -/
theorem ofNat_packFields {w : Nat} {fields : List (Nat × Int)} {x : BitVec w} (hwidth : (fields.map Prod.fst).sum ≤ w)
    (hx : x.toNat = packFields w fields) : BitVec.ofNat w (packFields w fields) = x :=
  BitVec.eq_of_toNat_eq ((toNat_packFields w fields hwidth).trans hx.symm)

theorem State.partStatusWord_eq : s.partStatusWord = BitVec.ofNat 2 (Phase.code s.stg.phase) ++ BitVec.ofNat 3 s.partCondition ++
    BitVec.ofNat 4 (s.enr.table.toList.countP Option.isSome) ++ 0#7 := by
  refine ofNat_packFields (by simp) ?_
  simp only [toNat_append_add, toNat_ofNat_field]
  simp [packFields, State.phase, State.nodeCount]

theorem State.channelEntry_eq : s.channelEntry c =
    BitVec.ofNat 3 (ChanState.code (s.chans.get c).ctl.st) ++ BitVec.ofBool (s.chans.get c).ctl.referenced ++
      BitVec.ofBool (s.chans.get c).eng.tripFlag ++ BitVec.ofNat 2 (s.chans.get c).rev.level ++
      BitVec.ofNat 3 (gradeOf s c) ++ BitVec.ofNat 5 (s.channelCondition c) ++ BitVec.ofInt 13 (s.chans.get c).ctl.pos ++ 0#4 := by
  unfold State.channelEntry; dsimp only
  rw [show s.chan c = s.chans.get c from rfl, State.linkGrade_eq]
  refine ofNat_packFields (by simp [bitOf]) ?_
  simp only [toNat_append_add, toNat_ofNat_field, toNat_ofInt_field, toNat_ofBool]
  simp [packFields, bitOf]

/-! ### Assembly and the end of a sending -/

variable {s}

/-- Assembly of the oldest answer, a REPORT without its body (09 R176). -/
theorem State.assembleReport_oldest {side : SideField} {resets : Bool} {rest : List Answer}
    (h : s.trk.answers = { body := .report side none, resets := resets } :: rest) : s.assembleReport = { s.reportClears with
      trk := { s.reportClears.trk with answers := { body := .report side (some s.reportBody), resets := resets } :: rest } } := by
  unfold State.assembleReport; rw [h]

theorem Answer.sendable_of_ne {a : Answer} (h : ∀ side, a.body ≠ .report side none) : Answer.sendable a = true := by
  obtain ⟨body, resets⟩ := a
  cases body with
  | response r => rfl
  | report side b =>
    cases b with
    | none => exact absurd rfl (h side)
    | some b => rfl

/-- The oldest answer leaves the list, and brings no warm reset where it does not trigger one or where one is barred. -/
theorem State.answerSent_leaves {a : Answer} {rest : List Answer} (h : s.trk.answers = a :: rest) (hs : Answer.sendable a = true)
    (hno : a.resets = false ∨ s.resetBusy = true) : s.answerSent = { s with trk := { s.trk with answers := rest } } := by
  unfold State.answerSent; rw [h]; dsimp only
  rw [if_pos hs]
  obtain hno | hbusy := hno
  · rw [if_neg (by rw [hno]; nofun)]
  · rw [State.tryWarmReset_barred (s := { s with trk := { s.trk with answers := rest } }) hbusy, ite_self]

end

end Sys2Proof.Machine

namespace Sys2Proof.Proofs

open Sys2Proof.Machine Sys2Proof.Claim

/-- Settles O9: the oldest REPORT takes its body from the state and clears what it carries; a sent answer leaves the list. -/
theorem answersAreAssembledAndSent : Obligations.AnswersAreAssembledAndSent := by
  refine ⟨fun s side resets rest hr hanswers => ?_, fun s a rest hr hanswers hbody hno => ?_⟩
  · refine ⟨s.reportBody, s.partCondition, s.channelCondition, carriedCode_partCondition s, carriedCode_channelCondition s, ?_,
      s.partStatusWord_eq, fun c => (Oct.get_ofFn _ c).trans (s.channelEntry_eq c)⟩
    calc exec .reportAssembly s
        = .next s.assembleReport := whileRunning_running s _ hr
      _ = _ := by rw [State.assembleReport_oldest hanswers]; rfl
  · have hbusy : a.resets = false ∨ s.resetBusy = true := hno.imp_right fun h => by
      rw [State.resetBusy_iff]
      simp only [atRest_eq_false_iff]
      exact or_assoc.symm.trans or_comm |>.mp h
    calc exec .answerSent s
        = .next s.answerSent := whileRunning_running s _ hr
      _ = _ := by rw [State.answerSent_leaves hanswers (Answer.sendable_of_ne hbody) hbusy]

end Sys2Proof.Proofs
end

section
/-! A good CYCLE frame that completes no side command: the context, the order gates, the side collector, and the frame's REPORT
(09 R174, R175, R180, R181). -/

namespace Sys2Proof.Machine

open Sys2Proof.Claim

/-! ### Order bytes (11 R190, 01 R18) -/

theorem sourceOf_eq (n : Nat) : sourceOf n = if n = 0 then .user else if n = 1 then .rain else .global := by
  unfold sourceOf; split <;> simp_all

/-- The kind of an order once normalised. -/
theorem expressOf_eq (n m : Nat) (hn : n < 8) : expressOf (orderKindOf n) (sourceOf m) =
    if n = 1 then .stop
    else if n = 2 then (if m = 0 then .openHeld else .openExpress)
    else if n = 3 then (if m = 0 then .closeHeld else .closeExpress)
    else if n = 4 then .openExpress else if n = 5 then .closeExpress else if n = 6 then .preset else .none := by
  rw [sourceOf_eq]
  by_cases h0 : m = 0
  · rw [if_pos h0, if_pos h0, if_pos h0]; interval_cases n <;> rfl
  · rw [if_neg h0, if_neg h0, if_neg h0]
    by_cases h1 : m = 1
    · rw [if_pos h1]; interval_cases n <;> rfl
    · rw [if_neg h1]; interval_cases n <;> rfl

theorem normalises_orderOfByte (b : Byte) : normalises b (orderOfByte b) := by
  have hkind : (b.extractLsb' 0 3).toNat = b.toNat % 8 := by simp [BitVec.extractLsb'_toNat]
  have hsource : (b.extractLsb' 3 2).toNat = b.toNat / 8 % 4 := by simp [BitVec.extractLsb'_toNat, Nat.shiftRight_eq_div_pow]
  have hpreset : (b.extractLsb' 5 2).toNat = b.toNat / 32 % 4 := by simp [BitVec.extractLsb'_toNat, Nat.shiftRight_eq_div_pow]
  refine ⟨hpreset, ?_, ?_⟩
  · unfold orderOfByte; dsimp only
    rw [hsource, sourceOf_eq]
  · unfold orderOfByte; dsimp only
    rw [hsource, hkind, expressOf_eq _ _ (Nat.mod_lt _ (by decide))]

/-! ### What the order gates leave, and the last orders they note (01 R18) -/

section
variable (s : State) (c : Chan) (o : Order)

theorem State.lastOrder_vacate (dst : ChanState) : ((s.vacate c dst).chan c).ctl.lastOrder = (s.chan c).ctl.lastOrder := by
  rw [State.chan_vacate_self]; rfl

theorem State.ctl_modCtl (f : ChannelRecord → ChannelRecord) : ((s.modCtl c f).chan c).ctl = f (s.chan c).ctl :=
  congrArg ChannelUnit.ctl (State.chan_modChan_self s c _)

theorem State.lastOrder_heldEnd : ((s.heldEnd c o).chan c).ctl.lastOrder = (s.chan c).ctl.lastOrder := by
  unfold State.heldEnd; split
  · split
    · exact s.lastOrder_vacate c .idle
    · rfl
  · rfl

theorem State.lastOrder_endCarried : ((s.endCarried c).chan c).ctl.lastOrder = (s.chan c).ctl.lastOrder := by
  unfold State.endCarried; split
  · rfl
  · exact s.lastOrder_vacate c .idle

theorem State.lastOrder_joinQueue (m : Motion) : ((s.joinQueue c m).chan c).ctl.lastOrder = (s.chan c).ctl.lastOrder := by
  unfold State.joinQueue State.chan; dsimp only
  rw [Oct.get_set_self]

theorem State.lastOrder_sameDirection (m : Motion) :
    ((s.sameDirection c o m).chan c).ctl.lastOrder = (s.chan c).ctl.lastOrder := by
  have hcarried (f : Motion → Motion) : ((s.modCarried c f).chan c).ctl.lastOrder = (s.chan c).ctl.lastOrder := by
    unfold State.modCarried; split
    · rfl
    · rw [State.ctl_modCtl]
  unfold State.sameDirection; split
  · split
    · unfold State.restartHold; rw [State.ctl_modCtl]
    · rfl
  · rw [State.ctl_modCtl]; exact hcarried _

theorem State.lastOrder_actInMotion : ((s.actInMotion c o).chan c).ctl.lastOrder = (s.chan c).ctl.lastOrder := by
  have hjoins (m : Motion) : (((s.endCarried c).joinQueue c m).chan c).ctl.lastOrder = (s.chan c).ctl.lastOrder :=
    (State.lastOrder_joinQueue _ c m).trans (s.lastOrder_endCarried c)
  unfold State.actInMotion; split
  · exact s.lastOrder_endCarried c
  · split
    · rfl
    · split
      · exact hjoins _
      · split
        · exact s.lastOrder_sameDirection c o _
        · exact hjoins _

theorem State.lastOrder_takeOrder : ((s.takeOrder c o).chan c).ctl.lastOrder = (s.chan c).ctl.lastOrder := by
  have hfail : ((s.teachFail c .order).chan c).ctl = (s.chan c).ctl := s.ctl_teachFail c .order
  rw [← hfail]
  unfold State.takeOrder; dsimp only; split
  · unfold State.refuse; rw [State.ctl_modCtl]
  · split
    · exact State.lastOrder_endCarried _ c
    · exact State.lastOrder_actInMotion _ c o

/-- The order of a field becomes the last order of its channel, whatever the gate does with it. -/
theorem State.lastOrder_orderGate : ((s.orderGate c o).chans.get c).ctl.lastOrder = o := by
  have hheld : (((s.modCtl c fun r => { r with lastOrder := o }).heldEnd c o).chan c).ctl.lastOrder = o := by
    rw [State.lastOrder_heldEnd, State.ctl_modCtl]
  show ((s.orderGate c o).chan c).ctl.lastOrder = o
  unfold State.orderGate; dsimp only; split
  · exact (State.lastOrder_takeOrder _ c o).trans hheld
  · exact hheld

end

theorem State.lastOrder_orderGates (s : State) (orders : Oct Byte) (c : Chan) :
    ((s.orderGates orders).chans.get c).ctl.lastOrder = orderOfByte (orders.get c) :=
  foldl_octIndexes_chan _ (fun c t => (t.chans.get c).ctl.lastOrder = orderOfByte (orders.get c))
    (fun s c => s.lastOrder_orderGate c _)
    (fun s c d hd h => by rw [(onlyChannel_orderGate s c _).chans d hd]; exact h) s c

/-- The order gates reach the channels and the arbiter alone. -/
theorem State.orderGates_frame (s : State) (orders : Oct Byte) : (s.orderGates orders).ctx = s.ctx ∧
    (s.orderGates orders).br = s.br ∧ (s.orderGates orders).enr = s.enr ∧ (s.orderGates orders).now = s.now ∧
    (s.orderGates orders).freeCount = s.freeCount ∧ (s.orderGates orders).pending = s.pending :=
  ⟨foldl_octIndexes_field _ State.ctx (fun s c => (onlyChannel_orderGate s c _).ctx) s,
    foldl_octIndexes_field _ State.br (fun s c => (onlyChannel_orderGate s c _).br) s,
    foldl_octIndexes_field _ State.enr (fun s c => (onlyChannel_orderGate s c _).enr) s,
    foldl_octIndexes_field _ State.now (fun s c => (onlyChannel_orderGate s c _).now) s,
    foldl_octIndexes_field _ State.freeCount (fun s c => (onlyChannel_orderGate s c _).freeCount) s,
    foldl_octIndexes_field _ State.pending (fun s c => (onlyChannel_orderGate s c _).pending) s⟩

/-! ### The side collector (09 R180) -/

section
variable {k : TrunkPort} {marker : Byte} {fragment : BitVec 16} {got : List (BitVec 16)}

theorem TrunkPort.collect_rest (h : marker = 0) (hk : k.collector = .idle) : TrunkPort.collect k marker fragment = (k, none) := by
  unfold TrunkPort.collect; rw [if_pos h, hk]

theorem TrunkPort.collect_breaks (h : marker = 0) (hk : k.collector ≠ .idle) :
    TrunkPort.collect k marker fragment = ({ k with collector := .idle, sideAbort := true }, none) := by
  unfold TrunkPort.collect; rw [if_pos h]
  cases hc : k.collector with
  | idle => exact absurd hc hk
  | collecting got => rfl

theorem TrunkPort.collect_starts (h : marker = 1) :
    TrunkPort.collect k marker fragment = ({ k with collector := .collecting [fragment], response := none }, none) := by
  subst h; rfl

/-- Markers 2 to 4 come to the next fragment. -/
theorem TrunkPort.collect_later (h : 2 ≤ marker.toNat) (hle : marker.toNat ≤ 4) :
    TrunkPort.collect k marker fragment = TrunkPort.nextFragment k marker.toNat fragment := by
  unfold TrunkPort.collect
  rw [if_neg (by rintro rfl; exact absurd h (by decide)), if_neg (by rintro rfl; exact absurd h (by decide)), if_pos hle]

theorem TrunkPort.collect_takes (hk : k.collector = .collecting got) (hr : k.response = none)
    (h : (marker = 2 ∧ got.length = 1) ∨ (marker = 3 ∧ got.length = 2)) :
    TrunkPort.collect k marker fragment = ({ k with collector := .collecting (got ++ [fragment]) }, none) := by
  obtain ⟨rfl, hlen⟩ | ⟨rfl, hlen⟩ := h
  · obtain ⟨f1, rfl⟩ := List.length_eq_one_iff.mp hlen
    rw [TrunkPort.collect_later (by decide) (by decide)]
    unfold TrunkPort.nextFragment; rw [hr, hk]; rfl
  · obtain ⟨f1, f2, rfl⟩ := List.length_eq_two.mp hlen
    rw [TrunkPort.collect_later (by decide) (by decide)]
    unfold TrunkPort.nextFragment; rw [hr, hk]; rfl

/-- Marker 0 leaves the pending response, which the REPORT answers it with. -/
theorem TrunkPort.response_collect (h : marker = 0) : (TrunkPort.collect k marker fragment).1.response = k.response := by
  unfold TrunkPort.collect; rw [if_pos h]; split <;> rfl

/-- A later fragment out of its order, or with a response pending or no collection begun. -/
theorem TrunkPort.collect_abandons (h : 2 ≤ marker.toNat) (hno : 4 < marker.toNat ∨ k.response ≠ none ∨ k.collector = .idle ∨
    ∃ got, k.collector = .collecting got ∧ got.length + 1 ≠ marker.toNat) :
    TrunkPort.collect k marker fragment = (TrunkPort.abandon k, none) := by
  obtain hle | hgt := le_or_gt marker.toNat 4
  · rw [TrunkPort.collect_later h hle]
    unfold TrunkPort.nextFragment
    split
    case h_4 => rfl
    all_goals
      next hresponse hcollector hm =>
        simp [hresponse, hcollector, hm] at hno
  · unfold TrunkPort.collect
    rw [if_neg (by rintro rfl; exact absurd h (by decide)), if_neg (by rintro rfl; exact absurd h (by decide)),
      if_neg (not_le.mpr hgt)]

/-- A side field that completes no command moves the collector, the pending response and SIDE_ABORT alone. -/
theorem TrunkPort.collect_frame (hno : ¬(marker = 4 ∧ k.response = none ∧ ∃ f1 f2 f3, k.collector = .collecting [f1, f2, f3])) :
    (TrunkPort.collect k marker fragment).2 = none ∧ ∃ (collector : Collector) (response : Option PendingResponse) (abort : Bool),
      (TrunkPort.collect k marker fragment).1 = { k with collector := collector, response := response, sideAbort := abort } := by
  have abandoned : ((TrunkPort.abandon k, none) : TrunkPort × Option (Oct Byte)).2 = none ∧
      ∃ (collector : Collector) (response : Option PendingResponse) (abort : Bool),
        TrunkPort.abandon k = { k with collector := collector, response := response, sideAbort := abort } := ⟨rfl, _, _, _, rfl⟩
  unfold TrunkPort.collect; split
  · split <;> exact ⟨rfl, _, _, _, rfl⟩
  · split
    · exact ⟨rfl, _, _, _, rfl⟩
    · split
      · unfold TrunkPort.nextFragment; split
        case h_1 => exact ⟨rfl, _, _, _, rfl⟩
        case h_2 => exact ⟨rfl, _, _, _, rfl⟩
        case h_3 hresponse hcollector hm => exact absurd ⟨BitVec.eq_of_toNat_eq hm, hresponse, _, _, _, hcollector⟩ hno
        case h_4 => exact abandoned
      · exact abandoned

end

/-! ### The frame's REPORT (09 R174, R181) -/

section
variable {u : State} {k : TrunkPort} {marker : Byte}

/-- The trunk port after the REPORT of a frame that triggers no warm reset has joined the answer list, or found it full. -/
def TrunkPort.reported (k : TrunkPort) (marker : Byte) : TrunkPort :=
  { (TrunkPort.chooseSide k marker).2 with
    resetArmed := false
    answers := if k.answers.length < 4 then k.answers ++ [{ body := .report (TrunkPort.chooseSide k marker).1 none, resets := false }]
      else k.answers }

/-- The choice of a side field moves the pending response alone. -/
theorem TrunkPort.chooseSide_frame (k : TrunkPort) (marker : Byte) : ∃ response : Option PendingResponse,
    (TrunkPort.chooseSide k marker).2 = { k with response := response } := by
  unfold TrunkPort.chooseSide; split
  · split <;> exact ⟨_, rfl⟩
  · exact ⟨_, rfl⟩

theorem TrunkPort.chooseSide_none (h : k.response = none ∨ marker ≠ 0) :
    TrunkPort.chooseSide k marker = ({ marker := 0, fragment := 0 }, k) := by
  unfold TrunkPort.chooseSide; split
  · next r hr => exact if_neg (h.resolve_left (by rw [hr]; nofun))
  · rfl

theorem TrunkPort.chooseSide_pending {r : PendingResponse} (h : k.response = some r) (hlast : r.next ≤ 4) :
    TrunkPort.chooseSide k 0 = ({ marker := BitVec.ofNat 8 r.next, fragment := Reply.fragment r.reply r.next },
      { k with response := if r.next = 4 then none else some { reply := r.reply, next := r.next + 1 } }) := by
  have hend : 4 ≤ r.next ↔ r.next = 4 := by omega
  unfold TrunkPort.chooseSide; rw [h]
  simp only [hend, if_true]

theorem TrunkPort.reported_side (k : TrunkPort) (marker : Byte) : (TrunkPort.reported k marker).collector = k.collector ∧
    (TrunkPort.reported k marker).sideAbort = k.sideAbort ∧
    (TrunkPort.reported k marker).response = (TrunkPort.chooseSide k marker).2.response := by
  obtain ⟨response, hframe⟩ := TrunkPort.chooseSide_frame k marker
  unfold TrunkPort.reported; dsimp only
  rw [hframe]
  exact ⟨rfl, rfl, rfl⟩

theorem State.joinReport_unarmed (h : u.trk.resetArmed = false) : u.joinReport marker = u.withTrk (TrunkPort.reported u.trk marker) := by
  obtain ⟨response, hframe⟩ := TrunkPort.chooseSide_frame u.trk marker
  unfold State.joinReport TrunkPort.reported; dsimp only
  rw [h, hframe]
  unfold State.joinAnswers; dsimp only
  by_cases hroom : u.trk.answers.length < 4
  · rw [if_pos (show _ < Config.answerSlots from hroom), if_pos hroom]; rfl
  · rw [if_neg (show ¬_ < Config.answerSlots from hroom), if_neg hroom, if_neg nofun]; rfl

end

/-! ### The frame as a whole (09 R175) -/

section
variable {s : State} {p : CyclePayload}

/-- The state once a frame's context is taken and the trunk loss timer restarted. -/
def State.frameTaken (s : State) (p : CyclePayload) : State := { s with
  ctx := contextOf p
  trk := { s.trk with rx := .hunt, lossTimer := some (s.now + 4 * s.stg.image.glob.trunkLoss) } }

/-- The trunk port as the collector leaves it for the choice of the REPORT's side field. -/
def State.portCollected (s : State) (p : CyclePayload) : TrunkPort :=
  (TrunkPort.collect (s.frameTaken p).trk p.marker p.fragment).1

/-- The trunk port after a frame that completes no side command. -/
def State.portAfter (s : State) (p : CyclePayload) : TrunkPort :=
  TrunkPort.reported (s.portCollected p) p.marker

/-- A frame that completes no side command: the order gates on the context it brings, and beside them the trunk port. -/
theorem State.takeCycle_ordersAlone (harmed : s.trk.resetArmed = false)
    (hno : ¬(p.marker = 4 ∧ s.trk.response = none ∧ ∃ f1 f2 f3, s.trk.collector = .collecting [f1, f2, f3])) :
    s.takeCycle p = ((s.frameTaken p).orderGates p.orders).withTrk (s.portAfter p) := by
  have hloss : State.restartLoss { s with ctx := contextOf p, trk := { s.trk with rx := .hunt } } = s.frameTaken p := by
    have h : s.inMs (2 * s.glob.trunkLoss) = s.now + 4 * s.stg.image.glob.trunkLoss := by
      show s.now + 2 * (2 * s.stg.image.glob.trunkLoss) = _
      omega
    unfold State.frameTaken; rw [← h]; rfl
  obtain ⟨hnone, collector, response, abort, hport⟩ :=
    TrunkPort.collect_frame (k := (s.frameTaken p).trk) (fragment := p.fragment) hno
  unfold State.takeCycle; dsimp only
  rw [hloss, hnone]
  unfold State.ordersAndSide; dsimp only
  rw [show ({ s.frameTaken p with trk := (TrunkPort.collect (s.frameTaken p).trk p.marker p.fragment).1 } : State) =
    (s.frameTaken p).withTrk (s.portCollected p) from rfl, State.orderGates_withTrk]
  refine State.joinReport_unarmed ?_
  rw [State.withTrk_trk, State.portCollected, hport]; exact harmed

/-- The trunk port beside its collector, its pending response and SIDE_ABORT. -/
theorem State.portAfter_frame
    (hno : ¬(p.marker = 4 ∧ s.trk.response = none ∧ ∃ f1 f2 f3, s.trk.collector = .collecting [f1, f2, f3])) :
    (s.portAfter p).rx = .hunt ∧ (s.portAfter p).lossTimer = some (s.now + 4 * s.stg.image.glob.trunkLoss) ∧
    (s.portAfter p).wasLost = s.trk.wasLost ∧
    (s.portAfter p).answers = if s.trk.answers.length < 4 then
      s.trk.answers ++ [{ body := .report (TrunkPort.chooseSide (s.portCollected p) p.marker).1 none, resets := false }]
      else s.trk.answers := by
  obtain ⟨-, collector, response, abort, hport⟩ :=
    TrunkPort.collect_frame (k := (s.frameTaken p).trk) (fragment := p.fragment) hno
  unfold State.portAfter State.portCollected TrunkPort.reported
  rw [hport]
  obtain ⟨response', hframe⟩ := TrunkPort.chooseSide_frame
    { (s.frameTaken p).trk with collector := collector, response := response, sideAbort := abort } p.marker
  rw [hframe]
  exact ⟨rfl, rfl, rfl, rfl⟩

/-- The collector, SIDE_ABORT and the pending response after the frame. -/
theorem State.portAfter_side (s : State) (p : CyclePayload) : (s.portAfter p).collector = (s.portCollected p).collector ∧
    (s.portAfter p).sideAbort = (s.portCollected p).sideAbort ∧
    (s.portAfter p).response = (TrunkPort.chooseSide (s.portCollected p) p.marker).2.response :=
  TrunkPort.reported_side _ _

/-- A side field that answers no pending response: the port as the collector left it, and an empty side field. -/
theorem State.portAfter_unanswered {k : TrunkPort} (hk : s.portCollected p = k) (h : k.response = none ∨ p.marker ≠ 0) :
    (s.portAfter p).collector = k.collector ∧ (s.portAfter p).response = k.response ∧ (s.portAfter p).sideAbort = k.sideAbort ∧
    (TrunkPort.chooseSide (s.portCollected p) p.marker).1 = { marker := 0, fragment := 0 } := by
  obtain ⟨hcollector, habort, hresponse⟩ := s.portAfter_side p
  rw [hk] at hcollector habort hresponse ⊢
  rw [TrunkPort.chooseSide_none h] at hresponse ⊢
  exact ⟨hcollector, hresponse, habort, rfl⟩

end

end Sys2Proof.Machine

namespace Sys2Proof.Proofs

open Sys2Proof.Machine Sys2Proof.Claim

/-- Settles O10: the frame is taken, the order gates run on it, and its REPORT joins the list or is lost. -/
theorem cycleFrameIsTakenInEveryPhase : Obligations.CycleFrameIsTakenInEveryPhase := by
  refine ⟨fun s p hr harmed hno => ?_, fun s orders => ⟨fun c => orderOfByte (orders.get c), fun c => normalises_orderOfByte _, rfl⟩⟩
  intro taken
  have htaken : s.frameTaken p = taken := by
    unfold State.frameTaken contextOf
    rw [contextOf_rough]; rfl
  have hrow : exec (.goodCycleFrame p) s = .next ((taken.orderGates p.orders).withTrk (s.portAfter p)) := by
    rw [← htaken, ← State.takeCycle_ordersAlone harmed hno]
    exact whileRunning_running s (fun s => s.takeCycle p) hr
  obtain ⟨hctx, hbr, henr, hnow, hfree, hpending⟩ := taken.orderGates_frame p.orders
  obtain ⟨hrx, hloss, hlost, hanswers⟩ := State.portAfter_frame hno
  refine ⟨_, hrow, hctx, hloss, hrx, hlost, rfl, rfl, fun hroom => ⟨_, hanswers.trans (if_pos hroom)⟩,
    fun hfull => hanswers.trans (if_neg (not_lt.mpr hfull)), fun c => ?_, hbr, henr, taken.stg_orderGates _, taken.rst_orderGates _,
    hnow, hfree, hpending⟩
  rw [State.withTrk_chans, State.lastOrder_orderGates]
  exact normalises_orderOfByte _

/-- Settles O11: the collector first, then the side field of the REPORT, by the marker and what stands. -/
theorem sideFieldFollowsItsTable : Obligations.SideFieldFollowsItsTable := by
  intro s p hr harmed hno
  let k := (s.frameTaken p).trk
  have hrow : exec (.goodCycleFrame p) s = .next (((s.frameTaken p).orderGates p.orders).withTrk (s.portAfter p)) := by
    rw [← State.takeCycle_ordersAlone harmed hno]
    exact whileRunning_running s (fun s => s.takeCycle p) hr
  obtain ⟨-, -, -, hanswers⟩ := State.portAfter_frame hno
  have collected {port : TrunkPort} {command : Option (Oct Byte)} (h : TrunkPort.collect k p.marker p.fragment = (port, command)) :
      s.portCollected p = port := congrArg Prod.fst h
  refine ⟨_, (TrunkPort.chooseSide (s.portCollected p) p.marker).1, hrow, fun hroom => hanswers.trans (if_pos hroom),
    fun hfull => hanswers.trans (if_neg (not_lt.mpr hfull)), fun hm hidle => ?_, fun hm hcollecting => ?_, fun hm r hpending _ hle => ?_,
    fun hm hnone => ?_, fun hm => ?_, fun got hgot hnone hm => ?_, fun hle hbad => ?_, fun hm => ?_⟩
  · obtain ⟨hcollector, habort, -⟩ := s.portAfter_side p
    rw [collected (TrunkPort.collect_rest hm hidle)] at hcollector habort
    exact ⟨hcollector.trans hidle, habort⟩
  · obtain ⟨hcollector, habort, -⟩ := s.portAfter_side p
    rw [collected (TrunkPort.collect_breaks hm hcollecting)] at hcollector habort
    exact ⟨hcollector, habort⟩
  · have hr' : (s.portCollected p).response = some r := (TrunkPort.response_collect hm).trans hpending
    have hchosen := TrunkPort.chooseSide_pending hr' hle
    obtain ⟨-, -, hresponse⟩ := s.portAfter_side p
    rw [hm, hchosen] at hresponse ⊢
    exact ⟨rfl, hresponse⟩
  · have hr' : (s.portCollected p).response = none := (TrunkPort.response_collect hm).trans hnone
    obtain ⟨-, hresponse, -, hside⟩ := State.portAfter_unanswered (s := s) (p := p) rfl (.inl hr')
    exact ⟨hside, hresponse.trans hr'⟩
  · obtain ⟨hcollector, hresponse, habort, -⟩ :=
      State.portAfter_unanswered (collected (TrunkPort.collect_starts hm)) (.inl rfl)
    exact ⟨hcollector, hresponse, habort⟩
  · obtain ⟨hcollector, hresponse, habort, -⟩ :=
      State.portAfter_unanswered (collected (TrunkPort.collect_takes hgot hnone hm)) (.inl hnone)
    exact ⟨hcollector, hresponse.trans hnone, habort⟩
  · obtain ⟨hcollector, hresponse, habort, -⟩ :=
      State.portAfter_unanswered (collected (TrunkPort.collect_abandons hle hbad)) (.inl rfl)
    exact ⟨hcollector, hresponse, habort⟩
  · rw [TrunkPort.chooseSide_none (.inr hm)]

end Sys2Proof.Proofs
end

section
/-! Trunk loss: what it makes of each channel, its slot and its entry (09 R178, 01 R18, R19, 06 R139, 03 R84). -/

namespace Sys2Proof

/-- A unit whose last order field is NONE again (01 R18). -/
def ChannelUnit.unordered (u : ChannelUnit) : ChannelUnit := { u with ctl := { u.ctl with lastOrder := Machine.Order.initial } }

/-- A unit whose hold timer is stopped (01 R19). -/
def ChannelUnit.unheld (u : ChannelUnit) : ChannelUnit := { u with ctl := { u.ctl with hold := none } }

namespace Machine

/-- The blocks that a trunk loss sets before it takes the channels one by one (09 R178). -/
def State.lossBegun (s : State) : State := { s with ctx := ContextUnit.stale, trk := TrunkPort.lost s.trk }

/-- A trunk loss up to its last step, which empties the queue. -/
def State.lossSwept (s : State) : State := octIndexes.foldl State.channelTrunkLoss s.lossBegun

/-- The unit, the entry and the slot of channel `c` are in `t` what they are in `s`. -/
def State.sameAt (s : State) (c : Chan) (t : State) : Prop :=
  t.chans.get c = s.chans.get c ∧ t.arb.motionOf c = s.arb.motionOf c ∧ t.arb.slots.get c = s.arb.slots.get c

/-- The part holds the unit and the slot of channel `c` as given. -/
def State.holdsAt (s : State) (c : Chan) (u : ChannelUnit) (slot : Bool) : Prop := s.chans.get c = u ∧ s.arb.slots.get c = slot

end Machine

end Sys2Proof

namespace Sys2Proof.Machine

open Sys2Proof.Claim

section
variable {s : State} {c : Chan} {u : ChannelUnit} {b : SlotArbiter} {m : Motion}

/-! ### One channel -/

theorem State.endHeld_having_held (hm : ChannelUnit.carries u (b.motionOf c) = some m) (ho : m.origin = .held) :
    (s.having c u b).endHeld c = s.having c (ChannelUnit.leave u .idle) (SlotArbiter.drop b c) := by
  unfold State.endHeld
  rw [State.carried_having, hm, ← State.vacate_having]
  exact if_pos ho

theorem State.endHeld_having_not (h : ∀ m, ChannelUnit.carries u (b.motionOf c) = some m → m.origin ≠ .held) :
    (s.having c u b).endHeld c = s.having c u.unheld b := by
  have hstops : (s.having c u b).modCtl c (fun r => { r with hold := none }) = s.having c u.unheld b := State.modChan_having _
  unfold State.endHeld
  rw [State.carried_having, hstops]
  cases hm : ChannelUnit.carries u (b.motionOf c) with
  | none => rfl
  | some m => exact if_neg (h m hm)

theorem State.flushEntry_having_waits (h : u.ctl.st = .waiting) :
    (s.having c u b).flushEntry c = s.having c (ChannelUnit.leave (u.failed .order) .idle) (SlotArbiter.drop b c) := by
  unfold State.flushEntry
  rw [State.chan_having, if_pos h, State.teachFail_having, State.vacate_having]

theorem State.flushEntry_having_not (h : u.ctl.st ≠ .waiting) : (s.having c u b).flushEntry c = s.having c u b := by
  unfold State.flushEntry
  rw [State.chan_having, if_neg h]

/-- The last order field goes first, and what the channel carries does not turn on it. -/
theorem State.channelTrunkLoss_having : (s.having c u b).channelTrunkLoss c = ((s.having c u.unordered b).endHeld c).flushEntry c := by
  unfold State.channelTrunkLoss State.modCtl
  rw [State.modChan_having]; rfl

theorem State.channelTrunkLoss_held (hm : ChannelUnit.carries u (b.motionOf c) = some m) (ho : m.origin = .held) :
    (s.having c u b).channelTrunkLoss c = s.having c (ChannelUnit.leave u.unordered .idle) (SlotArbiter.drop b c) := by
  rw [State.channelTrunkLoss_having, State.endHeld_having_held (u := u.unordered) hm ho]
  exact State.flushEntry_having_not nofun

theorem State.channelTrunkLoss_waits (hw : u.ctl.st = .waiting)
    (h : ∀ m, ChannelUnit.carries u (b.motionOf c) = some m → m.origin ≠ .held) : (s.having c u b).channelTrunkLoss c =
      s.having c (ChannelUnit.leave (u.unordered.unheld.failed .order) .idle) (SlotArbiter.drop b c) := by
  rw [State.channelTrunkLoss_having, State.endHeld_having_not (u := u.unordered) h]
  exact State.flushEntry_having_waits hw

theorem State.channelTrunkLoss_runs (hw : u.ctl.st ≠ .waiting)
    (h : ∀ m, ChannelUnit.carries u (b.motionOf c) = some m → m.origin ≠ .held) :
    (s.having c u b).channelTrunkLoss c = s.having c u.unordered.unheld b := by
  rw [State.channelTrunkLoss_having, State.endHeld_having_not (u := u.unordered) h]
  exact State.flushEntry_having_not hw

/-! ### Every channel -/

theorem State.trunkLost_eq_swept (s : State) : s.trunkLost = { s.lossSwept with arb := SlotArbiter.flushed s.lossSwept.arb } := rfl

theorem State.holdsAt_flushed {t : State} {v : ChannelUnit} {slot : Bool} :
    { t with arb := SlotArbiter.flushed t.arb : State }.holdsAt c v slot ↔ t.holdsAt c v slot := .rfl

/-- What the part holds of a channel after a trunk loss is what its own part of it makes of the channel's unit, slot and entry: the
other channels' parts reach none of them. -/
theorem State.trunkLost_of_own {v : ChannelUnit} {slot : Bool} (own : ∀ (t : State) (b : SlotArbiter),
      b.motionOf c = s.arb.motionOf c → b.slots.get c = s.arb.slots.get c →
      ∃ b', (t.having c (s.chans.get c) b).channelTrunkLoss c = t.having c v b' ∧ b'.slots.get c = slot) :
    s.trunkLost.holdsAt c v slot := by
  have before (t : State) (d : Chan) (hd : d ≠ c) : s.sameAt c t → s.sameAt c (t.channelTrunkLoss d) := by
    rintro ⟨hunit, hentry, hslot⟩
    have only := onlyChannel_channelTrunkLoss t d
    exact ⟨(only.chans c hd.symm).trans hunit, (congrArg _ (only.entries c hd.symm)).trans hentry, (only.slots c hd.symm).trans hslot⟩
  have at_own (t : State) : s.sameAt c t → (t.channelTrunkLoss c).holdsAt c v slot := by
    rintro ⟨hunit, hentry, hslot⟩
    obtain ⟨b', hloss, hb'⟩ := own t t.arb hentry hslot
    rw [← hunit, State.having_self] at hloss
    rw [hloss]
    exact ⟨State.chans_having, hb'⟩
  have after (t : State) (d : Chan) (hd : d ≠ c) : t.holdsAt c v slot → (t.channelTrunkLoss d).holdsAt c v slot := by
    rintro ⟨hunit, hslot⟩
    have only := onlyChannel_channelTrunkLoss t d
    exact ⟨(only.chans c hd.symm).trans hunit, (only.slots c hd.symm).trans hslot⟩
  have swept : s.lossSwept.holdsAt c v slot :=
    foldl_octIndexes_own (P := s.sameAt c) (Q := fun t => t.holdsAt c v slot) c before at_own after ⟨rfl, rfl, rfl⟩
  rw [State.trunkLost_eq_swept]
  exact State.holdsAt_flushed.mpr swept

theorem SlotArbiter.slots_drop_self (b : SlotArbiter) (c : Chan) : (SlotArbiter.drop b c).slots.get c = false :=
  Oct.get_set_self _ _ _

theorem carries_iff_unit : carries s c m ↔ ChannelUnit.carries (s.chans.get c) (s.arb.motionOf c) = some m :=
  (s.carried_eq_some c m).symm

theorem State.trunkLost_held (hm : carries s c m) (ho : m.origin = .held) :
    s.trunkLost.holdsAt c (ChannelUnit.leave (s.chans.get c).unordered .idle) false :=
  State.trunkLost_of_own fun _ b hentry _ => ⟨_, State.channelTrunkLoss_held (hentry ▸ carries_iff_unit.mp hm) ho,
    SlotArbiter.slots_drop_self b c⟩

theorem State.trunkLost_waits (hw : (s.chans.get c).ctl.st = .waiting) (h : ∀ m, carries s c m → m.origin ≠ .held) :
    s.trunkLost.holdsAt c (ChannelUnit.leave ((s.chans.get c).unordered.unheld.failed .order) .idle) false :=
  State.trunkLost_of_own fun _ b hentry _ => ⟨_, State.channelTrunkLoss_waits hw fun m hm => h m (carries_iff_unit.mpr (hentry ▸ hm)),
    SlotArbiter.slots_drop_self b c⟩

theorem State.trunkLost_runs (hw : (s.chans.get c).ctl.st ≠ .waiting) (h : ∀ m, carries s c m → m.origin ≠ .held) :
    s.trunkLost.holdsAt c (s.chans.get c).unordered.unheld (s.arb.slots.get c) :=
  State.trunkLost_of_own fun _ _ hentry hslot => ⟨_, State.channelTrunkLoss_runs hw fun m hm => h m (carries_iff_unit.mpr (hentry ▸ hm)),
    hslot⟩

/-- The blocks that a trunk loss does not reach by way of a channel. -/
theorem State.trunkLost_frame (s : State) : s.trunkLost.ctx = ContextUnit.stale ∧ s.trunkLost.trk = TrunkPort.lost s.trk ∧
    s.trunkLost.arb.stagger = s.arb.stagger ∧ s.trunkLost.br = s.br ∧ s.trunkLost.enr = s.enr ∧ s.trunkLost.stg = s.stg ∧
    s.trunkLost.rst = s.rst ∧ s.trunkLost.now = s.now := by
  have keeps {α : Type} (field : State → α) (h : ∀ (t : State) (c : Chan), field (t.channelTrunkLoss c) = field t) :=
    show field s.lossSwept = field s.lossBegun by
      unfold State.lossSwept
      exact foldl_octIndexes_field State.channelTrunkLoss field h s.lossBegun
  rw [State.trunkLost_eq_swept]
  generalize s.lossSwept = t at keeps ⊢
  exact ⟨keeps State.ctx fun t c => (onlyChannel_channelTrunkLoss t c).ctx, keeps State.trk fun t c => (onlyChannel_channelTrunkLoss t c).trk,
    keeps (fun t => t.arb.stagger) fun t c => (onlyChannel_channelTrunkLoss t c).stagger,
    keeps State.br fun t c => (onlyChannel_channelTrunkLoss t c).br, keeps State.enr fun t c => (onlyChannel_channelTrunkLoss t c).enr,
    keeps State.stg fun t c => (onlyChannel_channelTrunkLoss t c).stg, keeps State.rst fun t c => (onlyChannel_channelTrunkLoss t c).rst,
    keeps State.now fun t c => (onlyChannel_channelTrunkLoss t c).now⟩

/-- A teach that is lost with its entry has no visited bins: its stroke has not been granted (03 R84). -/
theorem prof_failed_waiting {why : TeachReason} (h : u.ctl.st = .waiting) : (u.failed why).prof =
    if u.prof.teach = .running then { u.prof with teach := .failed why, teachVisited := 0 } else u.prof := by
  unfold ChannelUnit.failed; dsimp only
  rw [if_neg (show ¬u.ctl.st = .closing from fun hc => nomatch hc.symm.trans h)]

theorem carries_of_moving (hst : (s.chans.get c).ctl.st = .opening ∨ (s.chans.get c).ctl.st = .closing)
    (hm : (s.chans.get c).ctl.motion = some m) : carries s c m := .inr ⟨hst, hm⟩

end

end Sys2Proof.Machine

namespace Sys2Proof.Proofs

open Sys2Proof.Machine Sys2Proof.Claim

/-- Settles O38: the blocks it sets, and each channel by what it carries: held, WAITING with anything else or nothing, or neither. -/
theorem trunkLossActsOnItsOwners : Obligations.TrunkLossActsOnItsOwners := by
  intro s hr hdue
  have hrow : exec .trunkLoss s = .next s.trunkLost :=
    (whileRunning_running s (fun s => if isDue s.trk.lossTimer s.now then s.trunkLost else s) hr).trans
      (congrArg _ (if_pos ((isDue_iff_reached _ _).mpr hdue)))
  obtain ⟨hctx, htrk, hstagger, hbr, henr, hstg, hrst, hnow⟩ := s.trunkLost_frame
  refine ⟨_, hrow, hctx, htrk, hstagger, s.queue_trunkLost, hbr, henr, hstg, hrst, hnow, fun c => ?_⟩
  by_cases hheld : ∃ m, carries s c m ∧ m.origin = .held
  · obtain ⟨m, hm, ho⟩ := hheld
    obtain ⟨hunit, hslot⟩ := State.trunkLost_held hm ho
    have latched {m' : Motion} (hm' : carries s c m') (ho' : m'.origin = .latched) : False := by
      rw [carries_unique hm hm', ho'] at ho; exact nomatch ho
    rw [hunit, hslot]
    refine ⟨rfl, rfl, fun hw => ⟨rfl, rfl, fun e he ho' => ?_⟩, fun _ _ _ _ => ⟨rfl, rfl⟩,
      fun m' hst hm' ho' => (latched (carries_of_moving hst hm') ho').elim, fun hst => ?_⟩
    · exact (latched (.inl ⟨hw, congrArg (Option.map Entry.motion) he⟩) ho').elim
    · obtain h | h | h := st_of_carries hm <;> exact nomatch hst.symm.trans h
  · have hnone (m : Motion) (hm : carries s c m) : m.origin ≠ .held := fun ho => hheld ⟨m, hm, ho⟩
    by_cases hw : (s.chans.get c).ctl.st = .waiting
    · obtain ⟨hunit, hslot⟩ := State.trunkLost_waits hw hnone
      rw [hunit, hslot]
      refine ⟨rfl, rfl, fun _ => ⟨rfl, rfl, fun e _ _ => prof_failed_waiting (u := (s.chans.get c).unordered.unheld) hw⟩,
        fun _ _ _ _ => ⟨rfl, rfl⟩, fun m hst => ?_, fun hst => nomatch hst.symm.trans hw⟩
      obtain h | h := hst <;> exact nomatch h.symm.trans hw
    · obtain ⟨hunit, hslot⟩ := State.trunkLost_runs hw hnone
      rw [hunit, hslot]
      exact ⟨rfl, rfl, fun h => absurd h hw, fun m hst hm ho => absurd ho (hnone m (carries_of_moving hst hm)),
        fun _ _ _ _ => ⟨rfl, rfl, rfl⟩, fun hst => ⟨hst, rfl, rfl⟩⟩

end Sys2Proof.Proofs
end

section
/-! REOPEN, LOCK-IN with its checks, and the completions of their store writes (10 R187, R188, 03 R65). -/

namespace Sys2Proof.Machine

open Sys2Proof.Claim

section
variable {s : State} {path : Path} {i : Image} {c : Chan}

/-! ### REOPEN (10 R188) -/

/-- A row whose command the judgement denies does nothing but answer. -/
theorem execManaged_denied {cmd : Command} {status : Status} (hr : s.rst.active = false)
    (hjudge : (s.arrived path).judge path cmd.code.byte (some cmd) = (s.arrived path).deny status) (hstatus : status ≠ .ok) :
    execManaged path cmd s = .next (delivered path (denied cmd.code.byte status) s) := by
  rw [execManaged, whileRunning_running s _ hr, State.manage_answers hjudge hstatus]

/-- Every channel at rest and the vehicle at standstill, spelled out. -/
theorem State.reopenReady_iff (s : State) :
    (s.chans.toList.all (fun u => atRest u.ctl.st) && atStandstill s.ctx) = true ↔
      (∀ c : Chan, (s.chans.get c).ctl.st = .absent ∨ (s.chans.get c).ctl.st = .inhibited ∨ (s.chans.get c).ctl.st = .idle) ∧
      s.ctx.fresh = true ∧ s.ctx.speed = 0 := by
  simp only [Bool.and_eq_true, Oct.all_iff, atRest_iff, atStandstill, decide_eq_true_iff]

/-! ### LOCK-IN (10 R187) -/

theorem State.lockInBusy_iff (s : State) : (s.anyTeach || s.runInProgress) = true ↔
    s.enr.st ≠ .idle ∨ ∃ c : Chan, (s.chans.get c).prof.teach = .running := by
  rw [Bool.or_eq_true, State.anyTeach, Oct.any_iff, State.runInProgress_iff, or_comm]
  simp only [decide_eq_true_iff]

theorem answerData_checkFailed (check channel : Nat) : answerData [(8, (check : Int)), (8, (channel : Int))] =
    BitVec.ofNat 8 check ++ BitVec.ofNat 8 channel ++ 0#32 := by
  refine answerData_eq (by simp) ?_
  simp only [toNat_append_add, toNat_ofNat_field]
  simp [packFields]

theorem State.lockIn_busy (h : (s.anyTeach || s.runInProgress) = true) : s.lockIn = s.deny .busy := if_pos h

theorem State.lockIn_fails (h : ¬(s.anyTeach || s.runInProgress) = true) {check channel : Nat}
    (hfails : lockInFailure s.stg.image = some (check, channel)) : s.lockIn =
      { state := s, status := .checkFailed, data := BitVec.ofNat 8 check ++ BitVec.ofNat 8 channel ++ 0#32 } := by
  rw [State.lockIn, if_neg h, hfails, ← answerData_checkFailed]

theorem State.lockIn_begins (h : ¬(s.anyTeach || s.runInProgress) = true) (hpasses : lockInFailure s.stg.image = none) :
    s.lockIn = { state := { s with stg := SettingsUnit.beginLockIn s.stg }, status := .ok, data := 0 } := by
  rw [State.lockIn, if_neg h, hpasses]; rfl

/-! ### The checks of LOCK-IN (10 R187) -/

theorem thresholdsOrdered_iff (g : GlobSettings) : thresholdsOrdered g = true ↔
    g.q7 ≤ g.q6 ∧ g.q6 ≤ g.q5 ∧ g.q5 ≤ g.q4 ∧ g.q4 ≤ g.q3 ∧ g.q3 ≤ g.q2 ∧ g.q2 ≤ g.q1 := by
  simp only [thresholdsOrdered, Bool.and_eq_true, decide_eq_true_iff, and_assoc]

theorem withinTravel_iff (cs : ChanSettings) : withinTravel cs = true ↔
    cs.preset0 ≤ cs.travel ∧ cs.preset1 ≤ cs.travel ∧ cs.preset2 ≤ cs.travel ∧ cs.preset3 ≤ cs.travel ∧
      cs.reverseDist ≤ cs.travel := by
  simp only [withinTravel, Bool.and_eq_true, decide_eq_true_iff, and_assoc]

theorem usedChannel_iff (i : Image) (c : Chan) : usedChannel i c = true ↔ (i.chan.get c).nodeAddr ≠ 0 := decide_eq_true_iff

theorem mem_clashingChannels : c ∈ clashingChannels i ↔
    (i.chan.get c).nodeAddr ≠ 0 ∧ ∃ d : Chan, d < c ∧ (i.chan.get d).nodeAddr = (i.chan.get c).nodeAddr := by
  simp only [clashingChannels, List.mem_filter, mem_octIndexes, true_and, Bool.and_eq_true, usedChannel_iff, List.any_eq_true,
    decide_eq_true_iff]

/-- No channel clashes exactly where the used channels have distinct addresses. -/
theorem clashingChannels_eq_nil_iff : clashingChannels i = [] ↔ ∀ c d : Chan, (i.chan.get c).nodeAddr ≠ 0 →
    (i.chan.get d).nodeAddr ≠ 0 → (i.chan.get c).nodeAddr = (i.chan.get d).nodeAddr → c = d := by
  simp only [List.eq_nil_iff_forall_not_mem, mem_clashingChannels, not_and, not_exists]
  refine ⟨fun h c d hc hd haddr => ?_, fun h c hc d hlt haddr => hlt.ne (h d c (haddr ▸ hc) hc haddr)⟩
  rcases lt_trichotomy c d with hlt | heq | hgt
  · exact absurd haddr (h d hd c hlt)
  · exact heq
  · exact absurd haddr.symm (h c hc d hgt)

/-- Check 4 reports one of the clashing channels, whichever the free value names (log 5). -/
theorem exists_clashChannel (h : clashingChannels i ≠ []) : ∃ c ∈ clashingChannels i, clashChannel i = some c := by
  unfold clashChannel
  cases hl : clashingChannels i with
  | nil => exact absurd hl h
  | cons c l =>
    cases l with
    | nil => exact ⟨c, List.mem_cons_self, rfl⟩
    | cons d rest =>
      have hlt : Config.clashReported (c :: d :: rest) % (rest.length + 2) < (c :: d :: rest).length := Nat.mod_lt _ (Nat.succ_pos _)
      refine ⟨_, ?_, rfl⟩
      rw [List.getD_eq_getElem _ _ hlt]
      exact List.getElem_mem _

theorem clashChannel_eq_none (h : clashingChannels i = []) : clashChannel i = none := by
  unfold clashChannel; rw [h]

section
variable {ok : Chan → Bool} {P : Chan → Prop} (hok : ∀ c, ok c = true ↔ P c)
include hok

/-- A check over the used channels passes where it holds of each of them. -/
theorem firstFailing_eq_none (h : ∀ c : Chan, (i.chan.get c).nodeAddr ≠ 0 → P c) : firstFailing i ok = none := by
  refine List.find?_eq_none.mpr fun c _ hfails => ?_
  rw [Bool.and_eq_true, usedChannel_iff, Bool.not_eq_true'] at hfails
  exact nomatch hfails.2.symm.trans ((hok c).mpr (h c hfails.1))

/-- A check over the used channels reports the lowest of them for which it fails. -/
theorem firstFailing_eq_some (h : ¬((i.chan.get c).nodeAddr ≠ 0 → P c))
    (hlower : ∀ d : Chan, d < c → (i.chan.get d).nodeAddr ≠ 0 → P d) : firstFailing i ok = some c := by
  obtain ⟨hused, hfails⟩ := Classical.not_imp.mp h
  refine (find?_eq_some_of_sorted (fun c : Chan => c.val) _ (by decide) c).mpr ⟨mem_octIndexes c, ?_, fun d _ hlt => ?_⟩
  · rw [Bool.and_eq_true, usedChannel_iff, Bool.not_eq_true', ← Bool.not_eq_true, hok]
    exact ⟨hused, hfails⟩
  · rw [Bool.and_eq_false_imp, usedChannel_iff, Bool.not_eq_false', hok]
    exact hlower d hlt

end

/-! ### Store writes that complete (10 R187, R188) -/

/-- Each of the eight items replaced in turn by its image under its index's own function. -/
theorem foldl_octIndexes_set {α : Type} (o : Oct α) (f : Fin 8 → α → α) :
    octIndexes.foldl (fun o c => o.set c (f c (o.get c))) o = Oct.ofFn fun c => f c (o.get c) := by
  cases o; rfl

theorem State.foldl_copyBaseline (l : List Chan) (s : State) : l.foldl State.copyBaseline s = { s with
    chans := l.foldl (fun o c =>
      o.set c { o.get c with prof := { (o.get c).prof with working := s.stg.image.baseline.get c } }) s.chans } := by
  induction l generalizing s with
  | nil => rfl
  | cons c l ih => exact ih (s.copyBaseline c)

/-- Every working profile copies its baseline (03 R65). -/
theorem State.foldl_octIndexes_copyBaseline (s : State) : octIndexes.foldl State.copyBaseline s = { s with
    chans := Oct.ofFn fun c =>
      { s.chans.get c with prof := { (s.chans.get c).prof with working := s.stg.image.baseline.get c } } } := by
  rw [State.foldl_copyBaseline]
  exact congrArg (fun chans => ({ s with chans := chans } : State))
    (foldl_octIndexes_set s.chans fun c u => { u with prof := { u.prof with working := s.stg.image.baseline.get c } })

theorem State.lockInCompletes_eq (s : State) (i : Image) (check : BitVec 16) : s.lockInCompletes i check = { s with
    chans := Oct.ofFn fun c =>
      { s.chans.get c with prof := { (s.chans.get c).prof with working := s.stg.image.baseline.get c } }
    stg := { s.stg with
      write := none, storeInvalid := false, locked := some check, phase := .run, scanPos := 0, scanCrc := 0xFFFF
      lastPass := none, checkTimer := some (s.now + 20)
      store := { written := true, torn := false, image := i, check := check, mark := true } } } := by
  unfold State.lockInCompletes
  rw [State.foldl_octIndexes_copyBaseline]
  rfl

end

end Sys2Proof.Machine

namespace Sys2Proof.Proofs

open Sys2Proof.Machine Sys2Proof.Claim

/-- Settles O26: REOPEN in RUN by its readiness, a COMMAND frame in RUN, and SETUP. -/
theorem reopenNeedsRestAndStandstill : Obligations.ReopenNeedsRestAndStandstill := by
  intro s hd ready
  have hready : _ ↔ ready := s.reopenReady_iff
  have performs {u : State} {status : Status} {data : BitVec 48} (hrun : s.stg.phase = .run)
      (h : (s.arrived .side).reopen = { state := u.arrived .side, status := status, data := data }) :
      exec (.reopen .side) s = .next (delivered .side { code := 4, status := status, data := data } u) :=
    execManaged_delivered (cmd := .reopen) hd nofun (fun h => nomatch h.symm.trans hrun) (by rw [hrun]; rfl) nofun h
  obtain ⟨hr, hw, -⟩ := hd
  exact ⟨fun hrun h => performs hrun (if_pos (hready.mpr h)), fun hrun h => performs hrun (if_neg (mt hready.mp h)),
    fun hrun => execManaged_denied (cmd := .reopen) hr (if_pos ⟨rfl, hrun⟩) nofun,
    fun hsetup path => execManaged_denied (cmd := .reopen) hr
      (State.judge_wrongPhase (s.arrived path) path .reopen nofun hw (fun h => nomatch h.symm.trans hsetup)
        (by rw [show (s.arrived path).stg.phase = .setup from hsetup]; rfl)) nofun⟩

/-- Settles O31: what LOCK-IN answers, and then its checks in their order, each with those before it passed. -/
theorem lockInChecksThenWrites : Obligations.LockInChecksThenWrites := by
  constructor
  · intro s path hd hsetup busy
    have performs {u : State} {status : Status} {data : BitVec 48}
        (h : (s.arrived path).lockIn = { state := u.arrived path, status := status, data := data }) :
        exec (.lockIn path) s = .next (delivered path { code := 10, status := status, data := data } u) :=
      execManaged_setup (cmd := .lockIn) hd hsetup nofun rfl nofun h
    have hbusy : _ ↔ busy := (s.arrived path).lockInBusy_iff
    exact ⟨fun h => performs (State.lockIn_busy (hbusy.mpr h)),
      fun _ _ h hfails => performs (State.lockIn_fails (s := s.arrived path) (mt hbusy.mp h) hfails),
      fun h hpasses => performs (State.lockIn_begins (s := s.arrived path) (mt hbusy.mp h) hpasses)⟩
  · intro i used travels pass1 pass2 pass3 pass4 pass5 pass6 pass7
    have hzones (c : Chan) : zonesValid (i.zones.get c) = true ↔ zonesValid (i.zones.get c) = true := .rfl
    have hbins (c : Chan) : ((i.baseline.get c).allGood fun b => decide (1 ≤ b)) = true ↔
        ∀ b : Fin 64, 1 ≤ (i.baseline.get c).get b := by
      simp only [Bins.allGood_iff, decide_eq_true_iff]
    have htravels (c : Chan) : withinTravel (i.chan.get c) = true ↔ travels c := withinTravel_iff _
    have ordered (h3 : pass3) : thresholdsOrdered i.glob = true := (thresholdsOrdered_iff _).mpr h3
    have distinct (h4 : pass4) : clashChannel i = none := clashChannel_eq_none (clashingChannels_eq_nil_iff.mpr h4)
    unfold lockInFailure lockInChecks
    refine ⟨fun h1 => ?_, fun h1 h2 => ?_, fun h1 h2 h3 => ?_, fun h1 h2 h3 h4 => ?_, fun h1 h2 h3 h4 c h5 hlower => ?_,
      fun h1 h2 h3 h4 h5 c h6 hlower => ?_, fun h1 h2 h3 h4 h5 h6 c h7 hlower => ?_, fun h1 h2 h3 h4 h5 h6 h7 => ?_⟩
    · rw [if_neg h1]; rfl
    · rw [if_pos h1, if_neg h2]; rfl
    · rw [if_pos h1, if_pos h2, if_neg (mt (thresholdsOrdered_iff _).mp h3)]; rfl
    · obtain ⟨c, hmem, hclash⟩ := exists_clashChannel (mt clashingChannels_eq_nil_iff.mp h4)
      obtain ⟨hc, d, hlt, haddr⟩ := mem_clashingChannels.mp hmem
      refine ⟨c, d, hlt, hc, fun hd => hc (haddr ▸ hd), haddr.symm, ?_⟩
      rw [if_pos h1, if_pos h2, if_pos (ordered h3), hclash]; rfl
    · rw [if_pos h1, if_pos h2, if_pos (ordered h3), distinct h4, firstFailing_eq_some hzones h5 hlower]; rfl
    · rw [if_pos h1, if_pos h2, if_pos (ordered h3), distinct h4, firstFailing_eq_none hzones h5, firstFailing_eq_some hbins h6 hlower]; rfl
    · rw [if_pos h1, if_pos h2, if_pos (ordered h3), distinct h4, firstFailing_eq_none hzones h5, firstFailing_eq_none hbins h6,
        firstFailing_eq_some htravels h7 hlower]; rfl
    · rw [if_pos h1, if_pos h2, if_pos (ordered h3), distinct h4, firstFailing_eq_none hzones h5, firstFailing_eq_none hbins h6,
        firstFailing_eq_none htravels h7]; rfl

/-- Settles O33: the rows of both completions, failed and verified. -/
theorem storeWriteCompletionsSetThePhase : Obligations.StoreWriteCompletionsSetThePhase := by
  intro s hr
  refine ⟨fun i check hw => ?_, fun hw => ?_⟩
  · have row (verified : Bool) : exec (.lockInStoreWriteComplete verified) s =
        .next (if verified then s.lockInCompletes i check else s.storeWriteFails) := by
      show execLockInStoreWriteComplete verified s = _
      rw [execLockInStoreWriteComplete, whileRunning_running s _ hr, hw]
    exact ⟨row false, (row true).trans (congrArg _ (s.lockInCompletes_eq i check))⟩
  · have row (verified : Bool) : exec (.reopenStoreWriteComplete verified) s =
        .next (if verified then s.reopenCompletes else s.storeWriteFails) := by
      show execReopenStoreWriteComplete verified s = _
      rw [execReopenStoreWriteComplete, whileRunning_running s _ hr, hw]
    exact ⟨row false, row true⟩

end Sys2Proof.Proofs
end

section
/-! The configuration check: its steps, and the pass that they make over the 935 values of the image (10 R187, R189). -/

namespace Sys2Proof.Machine

open Sys2Proof.Claim

section
variable {s : State}

/-! ### The 935 values (10 R187) -/

theorem length_flatMap_of_forall {α β : Type} {f : α → List β} {n : Nat} (h : ∀ x, (f x).length = n) (l : List α) :
    (l.flatMap f).length = l.length * n := by
  simp [List.length_flatMap, h]

/-- A zone list of any length stands as its count and six records of four values. -/
theorem length_zoneValues (zs : List Zone) : (zoneValues zs).length = 25 := by
  rw [zoneValues, List.length_cons, length_flatMap_of_forall (n := 4)]
  · rfl
  · intro i; split <;> rfl

theorem length_imageValues (i : Image) : (imageValues i).length = 935 := by
  have hchan := length_flatMap_of_forall (fun cs : ChanSettings => List.length_map cs.read (as := ChanSetting.all)) i.chan.toList
  have hzones := length_flatMap_of_forall length_zoneValues i.zones.toList
  have hbins := length_flatMap_of_forall
    (fun b : Bins Nat => (List.length_map (fun n : Nat => (n : Int))).trans (Bins.length_toList b)) i.baseline.toList
  have hoct {α : Type} (o : Oct α) : o.toList.length = 8 := rfl
  have hchans : ChanSetting.all.length = 24 := rfl
  have hglobs : GlobSetting.all.length = 31 := rfl
  rw [imageValues, List.length_append, List.length_append, List.length_append, hchan, hzones, hbins, List.length_map]
  simp only [hoct, hchans, hglobs]

/-! ### The check value segment by segment (10 R189) -/

theorem crc16From_append (crc : BitVec 16) (a b : List Byte) : crc16From crc (a ++ b) = crc16From (crc16From crc a) b :=
  List.foldl_append

theorem valueBytes_append (a b : List Int) : valueBytes (a ++ b) = valueBytes a ++ valueBytes b := List.flatMap_append

/-- The first `n` segments taken one after another are the first `15 n` values taken at once. -/
theorem crc16From_segments (crc : BitVec 16) (vs : List Int) (n : Nat) :
    (List.range n).foldl (fun crc k => crc16From crc (valueBytes ((vs.drop (15 * k)).take 15))) crc =
      crc16From crc (valueBytes (vs.take (15 * n))) := by
  induction n with
  | zero => rfl
  | succ n ih =>
    rw [List.range_succ, List.foldl_append, ih, Nat.mul_succ, List.take_add, valueBytes_append, crc16From_append]
    rfl

/-! ### The row (log 1, log 33) -/

theorem exec_checkStep (hr : s.rst.active = false) : exec .checkStep s =
    .next (if s.stg.phase = .run ∧ isDue s.stg.checkTimer s.now = true then { s with stg := checkStepOf s.stg s.now } else s) :=
  whileRunning_running s _ hr

theorem checkStepOf_goesOn {u : SettingsUnit} (h : u.scanPos < 63) (now : Nat) : checkStepOf u now =
    { u with scanPos := u.scanPos + 1, scanCrc := crc16From u.scanCrc (segmentBytes u.image u.scanPos)
             checkTimer := some (now + 20) } := if_pos h

theorem checkStepOf_endsPass {u : SettingsUnit} (h : ¬u.scanPos < 63) (now : Nat) : checkStepOf u now =
    { u with scanPos := 0, scanCrc := 0xFFFF, lastPass := some (crc16From u.scanCrc (segmentBytes u.image u.scanPos))
             configFault := u.configFault || decide (u.locked ≠ some (crc16From u.scanCrc (segmentBytes u.image u.scanPos)))
             checkTimer := some (now + 20) } := if_neg h

end

end Sys2Proof.Machine

namespace Sys2Proof.Proofs

open Sys2Proof.Machine Sys2Proof.Claim

/-- Settles O34: the row before its timer, the row by the scan position, and the whole pass. -/
theorem checkStepsComputeTheCheckValue : Obligations.CheckStepsComputeTheCheckValue := by
  refine ⟨fun s hr hearly => ?_, fun s hr hrun hdue => ?_, fun i => ⟨length_imageValues i, ?_⟩⟩
  · rw [exec_checkStep hr, if_neg fun h => hearly ((isDue_iff_reached _ _).mp h.2)]
  · have hrow : exec .checkStep s = .next { s with stg := checkStepOf s.stg s.now } := by
      rw [exec_checkStep hr, if_pos ⟨hrun, (isDue_iff_reached _ _).mpr hdue⟩]
    refine ⟨fun hpos => ?_, fun hpos => ?_⟩
    · rw [hrow, checkStepOf_goesOn hpos]; rfl
    · rw [hrow, checkStepOf_endsPass (by omega), segmentBytes]
  · rw [crc16From_segments, List.take_of_length_le (by rw [length_imageValues]; decide)]; rfl

end Sys2Proof.Proofs
end

section
/-! WRITE SETTING: what it stores and echoes, and what a write of NODE_ADDR makes of the channels (10 R185, 01 R4). -/

namespace Sys2Proof

theorem ChanSetting.range_le (k : ChanSetting) : k.range.1 ≤ k.range.2 := by cases k <;> decide

theorem GlobSetting.range_le (k : GlobSetting) : k.range.1 ≤ k.range.2 := by cases k <;> decide

end Sys2Proof

namespace Sys2Proof.Machine

open Sys2Proof.Claim

section
variable {s t : State} {c : Chan} {path : Path} {old : Oct Nat}

/-! ### Binding judged again, with slots and entries (01 R4) -/

/-- The channel is not bound any more as it was: it has become unbound, or its NODE_ADDR is another (log 16). -/
def State.unbinds (s : State) (old : Oct Nat) (c : Chan) : Bool :=
  decide ((s.chan c).ctl.st ≠ .absent) && !(s.isBound c && decide ((s.cset c).nodeAddr = old.get c))

theorem State.unbinds_iff : s.unbinds old c = true ↔
    (s.chans.get c).ctl.st ≠ .absent ∧ ¬(bound s c ∧ (s.cset c).nodeAddr = old.get c) := by
  rw [← s.isBound_iff, State.unbinds, Bool.and_eq_true, decide_eq_true_iff, Bool.not_eq_true', ← Bool.not_eq_true,
    Bool.and_eq_true, decide_eq_true_iff]
  rfl

/-- The part holds of channel `c` this unit, this slot and this entry. -/
def State.shows (s : State) (c : Chan) (u : ChannelUnit) (slot : Bool) (entry : Option Entry) : Prop :=
  s.chans.get c = u ∧ s.arb.slots.get c = slot ∧ s.entryOf c = entry

/-- The judgement releases the slot and removes the entry of a channel that is not bound any more as it was. -/
theorem State.arb_judgeBinding (old : Oct Nat) (s : State) (c : Chan) :
    (s.judgeBinding old c).arb = if s.unbinds old c then SlotArbiter.drop s.arb c else s.arb := by
  have hfirst : (if s.unbinds old c then s.becomeUnbound c else s).arb =
      if s.unbinds old c then SlotArbiter.drop s.arb c else s.arb := by
    split
    · rw [State.becomeUnbound_eq]; rfl
    · rfl
  unfold State.judgeBinding; dsimp only
  split
  · split
    · exact hfirst
    · exact hfirst
  · exact hfirst

theorem State.judgeBinding_shows (old : Oct Nat) (s : State) (c : Chan) : (s.judgeBinding old c).shows c
    ((s.chans.get c).judged (s.bindingRecord c) (decide ((s.cset c).nodeAddr = old.get c)))
    (if s.unbinds old c then false else s.arb.slots.get c) (if s.unbinds old c then none else s.entryOf c) := by
  refine ⟨State.chans_judgeBinding old s c, ?_, ?_⟩
  · rw [State.arb_judgeBinding]; split
    · exact Oct.get_set_self _ _ _
    · rfl
  · unfold State.entryOf
    rw [State.arb_judgeBinding]; split
    · exact find_entry_filter_self _ _
    · rfl

theorem OnlyChannel.shows {d : Chan} (only : OnlyChannel d s t) (h : c ≠ d) {u : ChannelUnit} {slot : Bool} {entry : Option Entry}
    (hs : s.shows c u slot entry) : t.shows c u slot entry :=
  ⟨(only.chans c h).trans hs.1, (only.slots c h).trans hs.2.1, (only.entries c h).trans hs.2.2⟩

/-- Binding judged again for every channel makes of the unit, the slot and the entry of each what its own judgement does. -/
theorem State.rebind_shows (s : State) (old : Oct Nat) (c : Chan) : (s.rebind old).shows c
    ((s.chans.get c).judged (s.bindingRecord c) (decide ((s.cset c).nodeAddr = old.get c)))
    (if s.unbinds old c then false else s.arb.slots.get c) (if s.unbinds old c then none else s.entryOf c) := by
  generalize hv : (s.chans.get c).judged (s.bindingRecord c) (decide ((s.cset c).nodeAddr = old.get c)) = v
  generalize hslotAfter : (if s.unbinds old c then false else s.arb.slots.get c) = slot
  generalize hentryAfter : (if s.unbinds old c then none else s.entryOf c) = entry
  refine foldl_octIndexes_own (op := State.judgeBinding old)
    (P := fun t => t.shows c (s.chans.get c) (s.arb.slots.get c) (s.entryOf c) ∧ t.enr = s.enr ∧ t.stg = s.stg)
    (Q := fun t => t.shows c v slot entry) c (fun t d hd ⟨hshows, henr, hstg⟩ => ?_)
    (fun t ⟨⟨hunit, hslot, hentry⟩, henr, hstg⟩ => ?_) (fun t d hd ht => ?_) ⟨⟨rfl, rfl, rfl⟩, rfl, rfl⟩
  · have only := onlyChannel_judgeBinding old t d
    exact ⟨only.shows hd.symm hshows, only.enr.trans henr, only.stg.trans hstg⟩
  · have hown := State.judgeBinding_shows old t c
    have hunbinds : t.unbinds old c = s.unbinds old c := by
      unfold State.unbinds State.isBound State.runInProgress State.cset State.chan
      rw [hunit, henr, hstg]
    have haddr : (t.cset c).nodeAddr = (s.cset c).nodeAddr := by unfold State.cset; rw [hstg]
    rwa [hunit, hslot, hentry, hunbinds, haddr,
      State.bindingRecord_congr (s := s) (by rw [hstg]) (by rw [henr]) (by rw [henr]),
      hv, hslotAfter, hentryAfter] at hown
  · exact (onlyChannel_judgeBinding old t d).shows hd.symm ht

theorem State.pending_rebind (s : State) (old : Oct Nat) : (s.rebind old).pending = s.pending :=
  foldl_octIndexes_field _ State.pending (fun s c => (onlyChannel_judgeBinding old s c).pending) s

section
variable (u : ChannelUnit) (hu : s.chans.get c = u)
include hu

/-- A channel that is ABSENT and not bound stays as it is. -/
theorem State.rebind_absent (hst : u.ctl.st = .absent) (hb : ¬bound s c) :
    (s.rebind old).shows c u (s.arb.slots.get c) (s.entryOf c) := by
  have hstays : ¬s.unbinds old c = true := fun h => (State.unbinds_iff.mp h).1 (hu ▸ hst)
  have h := s.rebind_shows old c
  rw [if_neg hstays, if_neg hstays, (s.bindingRecord_eq_none_iff c).mpr hb, hu] at h
  rwa [show u.judged none _ = u from if_pos hst] at h

/-- A channel that is bound by the NODE_ADDR it was bound by stays as it is. -/
theorem State.rebind_keeps (hst : u.ctl.st ≠ .absent) (hb : bound s c) (haddr : (s.cset c).nodeAddr = old.get c) :
    (s.rebind old).shows c u (s.arb.slots.get c) (s.entryOf c) := by
  have hstays : ¬s.unbinds old c = true := fun h => (State.unbinds_iff.mp h).2 ⟨hb, haddr⟩
  have hrecord : s.bindingRecord c ≠ none := fun h => (s.bindingRecord_eq_none_iff c).mp h hb
  have h := s.rebind_shows old c
  rw [if_neg hstays, if_neg hstays, decide_eq_true haddr, hu] at h
  rwa [judged_of_stands (iff_of_false hst hrecord)] at h

/-- A channel that is not bound any more has ended what it carried. -/
theorem State.rebind_unbinds (hst : u.ctl.st ≠ .absent) (hb : ¬bound s c) :
    (s.rebind old).shows c (unboundUnit u) false none := by
  have hleaves : s.unbinds old c = true := State.unbinds_iff.mpr ⟨hu ▸ hst, fun h => hb h.1⟩
  have h := s.rebind_shows old c
  rw [if_pos hleaves, if_pos hleaves, (s.bindingRecord_eq_none_iff c).mpr hb, hu] at h
  rwa [show u.judged none _ = unboundUnit u from if_neg hst] at h

variable {a : Node} {r : NodeRecord} (hb : bound s c) (ha : (s.stg.image.chan.get c).nodeAddr = a.val + 1)
  (hr : s.enr.table.get a = some r)
include hb ha hr

/-- A channel that becomes bound. -/
theorem State.rebind_binds (hst : u.ctl.st = .absent) :
    (s.rebind old).shows c (boundUnit u r) (s.arb.slots.get c) (s.entryOf c) := by
  have hstays : ¬s.unbinds old c = true := fun h => (State.unbinds_iff.mp h).1 (hu ▸ hst)
  have h := s.rebind_shows old c
  rw [if_neg hstays, if_neg hstays, State.bindingRecord_of_bound hb ha, hr, hu] at h
  rwa [show u.judged (some r) _ = boundUnit u r from if_pos hst] at h

/-- A channel that goes from one bound address to another is unbound and bound again (log 16). -/
theorem State.rebind_moves (hst : u.ctl.st ≠ .absent) (haddr : (s.cset c).nodeAddr ≠ old.get c) :
    (s.rebind old).shows c (boundUnit (unboundUnit u) r) false none := by
  have hleaves : s.unbinds old c = true := State.unbinds_iff.mpr ⟨hu ▸ hst, fun h => haddr h.2⟩
  have h := s.rebind_shows old c
  rw [if_pos hleaves, if_pos hleaves, State.bindingRecord_of_bound hb ha, hr, decide_eq_false haddr, hu] at h
  rwa [show u.judged (some r) false = boundUnit (unboundUnit u) r from if_neg hst] at h

end

/-! ### The write (10 R185) -/

/-- A command that leaves the trunk port as it found it has made its change to the port as it was before the frame came. -/
theorem State.eq_arrived (h : t.trk = TrunkPort.arrived s.trk path) : t = State.arrived { t with trk := s.trk } path := by
  unfold State.arrived; rw [← h]

/-- A value answered in one field at the top of the data bits. -/
theorem State.okWith_one (s : State) (w : Nat) (v : Int) : s.okWith [(w, v)] =
    { state := s, status := .ok, data := BitVec.ofInt 48 (v % 2 ^ w * 2 ^ (48 - w)) } := by
  rw [State.okWith, answerData_one]

theorem State.slotsHeld_pos_iff (s : State) : 0 < s.slotsHeld ↔ ∃ c : Chan, s.arb.slots.get c = true := by
  rw [State.slotsHeld, List.countP_pos_iff, ← Oct.any_iff (fun b => b), List.any_eq_true]

section
variable {ch id : Byte} {v : BitVec 16}

/-- The value that a write of a range stores: the operand clamped. -/
def clampedTo (range : Int × Int) (v : BitVec 16) : Int := max range.1 (min range.2 v.toInt)

theorem clamp_eq_clampedTo {range : Int × Int} (h : range.1 ≤ range.2) (v : BitVec 16) :
    clamp range.1 range.2 v.toInt = clampedTo range v := clamp_eq_max_min h _

/-- The echo of a stored value: as wide as its range needs, at the top of the data bits (log 13). -/
def echoOf (range : Int × Int) (v : BitVec 16) : BitVec 48 :=
  BitVec.ofInt 48 (clampedTo range v % 2 ^ rangeWidth range * 2 ^ (48 - rangeWidth range))

/-- A stored global setting reads back clamped. -/
theorem GlobSettings.read_write_self (g : GlobSettings) (k : GlobSetting) (v : BitVec 16) :
    (g.write k v.toInt).read k = clampedTo k.range v := by
  rw [GlobSettings.write, clamp_eq_clampedTo k.range_le]
  exact GlobSettings.read_put_self g k (le_max_left _ _)

/-- A stored per-channel setting reads back clamped. -/
theorem ChanSettings.read_write_self (g : ChanSettings) (k : ChanSetting) (v : BitVec 16) :
    (g.write k v.toInt).read k = clampedTo k.range v := by
  rw [ChanSettings.write, clamp_eq_clampedTo k.range_le]
  exact ChanSettings.read_put_self g k (le_max_left _ _)

theorem State.writeSetting_glob {k : GlobSetting} (hid : 32 ≤ id.toNat) (hk : GlobSetting.all[id.toNat - 32]? = some k) :
    s.writeSetting ch id v = if k = .slots ∧ 0 < s.slotsHeld then s.deny .busy else
      { state := withImage s fun i => { i with glob := i.glob.write k v.toInt }, status := .ok, data := echoOf k.range v } := by
  rw [State.writeSetting, chanSetting_ofId_ge hid, globSetting_ofId_ge hid, hk]; dsimp only
  rw [State.okWith_one, clamp_eq_clampedTo k.range_le]; rfl

theorem State.writeSetting_chan {k : ChanSetting} (hch : ch.toNat = c.val) (hk : ChanSetting.all[id.toNat]? = some k) :
    s.writeSetting ch id v = if k = .travel ∧ (s.chans.get c).prof.teach = .running then s.deny .busy else
      { state := s.writeChanSetting c k v.toInt, status := .ok, data := echoOf k.range v } := by
  rw [State.writeSetting, show ChanSetting.ofId id.toNat = some k from hk]; dsimp only
  rw [State.onChannel_of_val hch, State.okWith_one, clamp_eq_clampedTo k.range_le]; rfl

theorem State.writeSetting_noId (h : (24 ≤ id.toNat ∧ id.toNat < 32) ∨ 0x3E < id.toNat) :
    s.writeSetting ch id v = s.deny .badArgument := by
  obtain ⟨hchan, hglob⟩ := settings_ofId_none h
  rw [State.writeSetting, hchan, hglob]

/-- The state with a write stored in the image of one channel. -/
def State.storing (s : State) (c : Chan) (k : ChanSetting) (v : BitVec 16) : State :=
  withImage s fun i => { i with chan := i.chan.set c ((s.stg.image.chan.get c).write k v.toInt) }

theorem State.writeChanSetting_stores {k : ChanSetting} (hlow : k ≠ .bandLow) (hhigh : k ≠ .bandHigh) (haddr : k ≠ .nodeAddr) :
    s.writeChanSetting c k v.toInt = s.storing c k v := by
  cases k with
  | bandLow => exact absurd rfl hlow
  | bandHigh => exact absurd rfl hhigh
  | nodeAddr => exact absurd rfl haddr
  | _ => rfl

/-- A band written brings the working profile back to the baseline (03 R65). -/
theorem State.writeChanSetting_band {k : ChanSetting} (h : k = .bandLow ∨ k = .bandHigh) : s.writeChanSetting c k v.toInt =
    withUnit (s.storing c k v) c fun u => { u with prof := { u.prof with working := s.stg.image.baseline.get c } } := by
  obtain rfl | rfl := h <;> rfl

theorem State.writeChanSetting_nodeAddr : s.writeChanSetting c .nodeAddr v.toInt = (s.storing c .nodeAddr v).rebind s.nodeAddrs :=
  rfl

/-! ### A write of NODE_ADDR (01 R4, log 16) -/

/-- The NODE_ADDR settings once one has been written. -/
theorem State.nodeAddr_storing (s : State) (c d : Chan) (v : BitVec 16) : ((s.storing c .nodeAddr v).cset d).nodeAddr =
    if d = c then ((s.stg.image.chan.get c).write .nodeAddr v.toInt).nodeAddr else (s.cset d).nodeAddr := by
  show ((s.stg.image.chan.set c _).get d).nodeAddr = _
  rw [Oct.get_set]; split <;> rfl

/-- A channel is bound by another NODE_ADDR than before where its own has been written with another value. -/
theorem State.nodeAddr_moves_iff (s : State) (c d : Chan) (v : BitVec 16) :
    ((s.storing c .nodeAddr v).cset d).nodeAddr ≠ s.nodeAddrs.get d ↔
      d = c ∧ ((s.stg.image.chan.get c).nodeAddr : Int) ≠ clampedTo ChanSetting.nodeAddr.range v := by
  have hread : ((((s.stg.image.chan.get c).write .nodeAddr v.toInt).nodeAddr : Nat) : Int) =
      clampedTo ChanSetting.nodeAddr.range v := ChanSettings.read_write_self _ .nodeAddr v
  rw [State.nodeAddr_storing, State.nodeAddrs, Oct.get_map, ← hread]
  split
  · next h => subst h; simp [eq_comm]
  · next h => exact iff_of_false (not_not.mpr rfl) fun hd => h hd.1

/-- What a write of NODE_ADDR makes of a channel that is ABSENT exactly where it is not bound (01 R4, log 16). -/
theorem State.rebind_after_write {after : State} (hafter : after = (s.storing c .nodeAddr v).rebind s.nodeAddrs) {d : Chan}
    (habsent : (s.chans.get d).ctl.st = .absent ↔ ¬bound s d) :
    let moved := d = c ∧ ((s.stg.image.chan.get c).nodeAddr : Int) ≠ clampedTo ChanSetting.nodeAddr.range v
    let stays := fun u => after.shows d u (s.arb.slots.get d) (s.entryOf d)
    let leaves := fun u => after.shows d u false none
    (¬bound s d → ¬bound after d → stays (s.chans.get d)) ∧
    (bound s d → bound after d → ¬moved → stays (s.chans.get d)) ∧
    (bound s d → ¬bound after d → leaves (unboundUnit (s.chans.get d))) ∧
    (∀ (a : Node) (r : NodeRecord), bound after d → (after.stg.image.chan.get d).nodeAddr = a.val + 1 →
      s.enr.table.get a = some r →
      (¬bound s d → stays (boundUnit (s.chans.get d) r)) ∧
      (bound s d → moved → leaves (boundUnit (unboundUnit (s.chans.get d)) r))) := by
  intro moved stays leaves
  have hstg : after.stg = (s.storing c .nodeAddr v).stg := hafter ▸ State.stg_rebind _ _
  have henr : after.enr = s.enr := hafter ▸ State.enr_rebind _ _
  have hbound : bound after d ↔ bound (s.storing c .nodeAddr v) d :=
    bound_congr (fun _ => by rw [hstg]) (fun _ => by rw [henr]; rfl) (by rw [henr]; rfl) d
  have hmoved : moved ↔ _ := (s.nodeAddr_moves_iff c d v).symm
  have hpresent (hs : bound s d) : (s.chans.get d).ctl.st ≠ .absent := fun h => habsent.mp h hs
  have shows {u : ChannelUnit} {slot : Bool} {entry : Option Entry}
      (h : ((s.storing c .nodeAddr v).rebind s.nodeAddrs).shows d u slot entry) : after.shows d u slot entry := by
    rw [hafter]; exact h
  have hunit : (s.storing c .nodeAddr v).chans.get d = s.chans.get d := rfl
  refine ⟨fun hs ht => shows (State.rebind_absent _ hunit (habsent.mpr hs) (mt hbound.mpr ht)),
    fun hs ht hm => shows (State.rebind_keeps _ hunit (hpresent hs) (hbound.mp ht) (not_not.mp (mt hmoved.mpr hm))),
    fun hs ht => shows (State.rebind_unbinds _ hunit (hpresent hs) (mt hbound.mpr ht)), fun a r ht ha hr => ?_⟩
  rw [hstg] at ha
  exact ⟨fun hs => shows (State.rebind_binds _ hunit (hbound.mp ht) ha hr (habsent.mpr hs)),
    fun hs hm => shows (State.rebind_moves _ hunit (hbound.mp ht) ha hr (hpresent hs) (hmoved.mp hm))⟩

end

end

end Sys2Proof.Machine

namespace Sys2Proof.Proofs

open Sys2Proof.Machine Sys2Proof.Claim

/-- Settles O27: a global setting, a per-channel setting with the bands and NODE_ADDR, and the ids of no setting. -/
theorem writeSettingClampsAndStores : Obligations.WriteSettingClampsAndStores := by
  intro s path ch id v hd hsetup
  let w := s.arrived path
  have performs {u : State} {status : Status} {data : BitVec 48}
      (h : w.writeSetting ch id v = { state := u.arrived path, status := status, data := data }) :
      exec (.writeSetting path ch id v) s = .next (delivered path { code := 5, status := status, data := data } u) :=
    execManaged_setup (cmd := .writeSetting ch id v) hd hsetup nofun rfl nofun h
  refine ⟨fun k hid hk => ?_, fun c k hch hk => ?_, fun h => performs (State.writeSetting_noId (s := w) h)⟩
  · have hwrite := State.writeSetting_glob (s := w) (ch := ch) (v := v) hid hk
    refine ⟨fun hfree => ⟨s.stg.image.glob.write k v.toInt, GlobSettings.read_write_self _ k v,
      fun j hj => GlobSettings.read_put_ne _ _ hj, performs (hwrite.trans (if_neg fun ⟨hslots, hheld⟩ => ?_))⟩,
      fun hslots hheld => performs (hwrite.trans (if_pos ⟨hslots, w.slotsHeld_pos_iff.mpr hheld⟩))⟩
    obtain ⟨c, hc⟩ := w.slotsHeld_pos_iff.mp hheld
    exact hfree.elim (· hslots) fun hnone => nomatch hc.symm.trans (hnone c)
  · have hwrite := State.writeSetting_chan (s := w) (v := v) hch hk
    refine ⟨fun htravel hteach => performs (hwrite.trans (if_pos ⟨htravel, hteach⟩)), fun hfree =>
      ⟨(s.stg.image.chan.get c).write k v.toInt, ChanSettings.read_write_self _ k v,
        fun j hj => ChanSettings.read_put_ne _ _ hj, ?_⟩⟩
    have writes {u : State} (h : w.writeChanSetting c k v.toInt = u.arrived path) :
        exec (.writeSetting path ch id v) s = .next (delivered path (ok 5 (echoOf k.range v)) u) :=
      performs ((hwrite.trans (if_neg fun h => hfree.elim (· h.1) (· h.2))).trans (by rw [h]))
    refine ⟨fun hlow hhigh haddr => writes (State.writeChanSetting_stores (s := w) hlow hhigh haddr),
      fun hband => writes (State.writeChanSetting_band (s := w) hband), ?_⟩
    rintro rfl
    let stored := w.storing c .nodeAddr v
    obtain ⟨after, hafter⟩ : ∃ after, after = stored.rebind w.nodeAddrs := ⟨_, rfl⟩
    obtain ⟨hctx, hbr, hnow⟩ := stored.rebind_frame w.nodeAddrs
    have hstg := stored.stg_rebind w.nodeAddrs
    have henr := stored.enr_rebind w.nodeAddrs
    have htrk := stored.trk_rebind w.nodeAddrs
    have hrst := stored.rst_rebind w.nodeAddrs
    have hpending := stored.pending_rebind w.nodeAddrs
    have hstands := bindingStands_rebind stored w.nodeAddrs
    rw [← hafter] at hctx hbr hnow hstg henr htrk hrst hpending hstands
    have hwrites : w.writeChanSetting c .nodeAddr v.toInt = after := State.writeChanSetting_nodeAddr.trans hafter.symm
    refine ⟨{ after with trk := s.trk }, writes (hwrites.trans (State.eq_arrived htrk)), hstands, hstg, hctx, hbr, henr, rfl, hrst,
      hnow, hpending, fun d habsent => State.rebind_after_write (s := w) hafter habsent⟩

end Sys2Proof.Proofs
end

section
/-! Storage faults: what each place takes, and what no place holds (10 R189, log 20). Every other command completes. -/

namespace Sys2Proof

/-! ### Settings of any 16-bit value -/

theorem ChanSetting.zero_le_range (k : ChanSetting) : 0 ≤ k.range.1 := by cases k <;> decide

/-- A per-channel setting reads back any value that is not negative, whatever its range. -/
theorem ChanSettings.read_put_of_nonneg (s : ChanSettings) (k : ChanSetting) {v : Int} (h : 0 ≤ v) : (s.put k v).read k = v := by
  cases k <;> exact Int.toNat_of_nonneg h

/-- A global setting reads back any value that is not negative, and one of the signed settings any value. -/
theorem GlobSettings.read_put_of_nonneg (s : GlobSettings) (k : GlobSetting) {v : Int} (h : 0 ≤ v ∨ k.range.1 < 0) :
    (s.put k v).read k = v := by
  cases k with
  | cold1Temp | cold2Temp => rfl
  | _ => exact Int.toNat_of_nonneg (h.resolve_right (by decide))

theorem wordOf_unsigned {r : Int × Int} (h : 0 ≤ r.1) : wordOf r = (0, 65535) := if_neg (not_lt.mpr h)

theorem wordOf_signed {r : Int × Int} (h : r.1 < 0) : wordOf r = (-32768, 32767) := if_pos h

theorem Zone.fits_iff (z : Zone) : z.fits = true ↔ -32768 ≤ z.start ∧ z.start ≤ 32767 ∧ -32768 ≤ z.stop ∧ z.stop ≤ 32767 ∧
    z.kind ≤ 65535 ∧ -32768 ≤ z.adjust ∧ z.adjust ≤ 32767 := by
  simp only [Zone.fits, Bool.and_eq_true, within_iff, upTo_iff, and_assoc]

theorem zonesFit_iff (zs : List Zone) : zonesFit zs = true ↔ zs.length ≤ 6 ∧ ∀ z ∈ zs, z.fits = true := by
  simp only [zonesFit, Bool.and_eq_true, upTo_iff, List.all_eq_true]

theorem Collector.inRange_iff (k : Collector) :
    k.inRange = true ↔ ∀ got, k = .collecting got → 1 ≤ got.length ∧ got.length ≤ 3 := by
  cases k with
  | idle => exact iff_of_true rfl nofun
  | collecting got =>
    simp only [Collector.inRange, within_iff, Collector.collecting.injEq, forall_eq', Nat.one_le_cast, Nat.cast_le_ofNat]

/-- What a write in flight would store is 16 bits wide. -/
theorem writeFits_iff (w : Option StoreWrite) :
    absentOr StoreWrite.fits w = true ↔ ∀ i check, w = some (.lockIn i check) → i.fits = true := by
  cases w with
  | none => exact iff_of_true rfl nofun
  | some w =>
    cases w with
    | reopen => exact iff_of_true rfl nofun
    | lockIn i check => exact ⟨fun h _ _ heq => by cases heq; exact h, fun h => h i check rfl⟩

end Sys2Proof

namespace Sys2Proof.Machine

open Sys2Proof.Claim

/-! ### The rows -/

theorem exec_storageFault {p : StoragePlace} (h : p.holds = true) (s : State) :
    exec (.storageFault p) s = .next (s.putAt p) := if_pos h

theorem exec_storageFault_notHeld {p : StoragePlace} (h : ¬p.holds = true) (s : State) :
    exec (.storageFault p) s = .fault .valueNotHeld := if_neg h

/-- The meaning of every row but a storage fault is written as a next state: of the reset rows as they stand, of the others as a
command of a running part. -/
theorem exec_completes {i : Instr} (hi : ∀ p, i ≠ .storageFault p) (s : State) : ∃ t, exec i s = .next t := by
  cases i with
  | storageFault p => exact absurd rfl (hi p)
  | _ => exact ⟨_, rfl⟩

/-- A storage fault alone can be ill formed. -/
theorem wellFormed_of_ne {i : Instr} (hi : ∀ p, i ≠ .storageFault p) : i.wellFormed = true := by
  cases i with
  | storageFault p => exact absurd rfl (hi p)
  | _ => rfl

end Sys2Proof.Machine

namespace Sys2Proof.Proofs

open Sys2Proof.Machine Sys2Proof.Claim

/-- Settles O3: a storage fault by what its place holds, and every other command. -/
theorem wellFormedCommandsComplete : Obligations.WellFormedCommandsComplete := by
  intro i s
  by_cases hi : ∃ p, i = .storageFault p
  · obtain ⟨p, rfl⟩ := hi
    exact ⟨fun h => ⟨_, exec_storageFault h s⟩, fun h => exec_storageFault_notHeld (Bool.not_eq_true _ ▸ h) s⟩
  · have hother (p : StoragePlace) : i ≠ .storageFault p := fun h => hi ⟨p, h⟩
    exact ⟨fun _ => exec_completes hother s, fun h => nomatch h.symm.trans (wellFormed_of_ne hother)⟩

/-- Settles O35: place by place, that it holds the value; what it then takes is the model's replacement of it. -/
theorem storageFaultChangesTheNamedValue : Obligations.StorageFaultChangesTheNamedValue := by
  intro s puts
  have takes {p : StoragePlace} (h : p.holds = true) : puts p (s.putAt p) := exec_storageFault h s
  have beyond {v : Nat} (hv : 65535 < v) : ¬upTo 65535 v = true := fun h => not_le.mpr hv ((upTo_iff _ _).mp h)
  refine ⟨fun c k v hlo hhi => ⟨(s.stg.image.chan.get c).put k v, ChanSettings.read_put_of_nonneg _ k hlo,
      fun j hj => ChanSettings.read_put_ne _ v hj, takes ?_⟩,
    fun k v hv => ⟨s.stg.image.glob.put k v, GlobSettings.read_put_of_nonneg _ k (hv.imp And.left fun h => h.2.2),
      fun j hj => GlobSettings.read_put_ne _ v hj, takes ?_⟩,
    fun c zs hlen hzs => takes ((zonesFit_iff zs).mpr ⟨hlen, fun z hz => z.fits_iff.mpr (hzs z hz)⟩),
    fun c b v hv => ⟨takes ((upTo_iff _ _).mpr hv), takes ((upTo_iff _ _).mpr hv)⟩,
    fun c b v hv => ⟨exec_storageFault_notHeld (p := .baselineBin c b v) (beyond hv) s,
      exec_storageFault_notHeld (p := .workingBin c b v) (beyond hv) s⟩,
    fun _ _ => takes rfl, fun _ _ => takes rfl, fun _ _ => takes rfl, fun _ _ => takes rfl, fun _ _ => takes rfl,
    fun _ _ => takes rfl, fun _ => takes rfl, fun _ hlen => takes ((upTo_iff _ _).mpr hlen), fun _ _ => takes rfl,
    fun _ _ _ _ => takes rfl, fun _ => takes rfl, fun r hlen hgot => takes ?_, fun r himage hstore hwrite => takes ?_,
    fun _ => takes rfl, fun _ => takes rfl⟩
  · show within (wordOf k.range).1 (wordOf k.range).2 v = true
    rw [wordOf_unsigned k.zero_le_range, within_iff]
    exact ⟨hlo, hhi⟩
  · show within (wordOf k.range).1 (wordOf k.range).2 v = true
    rw [within_iff]
    obtain ⟨hlo, hhi, hrange⟩ | ⟨hlo, hhi, hrange⟩ := hv
    · rw [wordOf_unsigned hrange]; exact ⟨hlo, hhi⟩
    · rw [wordOf_signed hrange]; exact ⟨hlo, hhi⟩
  · exact Bool.and_eq_true_iff.mpr ⟨(upTo_iff _ _).mpr hlen, r.collector.inRange_iff.mpr hgot⟩
  · exact Bool.and_eq_true_iff.mpr ⟨Bool.and_eq_true_iff.mpr ⟨himage, hstore⟩, (writeFits_iff r.write).mpr hwrite⟩

end Sys2Proof.Proofs
end

section
/-! The branch frames read back: their bits as one word, and the sample, the identity and the drive word in it (07 R145, R149, R154,
11 R192). -/

namespace Sys2Proof.Machine

open Sys2Proof.Claim

/-! ### A word as its bits -/

section
variable {n v k i : Nat}

theorem bitsDown_eq_bitsOfNat (w : BitVec n) : bitsDown w = bitsOfNat n w.toNat := rfl

theorem length_bitsDown (w : BitVec n) : (bitsDown w).length = n := length_bitsOfNat _ _

theorem getElem?_bitsDown (w : BitVec n) (h : i < n) : (bitsDown w)[i]? = some (w.getLsbD (n - 1 - i)) :=
  getElem?_bitsOfNat _ h

/-- The field of a word that begins `i` bits below its top. -/
theorem bitsDown_take_drop (w : BitVec n) (h : i + k ≤ n) :
    ((bitsDown w).drop i).take k = bitsDown (w.extractLsb' (n - i - k) k) := by
  refine List.ext_getElem? fun j => ?_
  by_cases hj : j < k
  · rw [List.getElem?_take_of_lt hj, List.getElem?_drop, getElem?_bitsDown w (by omega), getElem?_bitsDown _ hj,
      BitVec.getLsbD_extractLsb', decide_eq_true (by omega : k - 1 - j < k), Bool.true_and]
    congr 2; omega
  · rw [List.getElem?_eq_none (by simp; omega), List.getElem?_eq_none (by rw [length_bitsDown]; omega)]

theorem bitsDown_append (x : BitVec v) (y : BitVec n) : bitsDown (x ++ y) = bitsDown x ++ bitsDown y := by
  have hhigh := bitsDown_take_drop (x ++ y) (i := 0) (k := v) (by omega)
  have hlow := bitsDown_take_drop (x ++ y) (i := v) (k := n) (by omega)
  rw [show v + n - 0 - v = n by omega, BitVec.extractLsb'_append_eq_left] at hhigh
  rw [show v + n - v - n = 0 by omega, BitVec.extractLsb'_append_eq_right,
    List.take_of_length_le (by simp [length_bitsDown])] at hlow
  rw [← hhigh, ← hlow, List.drop_zero, List.take_append_drop]

theorem bitsDown_ofBool (b : Bool) : bitsDown (BitVec.ofBool b) = [b] := by cases b <;> rfl

/-- The number of a list with one more bit at its end. -/
theorem natOfBits_concat (l : List Bool) (b : Bool) : natOfBits (l ++ [b]) = 2 * natOfBits l + b.toNat := List.foldl_concat ..

/-- A field with one more bit at its end. -/
theorem bitsOfNat_succ (w m : Nat) : bitsOfNat (w + 1) m = bitsOfNat w (m / 2) ++ [m.testBit 0] := by
  rw [bitsOfNat, List.range_succ, List.map_append, List.map_singleton, bitsOfNat]
  congr 1
  · refine List.map_congr_left fun i hi => ?_
    rw [Nat.testBit_div_two]
    have := List.mem_range.mp hi
    congr 1; omega
  · simp

theorem natOfBits_bitsOfNat (w : Nat) : ∀ m, natOfBits (bitsOfNat w m) = m % 2 ^ w := by
  induction w with
  | zero => intro m; rw [pow_zero, Nat.mod_one]; rfl
  | succ w ih =>
    intro m
    rw [bitsOfNat_succ, natOfBits_concat, ih, pow_succ', Nat.mod_mul, Nat.testBit_zero]
    obtain h | h := Nat.mod_two_eq_zero_or_one m
    · simp [h]
    · simp [h]; omega

theorem bitsOfNat_natOfBits (l : List Bool) : bitsOfNat l.length (natOfBits l) = l := by
  induction l using List.reverseRecOn with
  | nil => rfl
  | append_singleton l b ih =>
    rw [List.length_append, List.length_singleton, bitsOfNat_succ, natOfBits_concat]
    have hlow : (2 * natOfBits l + b.toNat) / 2 = natOfBits l := by have := b.toNat_lt; omega
    rw [hlow, ih]
    cases b <;> simp

theorem natOfBits_bitsDown (w : BitVec n) : natOfBits (bitsDown w) = w.toNat :=
  (natOfBits_bitsOfNat n _).trans (Nat.mod_eq_of_lt w.isLt)

/-- Every list of bits is a word of its length. -/
theorem exists_bitsDown {l : List Bool} (h : l.length = n) : ∃ w : BitVec n, l = bitsDown w := by
  subst h
  refine ⟨BitVec.ofNat _ (natOfBits l), ?_⟩
  have hlt : natOfBits l < 2 ^ l.length := by
    rw [← bitsOfNat_natOfBits l, natOfBits_bitsOfNat, length_bitsOfNat]; exact Nat.mod_lt _ (by positivity)
  rw [bitsDown_eq_bitsOfNat, BitVec.toNat_ofNat, Nat.mod_eq_of_lt hlt, bitsOfNat_natOfBits]

/-- Words of one length are told apart by their bits. -/
theorem bitsDown_inj {x y : BitVec n} : bitsDown x = bitsDown y ↔ x = y :=
  ⟨fun h => BitVec.eq_of_toNat_eq (by rw [← natOfBits_bitsDown x, h, natOfBits_bitsDown]), congrArg _⟩

/-! ### Frames of the branch -/

theorem length_branchFrame (body : BitVec n) : (branchFrame body).length = n + 8 := by
  rw [branchFrame, List.length_append, length_bitsDown, length_bitsDown]

theorem take_branchFrame (body : BitVec n) : (branchFrame body).take n = bitsDown body := List.take_left' (length_bitsDown body)

theorem branchFrame_inj {x y : BitVec n} : branchFrame x = branchFrame y ↔ x = y :=
  ⟨fun h => bitsDown_inj.mp (by rw [← take_branchFrame x, h, take_branchFrame]), congrArg _⟩

/-- A field of a frame lies in its body. -/
theorem bitField_branchFrame (body : BitVec n) (h : i + k ≤ n) :
    bitField (branchFrame body) i k = (body.extractLsb' (n - i - k) k).toNat := by
  have hlen := length_bitsDown body
  rw [bitField, branchFrame, List.drop_append_of_le_length (by omega),
    List.take_append_of_le_length (by rw [List.length_drop]; omega), bitsDown_take_drop body h, natOfBits_bitsDown]

theorem getD_branchFrame (body : BitVec n) (h : i < n) : (branchFrame body).getD i false = body.getLsbD (n - 1 - i) := by
  rw [branchFrame, List.getD_append _ _ _ _ (by rwa [length_bitsDown]), List.getD_eq_getElem?_getD, getElem?_bitsDown body h,
    Option.getD_some]

/-- The bits whose last eight are the CRC-8 of those before them are the frames of the branch. -/
theorem checks_iff_branchFrame {bits : List Bool} : bits.length = n + 8 ∧ bitField bits n 8 = (crc8 (bits.take n)).toNat ↔
    ∃ body : BitVec n, bits = branchFrame body := by
  constructor
  · rintro ⟨hlen, hcrc⟩
    obtain ⟨body, hbody⟩ := exists_bitsDown (l := bits.take n) (n := n) (by rw [List.length_take]; omega)
    obtain ⟨crc, hlast⟩ := exists_bitsDown (l := bits.drop n) (n := 8) (by rw [List.length_drop]; omega)
    rw [bitField, List.take_of_length_le (by rw [List.length_drop]; omega), hlast, natOfBits_bitsDown, hbody] at hcrc
    refine ⟨body, ?_⟩
    rw [branchFrame, ← BitVec.eq_of_toNat_eq hcrc, ← hbody, ← hlast, List.take_append_drop]
  · rintro ⟨body, rfl⟩
    refine ⟨length_branchFrame body, ?_⟩
    rw [take_branchFrame, bitField, branchFrame, List.drop_left' (length_bitsDown body),
      List.take_of_length_le (length_bitsDown _).le, natOfBits_bitsDown]

end

/-- A reader that takes the frame of a body for the content whose layout the body is, and nothing that does not check, reads each
content off its own frame alone. -/
theorem reads_iff {α : Type} {n : Nat} {read : List Bool → Option α} {layout : α → BitVec n} {m : α}
    (hframes : ∀ body, read (branchFrame body) = some m ↔ layout m = body)
    (hother : ∀ bits, ¬(bits.length = n + 8 ∧ bitField bits n 8 = (crc8 (bits.take n)).toNat) → read bits = none)
    (bits : List Bool) : read bits = some m ↔ bits = branchFrame (layout m) := by
  by_cases hframe : ∃ body : BitVec n, bits = branchFrame body
  · obtain ⟨body, rfl⟩ := hframe
    rw [hframes, branchFrame_inj, eq_comm]
  · rw [hother bits fun h => hframe (checks_iff_branchFrame.mp h)]
    exact iff_of_false nofun fun h => hframe ⟨_, h⟩

/-! ### The sample frame (07 R149, R152) -/

section
variable {m : Sample}

theorem Sample.body_eq (m : Sample) : Sample.body m = bitsDown (sampleBody m) := by
  simp only [Sample.body, sampleBody, bitsDown_append, bitsDown_ofBool, List.append_assoc]
  rfl

theorem Sample.bits_eq (m : Sample) : Sample.bits m = branchFrame (sampleBody m) := by
  rw [Sample.bits, Sample.body_eq]; rfl

/-- The sample whose fields stand in a body. -/
def sampleIn (body : BitVec 40) : Sample :=
  { counter := body.extractLsb' 28 12, current := body.extractLsb' 16 12, volt := body.extractLsb' 8 8
    atEnd := body.getLsbD 7, hallFault := body.getLsbD 6, overtemp := body.getLsbD 5, freshStart := body.getLsbD 4
    keep := body.extractLsb' 2 2 }

/-- One bit of a word as a field. -/
theorem ofBool_getLsbD {n : Nat} (w : BitVec n) (i : Nat) : BitVec.ofBool (w.getLsbD i) = w.extractLsb' i 1 := by
  refine BitVec.eq_of_getLsbD_eq fun j hj => ?_
  obtain rfl : j = 0 := by omega
  simp

/-- A body with zero bits 0 is laid out for the sample in it, and for no other. -/
theorem sampleBody_eq_iff {body : BitVec 40} : sampleBody m = body ↔ body.extractLsb' 0 2 = 0 ∧ sampleIn body = m := by
  constructor
  · rintro rfl
    refine ⟨BitVec.extractLsb'_append_eq_right, Sample.mk.injEq .. |>.mpr ⟨?_, ?_, ?_, ?_, ?_, ?_, ?_, ?_⟩⟩
    all_goals
      simp only [sampleBody, BitVec.extractLsb'_append_eq_of_le, BitVec.extractLsb'_append_eq_right, BitVec.extractLsb'_eq_self,
        Nat.reduceLeDiff, Nat.reduceSub, BitVec.getLsbD_append]
    all_goals simp
  · rintro ⟨hzero, rfl⟩
    have hzero : 0#2 = body.extractLsb' 0 2 := hzero.symm
    simp only [sampleBody, sampleIn, ofBool_getLsbD, hzero, BitVec.extractLsb'_append_extractLsb'_eq_extractLsb',
      BitVec.extractLsb'_eq_self]

theorem sampleOf_branchFrame (body : BitVec 40) :
    sampleOf (branchFrame body) = if body.extractLsb' 0 2 = 0 then some (sampleIn body) else none := by
  have hchecks : (branchFrame body).length = 48 ∧ bitField (branchFrame body) 40 8 = (crc8 ((branchFrame body).take 40)).toNat :=
    checks_iff_branchFrame.mpr ⟨body, rfl⟩
  obtain ⟨hlen, hcrc⟩ := hchecks
  simp (disch := decide) only [sampleOf, hlen, hcrc, true_and, bitField_branchFrame, getD_branchFrame, BitVec.ofNat_toNat,
    BitVec.setWidth_eq]
  exact if_congr (BitVec.toNat_eq (y := 0)).symm rfl rfl

/-- A sample frame is read as the content it is laid out for, and no other frame is. -/
theorem sampleOf_eq_some_iff (m : Sample) (bits : List Bool) : sampleOf bits = some m ↔ bits = branchFrame (sampleBody m) :=
  reads_iff (read := sampleOf) (fun body => by rw [sampleOf_branchFrame, Option.ite_none_right_eq_some, Option.some_inj, sampleBody_eq_iff])
    (fun _ hfails => if_neg fun h => hfails ⟨h.1, h.2.1⟩) bits

end

/-! ### The identity frame (07 R154) -/

section
variable {m : Identity}

theorem Identity.body_eq (m : Identity) : Identity.body m = bitsDown (identityBody m) := by
  simp only [Identity.body, identityBody, bitsDown_append]
  rfl

theorem Identity.bits_eq (m : Identity) : Identity.bits m = branchFrame (identityBody m) := by
  rw [Identity.bits, Identity.body_eq]; rfl

/-- The identity whose fields stand in a body. -/
def identityIn (body : BitVec 48) : Identity :=
  { cls := body.extractLsb' 40 8, tag := body.extractLsb' 16 24, rated := body.extractLsb' 4 12 }

theorem identityBody_eq_iff {body : BitVec 48} : identityBody m = body ↔ body.extractLsb' 0 4 = 0 ∧ identityIn body = m := by
  constructor
  · rintro rfl
    refine ⟨BitVec.extractLsb'_append_eq_right, Identity.mk.injEq .. |>.mpr ⟨?_, ?_, ?_⟩⟩
    all_goals
      simp only [identityBody, BitVec.extractLsb'_append_eq_of_le, BitVec.extractLsb'_append_eq_right, BitVec.extractLsb'_eq_self,
        Nat.reduceLeDiff, Nat.reduceSub]
  · rintro ⟨hzero, rfl⟩
    have hzero : 0#4 = body.extractLsb' 0 4 := hzero.symm
    simp only [identityBody, identityIn, hzero, BitVec.extractLsb'_append_extractLsb'_eq_extractLsb',
      BitVec.extractLsb'_eq_self]

theorem identityOf_branchFrame (body : BitVec 48) :
    identityOf (branchFrame body) = if body.extractLsb' 0 4 = 0 then some (identityIn body) else none := by
  have hchecks : (branchFrame body).length = 56 ∧ bitField (branchFrame body) 48 8 = (crc8 ((branchFrame body).take 48)).toNat :=
    checks_iff_branchFrame.mpr ⟨body, rfl⟩
  obtain ⟨hlen, hcrc⟩ := hchecks
  simp (disch := decide) only [identityOf, hlen, hcrc, true_and, bitField_branchFrame, BitVec.ofNat_toNat,
    BitVec.setWidth_eq]
  exact if_congr (BitVec.toNat_eq (y := 0)).symm rfl rfl

theorem identityOf_eq_some_iff (m : Identity) (bits : List Bool) :
    identityOf bits = some m ↔ bits = branchFrame (identityBody m) :=
  reads_iff (read := identityOf) (fun body => by rw [identityOf_branchFrame, Option.ite_none_right_eq_some, Option.some_inj, identityBody_eq_iff])
    (fun _ hfails => if_neg fun h => hfails ⟨h.1, h.2.1⟩) bits

end

/-! ### The drive word (07 R145) -/

section
variable (cmds : Oct DriveCommand) (assign : Nat)

/-- The 24 bits of a drive word before its CRC-8. -/
def driveBody : BitVec 24 :=
  BitVec.ofNat 2 (DriveCommand.code cmds.a0) ++ BitVec.ofNat 2 (DriveCommand.code cmds.a1) ++
  BitVec.ofNat 2 (DriveCommand.code cmds.a2) ++ BitVec.ofNat 2 (DriveCommand.code cmds.a3) ++
  BitVec.ofNat 2 (DriveCommand.code cmds.a4) ++ BitVec.ofNat 2 (DriveCommand.code cmds.a5) ++
  BitVec.ofNat 2 (DriveCommand.code cmds.a6) ++ BitVec.ofNat 2 (DriveCommand.code cmds.a7) ++ BitVec.ofNat 8 assign

theorem driveWordOf_eq : driveWordOf cmds assign = driveBody cmds assign ++ crc8 (bitsDown (driveBody cmds assign)) := by
  have hbody : (driveBody cmds assign).toNat =
      packFields 24 (cmds.toList.map (fun d => (2, (DriveCommand.code d : Int))) ++ [(8, (assign : Int))]) := by
    simp only [driveBody, toNat_append_add, toNat_ofNat_field]
    simp [packFields, Oct.toList]
  refine BitVec.eq_of_toNat_eq ?_
  rw [driveWordOf, ← hbody, ← bitsDown_eq_bitsOfNat, BitVec.toNat_ofNat, toNat_append_add]
  exact Nat.mod_eq_of_lt (by omega)

theorem take_driveLineBits_driveWordOf : (driveLineBits (driveWordOf cmds assign)).take 24 = bitsDown (driveBody cmds assign) := by
  rw [driveWordOf_eq, show driveLineBits = bitsDown from rfl, bitsDown_append, List.take_left' (length_bitsDown _)]

/-- The field of each address in the drive word. -/
theorem extractLsb'_driveWordOf_command (a : Node) :
    (driveWordOf cmds assign).extractLsb' (30 - 2 * a.val) 2 = BitVec.ofNat 2 (DriveCommand.code (cmds.get a)) := by
  rw [driveWordOf_eq, driveBody]
  fin_cases a <;> simp only [BitVec.extractLsb'_append_eq_of_le, BitVec.extractLsb'_append_eq_right, BitVec.extractLsb'_eq_self,
    Nat.reduceLeDiff, Nat.reduceSub, Nat.reduceMul] <;> rfl

/-- The assign field of the drive word. -/
theorem extractLsb'_driveWordOf_assign : (driveWordOf cmds assign).extractLsb' 8 8 = BitVec.ofNat 8 assign := by
  rw [driveWordOf_eq, BitVec.extractLsb'_append_eq_of_le le_rfl]
  exact BitVec.extractLsb'_append_eq_right

theorem extractLsb'_driveWordOf_crc :
    (driveWordOf cmds assign).extractLsb' 0 8 = crc8 ((driveLineBits (driveWordOf cmds assign)).take 24) := by
  rw [take_driveLineBits_driveWordOf, driveWordOf_eq]
  exact BitVec.extractLsb'_append_eq_right

end

end Sys2Proof.Machine
end

section
/-! The trunk frames read back: the receiver over the bytes of a frame, and the answers laid out (09 R173, 11 R190, R191). -/

namespace Sys2Proof.Machine

open Sys2Proof.Claim

/-! ### The bytes of a word -/

/-- The bytes of a word, high byte first, are its bytes cut out. -/
theorem bytesOfBits_toNat (n : Nat) {w : Nat} (x : BitVec w) :
    bytesOfBits n x.toNat = (List.range n).map fun i => x.extractLsb' (8 * (n - 1 - i)) 8 := by
  refine List.map_congr_left fun i _ => ?_
  rw [BitVec.extractLsb', Nat.shiftRight_eq_div_pow, pow_mul]
  norm_num

theorem bytesOfBits_word (w : BitVec 16) : bytesOfBits 2 w.toNat = wordBytes w := bytesOfBits_toNat 2 w

theorem bytesOfBits_entry (e : BitVec 32) : bytesOfBits 4 e.toNat = entryBytes e := bytesOfBits_toNat 4 e

theorem bytesOfBits_reply (r : Reply) : bytesOfBits 8 (Reply.bits r).toNat = responsePayload r := by
  rw [bytesOfBits_toNat]
  show [_, _, _, _, _, _, _, _] = _
  simp (disch := decide) only [Reply.bits, responsePayload, BitVec.extractLsb'_append_eq_of_le,
    BitVec.extractLsb'_append_eq_of_add_le, BitVec.extractLsb'_eq_self, Nat.reduceMul, Nat.reduceSub]

/-- A word is its two bytes side by side, high byte first. -/
theorem extractLsb'_append_word (w : BitVec 16) : w.extractLsb' 8 8 ++ w.extractLsb' 0 8 = w :=
  BitVec.extractLsb'_append_extractLsb'

/-! ### Frames -/

section
variable {kind : Byte} {payload : List Byte}

theorem trunkFrame_eq_frameWith (kind : Byte) (payload : List Byte) :
    trunkFrame kind payload = frameWith (frameCrc kind payload) kind payload := rfl

/-- The kinds that a receiver takes, with the lengths of their payloads (11 R190). -/
def takenLength (kind : Byte) (payload : List Byte) : Prop :=
  (kind = 1 ∧ payload.length = 16) ∨ (kind = 3 ∧ (payload.length = 8 ∨ payload.length = 19))

theorem cycleOfBytes_cyclePayload (p : CyclePayload) : cycleOfBytes (cyclePayload p) = p :=
  congrArg (fun f => { p with fragment := f }) (extractLsb'_append_word p.fragment)

theorem commandPayloadOfBytes_commandPayload (p : CommandPayload) : commandPayloadOfBytes (commandPayload p) = p := by
  cases p with
  | short b => rfl
  | long code channel first v =>
    have hwords : (fun w : BitVec 16 => w.extractLsb' 8 8 ++ w.extractLsb' 0 8) = id := funext extractLsb'_append_word
    show CommandPayload.long code channel first (v.map fun w => w.extractLsb' 8 8 ++ w.extractLsb' 0 8) = _
    rw [hwords]; rfl

/-- The frames of each row have a length that their kind takes. -/
theorem takenLength_commandPayload (p : CommandPayload) : takenLength 3 (commandPayload p) := by
  cases p with
  | short b => exact .inr ⟨rfl, .inl rfl⟩
  | long code channel first v => exact .inr ⟨rfl, .inr rfl⟩

/-! ### The receiver (09 R173) -/

/-- The row of the bytes that follow the length byte, the last of them having come. -/
def bodyRow (kind len : Byte) (all : List Byte) : Instr :=
  if crc16 ([kind, len] ++ all.take len.toNat) = wordAt all len.toNat then frameCommand kind (all.take len.toNat)
  else .frameDiscarded .badCrc

theorem receiverByte_body_of_lt {len b : Byte} {got : List Byte} (h : got.length + 1 < len.toNat + 2) :
    receiverByte (.body kind len got) b = (.body kind len (got ++ [b]), none) := by
  rw [receiverByte]; dsimp only
  rw [if_pos (by rwa [List.length_append, List.length_singleton])]

theorem receiverByte_body_last {len b : Byte} {got : List Byte} (h : got.length + 1 = len.toNat + 2) :
    receiverByte (.body kind len got) b = (.hunt, some (bodyRow kind len (got ++ [b]))) := by
  rw [receiverByte, bodyRow]; dsimp only
  rw [if_neg (by rw [List.length_append, List.length_singleton]; omega)]
  split <;> rfl

/-- The receiver in BODY collects what remains, and judges the frame at its last byte. -/
theorem receiver_body {len : Byte} (rest : List Byte) : ∀ got : List Byte, rest ≠ [] → got.length + rest.length = len.toNat + 2 →
    receiverFeed (.body kind len got) rest = [bodyRow kind len (got ++ rest)] ∧
      receiverAfter (.body kind len got) rest = .hunt := by
  induction rest with
  | nil => exact fun _ h => absurd rfl h
  | cons b rest ih =>
    intro got _ hlen
    rw [List.length_cons] at hlen
    rw [receiverFeed, receiverAfter, List.foldl_cons, ← receiverAfter]
    cases rest with
    | nil =>
      rw [receiverByte_body_last (by simpa using hlen)]
      exact ⟨rfl, rfl⟩
    | cons b' rest =>
      rw [List.length_cons] at hlen
      rw [receiverByte_body_of_lt (by omega), List.append_cons got b (b' :: rest)]
      exact ih (got ++ [b]) nofun (by simp; omega)

/-- The start byte, the kind and the length bring the receiver from HUNT to BODY. -/
theorem receiver_header {rest : List Byte} (h : takenLength kind payload) :
    receiverFeed .hunt (0xA5 :: kind :: BitVec.ofNat 8 payload.length :: rest) =
        receiverFeed (.body kind (BitVec.ofNat 8 payload.length) []) rest ∧
      receiverAfter .hunt (0xA5 :: kind :: BitVec.ofNat 8 payload.length :: rest) =
        receiverAfter (.body kind (BitVec.ofNat 8 payload.length) []) rest := by
  obtain ⟨rfl, hlen⟩ | ⟨rfl, hlen | hlen⟩ := h <;> rw [hlen] <;> exact ⟨rfl, rfl⟩

/-- The two bytes at the end of a frame's bytes are its CRC-16. -/
theorem wordAt_append_wordBytes (payload : List Byte) (crc : BitVec 16) :
    wordAt (payload ++ wordBytes crc) payload.length = crc := by
  rw [wordAt, byteAt, byteAt, List.getD_append_right _ _ _ _ le_rfl, List.getD_append_right _ _ _ _ (Nat.le_add_right _ 1),
    Nat.sub_self, Nat.add_sub_cancel_left]
  exact extractLsb'_append_word crc

/-- A frame of a kind and length that the receiver takes, from HUNT: its row where its CRC-16 checks, else discarded; the receiver
hunts again. -/
theorem receiver_frameWith (h : takenLength kind payload) (crc : BitVec 16) :
    receiverFeed .hunt (frameWith crc kind payload) =
        [if frameCrc kind payload = crc then frameCommand kind payload else .frameDiscarded .badCrc] ∧
      receiverAfter .hunt (frameWith crc kind payload) = .hunt := by
  have hlen : (BitVec.ofNat 8 payload.length).toNat = payload.length := by
    rw [BitVec.toNat_ofNat]; unfold takenLength at h; omega
  have hrow : bodyRow kind (BitVec.ofNat 8 payload.length) (payload ++ wordBytes crc) =
      if frameCrc kind payload = crc then frameCommand kind payload else .frameDiscarded .badCrc := by
    rw [bodyRow, hlen, List.take_left, wordAt_append_wordBytes]; rfl
  obtain ⟨hfeed, hafter⟩ := receiver_body (kind := kind) (len := BitVec.ofNat 8 payload.length) (payload ++ wordBytes crc) []
    (by simp [wordBytes]) (by rw [hlen]; simp [wordBytes])
  rw [frameWith, (receiver_header h).1, (receiver_header h).2, hfeed, hafter, List.nil_append, hrow]
  exact ⟨rfl, rfl⟩

end

/-- A byte that starts no frame, an unknown kind and a wrong length. -/
theorem receiverByte_rejects (b : Byte) : (b ≠ 0xA5 → receiverByte .hunt b = (.hunt, none)) ∧
    (b ≠ 1 → b ≠ 3 → receiverByte .kind b = (.hunt, some (.frameDiscarded .unknownKind))) ∧
    (b ≠ 16 → receiverByte (.length 1) b = (.hunt, some (.frameDiscarded .wrongLength))) ∧
    (b ≠ 8 → b ≠ 19 → receiverByte (.length 3) b = (.hunt, some (.frameDiscarded .wrongLength))) :=
  ⟨fun h => if_neg h, fun h1 h3 => if_neg fun h => h.elim h1 h3,
    fun h => if_neg fun hk => hk.elim (fun hk => h hk.2) fun hk => absurd hk.1 (by decide),
    fun h8 h19 => if_neg fun hk => hk.elim (fun hk => absurd hk.1 (by decide)) fun hk => hk.2.elim h8 h19⟩

/-! ### The answers (09 R174) -/

theorem Answer.lineBytes_report {a : Answer} {side : SideField} {b : ReportBody} (h : a.body = .report side (some b)) :
    Answer.lineBytes a = frameWith (frameCrc 2 (reportPayload side b)) 2 (reportPayload side b) := by
  unfold Answer.lineBytes; rw [h]; dsimp only
  rw [trunkFrame_eq_frameWith, funext fun e : BitVec 32 => bytesOfBits_entry e, bytesOfBits_word, bytesOfBits_word]
  rfl

theorem Answer.lineBytes_response {a : Answer} {r : Reply} (h : a.body = .response r) :
    Answer.lineBytes a = frameWith (frameCrc 4 (responsePayload r)) 4 (responsePayload r) := by
  unfold Answer.lineBytes; rw [h]; dsimp only
  rw [trunkFrame_eq_frameWith, bytesOfBits_reply]

end Sys2Proof.Machine

namespace Sys2Proof.Proofs

open Sys2Proof.Machine Sys2Proof.Claim

/-- Every frame of a row has a kind and a length that the receiver takes, and is read as that row. -/
theorem frameCommand_of_row {kind : Byte} {payload : List Byte} {row : Instr}
    (h : (∃ p : CyclePayload, kind = 1 ∧ payload = cyclePayload p ∧ row = .goodCycleFrame p) ∨
      ∃ p : CommandPayload, kind = 3 ∧ payload = commandPayload p ∧ row = .goodCommandFrame p) :
    takenLength kind payload ∧ frameCommand kind payload = row := by
  obtain ⟨p, rfl, rfl, rfl⟩ | ⟨p, rfl, rfl, rfl⟩ := h
  · exact ⟨.inl ⟨rfl, rfl⟩, congrArg Instr.goodCycleFrame (cycleOfBytes_cyclePayload p)⟩
  · exact ⟨takenLength_commandPayload p, congrArg Instr.goodCommandFrame (commandPayloadOfBytes_commandPayload p)⟩

/-- Settles O58: the branch frames and the drive word by their bits, the trunk frames by the receiver's run over their bytes, which
the line's bits read back, and the answers by their layouts. -/
theorem framesReadBack : Obligations.FramesReadBack := by
  refine ⟨fun m => ⟨m.bits_eq, sampleOf_eq_some_iff m⟩, fun m => ⟨m.bits_eq, identityOf_eq_some_iff m⟩,
    fun _ => rfl, ?_, receiverByte_rejects,
    fun a => ⟨rfl, fun _ _ => Answer.lineBytes_report, fun _ => Answer.lineBytes_response⟩,
    fun w => ⟨length_driveLineBits w, fun _ hi => getElem?_bitsDown w hi⟩, ?_⟩
  · intro kind payload row hrow
    obtain ⟨hlen, hread⟩ := frameCommand_of_row hrow
    obtain ⟨hfeed, hafter⟩ := receiver_frameWith hlen (frameCrc kind payload)
    rw [if_pos rfl, hread] at hfeed
    refine ⟨hfeed, hafter, (lineFeed_flatMap _ _).trans hfeed, fun crc hcrc => ?_⟩
    obtain ⟨hdiscard, hhunts⟩ := receiver_frameWith hlen crc
    rw [if_neg hcrc.symm] at hdiscard
    exact ⟨hdiscard, hhunts⟩
  · intro cmds assign _
    refine ⟨fun a => (extractLsb'_driveWordOf_command cmds assign a).trans ?_, extractLsb'_driveWordOf_assign cmds assign,
      extractLsb'_driveWordOf_crc cmds assign⟩
    cases cmds.get a <;> rfl

end Sys2Proof.Proofs
end

section
/-! One step with a command waiting (95, log 2). -/

namespace Sys2Proof.Proofs

open Sys2Proof.Machine

/-- Settles O1: a queue with a front command leaves `step` its second branch alone; the tick of log 2 is the branch of the empty
queue. -/
theorem stepRunsFrontCommand : Obligations.StepRunsFrontCommand := by
  intro c rest s hqueue
  unfold step
  rw [hqueue]

end Sys2Proof.Proofs
end
